-- ==== Sys2Proof/Word.lean ====
section
/-! DEFINITION. The words the spec treats as bits: bytes of both serial lines and of the tag, 12-bit raw codes,
16-bit check values and the link's shift register. -/

namespace Sys2Proof

/-- One byte of a serial line or of the tag. -/
abbrev Byte := BitVec 8

/-- A 16-bit register: the check value of R189, the generator of R121. -/
abbrev Word16 := BitVec 16

/-- A raw code of the front end, 0 to 4,095 (01, section 1.2). -/
abbrev RawCode := BitVec 12

end Sys2Proof
end

