-- ==== Sys2Proof/Machine/Bytes.lean ====
section
/-! DEFINITION. Byte order, presence bytes, flag bytes and the check value (12, R189, R191). -/

namespace Sys2Proof.Machine

/-- 2^32, where the station clock and 32-bit counters end. -/
def two32 : Nat := 4294967296

/-- The bound of a 32-bit saturating count. -/
def max32 : Nat := 4294967295

/-- The bound of a 16-bit saturating count. -/
def max16 : Nat := 65535

/-- Add one, stopping at a bound ("saturating", 00 Arithmetic). -/
def satSucc (bound n : Nat) : Nat := if n < bound then n + 1 else n

/-- The seconds from `a` to `b` on the 32-bit station clock, modulo 2^32 (R143; log entry 26). -/
def elapsed32 (a b : Nat) : Nat := (b + two32 - a) % two32

def byte (n : Nat) : Byte := BitVec.ofNat 8 n

/-- Two bytes, most significant first (12). -/
def be16 (n : Nat) : List Byte := [byte (n / 256), byte n]

/-- Four bytes, most significant first (12). -/
def be32 (n : Nat) : List Byte := [byte (n / 16777216), byte (n / 65536), byte (n / 256), byte n]

/-- A signed field of two bytes, two's complement (12). -/
def be16s (i : Int) : List Byte := be16 (i % 65536).toNat

/-- A signed field of four bytes, two's complement (12). -/
def be32s (i : Int) : List Byte := be32 (i % 4294967296).toNat

/-- The unsigned number of bytes sent most significant first. -/
def ofBytes (l : List Byte) : Nat := l.foldl (fun a b => a * 256 + b.toNat) 0

/-- The signed number of two bytes. -/
def ofBytes16s (l : List Byte) : Int :=
  let n := ofBytes l
  if n < 32768 then n else (n : Int) - 65536

def boolByte (b : Bool) : Byte := if b then 1#8 else 0#8

/-- A flag byte, bit 0 first (12). -/
def flagByte (l : List Bool) : Byte :=
  byte (l.foldr (fun b a => (if b then 1 else 0) + 2 * a) 0)

/-- Two flag bytes as one 16-bit set, bit 0 first, sent most significant byte first (STATUS, R191). -/
def flagBytes16 (l : List Bool) : List Byte :=
  be16 (l.foldr (fun b a => (if b then 1 else 0) + 2 * a) 0)

/-- An "opt" field of a record: the presence byte, then the value bytes or as many zero bytes (R191). -/
def optField (width : Nat) : Option (List Byte) → List Byte
  | none => 0#8 :: List.replicate width 0#8
  | some l => 1#8 :: l

/-- One bit of R189: `b` is the data bit. -/
def crcBit (reg : Word16) (b : Bool) : Word16 :=
  let mix := reg.getLsbD 15 ^^ b
  let shifted := reg <<< 1
  if mix then shifted ^^^ 0x1021#16 else shifted

/-- One byte of R189, most significant bit first. -/
def crcByte (reg : Word16) (b : Byte) : Word16 :=
  [7, 6, 5, 4, 3, 2, 1, 0].foldl (fun r i => crcBit r (b.getLsbD i)) reg

/-- The check value of R189. -/
def crc16 (l : List Byte) : Word16 := l.foldl crcByte 0xFFFF#16

/-- The sum of a message's bytes modulo 256 (R170). -/
def sumBytes (l : List Byte) : Byte := l.foldl (· + ·) 0#8

end Sys2Proof.Machine
end

