-- ==== Sys2Proof/Syntax.lean ====
section
/-! DEFINITION. The commands of the GS-216: one constructor of `Instr` for each row of spec/opcode_table.json, with
what the outside supplies for it. -/

namespace Sys2Proof

/-- The six analogue channels, in the order of the CHANNELS record (R4, R191). -/
inductive Channel where
  | gauge | flow | density | hole | header | uplift
deriving DecidableEq, Repr

/-- One value for each channel. -/
structure PerChannel (α : Type) where
  gauge : α
  flow : α
  density : α
  hole : α
  header : α
  uplift : α
deriving DecidableEq, Repr

def PerChannel.get {α : Type} (p : PerChannel α) : Channel → α
  | .gauge => p.gauge
  | .flow => p.flow
  | .density => p.density
  | .hole => p.hole
  | .header => p.header
  | .uplift => p.uplift

def PerChannel.set {α : Type} (p : PerChannel α) (c : Channel) (v : α) : PerChannel α :=
  match c with
  | .gauge => { p with gauge := v }
  | .flow => { p with flow := v }
  | .density => { p with density := v }
  | .hole => { p with hole := v }
  | .header => { p with header := v }
  | .uplift => { p with uplift := v }

/-- The three digital inputs (R12). -/
inductive Input where
  | sealIn | leakIn | keyIn
deriving DecidableEq, Repr

/-- What the field lines show at one sample set: six raw codes and three contact levels (R4, R12). -/
structure SampleInput where
  codes : PerChannel RawCode
  sealIn : Bool
  leakIn : Bool
  keyIn : Bool
deriving DecidableEq, Repr

/-- The parts of a sample set whose order the spec leaves open (R13, R101, R103; log entry 3). -/
inductive SampleTask where
  | trip | field | counters | envelope | confirm | uplift | connection | header
deriving DecidableEq, Repr

/-- The blocks that act at a stored completion, "either order is allowed" (R45). -/
inductive CompletionTask where
  | regulator | sequencer | supply | counters
deriving DecidableEq, Repr

/-- The blocks that act at a second boundary (R3, R109, R155). -/
inductive BoundaryTask where
  | tagTimeout | sequencer | counters | duplicate | aging | coordination | faults
deriving DecidableEq, Repr

/-- The order of one sample set: the tasks to take first (the rest follow in the spec's order of mention), and the
channels whose failures are reported first. -/
structure SampleOrder where
  tasks : List SampleTask
  channels : List Channel
deriving DecidableEq, Repr

/-- The order of one second boundary: the tasks to take first, and which of several removed entries is reported last. -/
structure BoundaryOrder where
  tasks : List BoundaryTask
  lastSilent : Nat
deriving DecidableEq, Repr

/-- How a frame in reception ends as a fragment (R127). -/
inductive FragmentCause where
  | silence | framing | badLead
deriving DecidableEq, Repr

/-- The two events at which SUPPLY becomes present (R167). -/
inductive SupplyCause where
  | allowance | header
deriving DecidableEq, Repr

/-- A station's hole: line code 0 to 3 and chainage in dm (00, Terms). -/
structure Identity where
  line : Nat
  chainage : Nat
deriving DecidableEq, Repr

/-- The commands, in the order of spec/opcode_table.json. -/
inductive Instr where
  | powerOnReset
  | sampleSet (inp : SampleInput) (ord : SampleOrder)
  | secondBoundary (ord : BoundaryOrder)
  | channelFail (ch : Channel) (code : RawCode)
  | channelRecover (ch : Channel) (code : RawCode)
  | inputDebounceAccept (i : Input) (level : Bool)
  | reckoningCompletion (ord : List CompletionTask)
  | reachedStepArrival
  | autoAdvance
  | testStepEnd
  | mixConfirm
  | mixTimeout
  | endCriteriaClose
  | holdTimerExpiry
  | periodicRequest
  | holdOffEnd
  | attemptStart
  | accessTimeout
  | transmissionComplete
  | attemptFailed
  | linkJam
  | lineIdle
  | frameReceived (bytes : List Byte)
  | badLengthFrame (n : Byte)
  | fragment (why : FragmentCause)
  | duplicateClear
  | entryStale (id : Identity)
  | entryRemoved (id : Identity)
  | supplyPresent (why : SupplyCause)
  | supplyAbsent
  | listenEnd
  | connectionReportStart
  | connectionReportClear
  | tagLoadComplete (image : List Byte)
  | tagLoadTimeout
  | panelMessage (bytes : List Byte)
  | panelSilenceTimeout
  | responseEnd
  | unknownCode (code : Byte) (args : List Byte)
  | status
  | openStage (top bottom : Word16) (profile test advance : Byte)
  | start
  | stepTo (n : Byte)
  | hold
  | release
  | stop
  | abort
  | accept
  | read (item window index : Byte)
  | logRead (k : Byte)
  | logTake
  | snap
  | mix (n : Byte)
  | tune (profile field : Byte) (value : BitVec 32)
  | lock
  | auto (setting : Byte)
  | mask (kind setting : Byte)
  | faultClear
  | restart
  | startBitSeen
  | characterReceived (b : Byte) (stopFound : Bool)
  | panelByteReceived (b : Byte)
deriving DecidableEq, Repr

end Sys2Proof
end

