-- ==== Sys2Proof/Machine/State.lean ====
section
/-! DEFINITION. The state of the GS-216, block by block, as plain data, and its power-on values. -/

namespace Sys2Proof.Machine

/-! ## Stage record (02) -/

/-- The phases of a stage (02, first table), in the order of the bulletin's codes (12.1). -/
inductive Phase where
  | vacant | packed | testing | waiting | injecting | holding | closed
deriving DecidableEq, Repr

/-- The restraint set, one flag per reason (02 section 2.3), in the order of the restraint summary (12.1). -/
structure Restraints where
  operator : Bool
  trip : Bool
  sensor : Bool
  packer : Bool
  standoff : Bool
  connection : Bool
  uplift : Bool
  supply : Bool
deriving DecidableEq, Repr

/-- The empty restraint set. -/
def Restraints.none : Restraints := ⟨false, false, false, false, false, false, false, false⟩

/-- The last presented value of each of the six conditions (R24). -/
structure Conditions where
  sensor : Bool
  packer : Bool
  standoff : Bool
  connection : Bool
  uplift : Bool
  supply : Bool
deriving DecidableEq, Repr

/-- The six outcomes (R35). -/
inductive Outcome where
  | refusal | intensityLimit | volumeLimit | interrupted | operatorStop | aborted
deriving DecidableEq, Repr

/-- The criteria-met set (R35). -/
structure Criteria where
  refusal : Bool
  intensity : Bool
  volume : Bool
deriving DecidableEq, Repr

def Criteria.none : Criteria := ⟨false, false, false⟩

/-- One step record of the water test (R82). -/
structure StepRecord where
  meanQ : Nat
  meanP : Int
  lugeon : Option Nat
deriving DecidableEq, Repr

/-- The test results field (R17, R79). -/
inductive TestResults where
  | absent | abandoned | complete (records : List StepRecord)
deriving DecidableEq, Repr

/-- One entry of the mix history (R86). -/
structure MixEntry where
  mix : Nat
  volume : Nat
  began : Nat
  confirmed : Bool
deriving DecidableEq, Repr

/-- The mix pending (R87). -/
structure MixPending where
  mix : Nat
  requestedAt : Nat
  elapsed : Nat
deriving DecidableEq, Repr

/-- The final P_eff, v and I of a closed stage (R34). -/
structure FinalValues where
  pEff : Int
  v : Nat
  i : Nat
deriving DecidableEq, Repr

/-- The stage record (R17). -/
structure StageRecord where
  number : Nat
  identity : Identity
  top : Nat
  bottom : Nat
  length : Nat
  profile : Nat
  waterTest : Bool
  autoAdvance : Bool
  phase : Phase
  restraints : Restraints
  outcome : Option Outcome
  criteria : Criteria
  results : TestResults
  startMix : Option Nat
  currentMix : Option Nat
  pendingMix : Option MixPending
  history : List MixEntry
  openedAt : Nat
  injectionAt : Option Nat
  closedAt : Option Nat
  refusalTimer : Nat
  holdTimer : Nat
  inhibited : Bool
  finals : Option FinalValues
  stepsAtClose : Option (Nat × Nat)
deriving DecidableEq, Repr

/-- The test state, held while the phase is TESTING (R79). -/
structure TestState where
  step : Nat
  count : Nat
  pressure : Nat
  flowSum : Nat
  pressSum : Int
  half : Nat
  records : List StepRecord
deriving DecidableEq, Repr

/-- The Stage Sequencer. -/
structure Sequencer where
  stage : Option StageRecord
  kept : Conditions
  counter : Nat
  test : Option TestState
  basePressure : Option Int
  confirmRun : Nat
  intensityRun : Nat
deriving DecidableEq, Repr

/-! ## Timebase and Measurement Unit (01) -/

/-- The Timebase (R1). The two marks are the model's own: one of the two events of an advance is not taken yet
(R3; log entry 4). -/
structure Timebase where
  clock : Nat
  tenths : Nat
  sampleDue : Bool
  boundaryDue : Bool
deriving DecidableEq, Repr

/-- How a channel failed (R6, R7). -/
inductive FailCause where
  | openLoop | overRange | stuck
deriving DecidableEq, Repr

/-- One analogue channel (R5 to R10). -/
structure ChannelState where
  failed : Bool
  cause : Option FailCause
  lastRaw : RawCode
  delivered : Option Int
  lastGood : Option Int
  lowRun : Nat
  fullRun : Nat
  stuckRun : Nat
  goodRun : Nat
  stuckRef : Option RawCode
deriving DecidableEq, Repr

/-- One debounced input (R12). -/
structure InputState where
  accepted : Bool
  run : Nat
deriving DecidableEq, Repr

/-- The sample set record (R13). -/
structure SampleSet where
  seq : Nat
  clock : Nat
  tenths : Nat
  gauge : Nat
  flow : Nat
  density : Nat
  hole : Nat
  header : Nat
  uplift : Option Int
  failed : PerChannel Bool
  sealIn : Bool
  leakIn : Bool
  keyIn : Bool
deriving DecidableEq, Repr

/-- The Measurement Unit. -/
structure Measurement where
  channels : PerChannel ChannelState
  sealIn : InputState
  leakIn : InputState
  keyIn : InputState
  nextSeq : Nat
  latest : Option SampleSet
deriving DecidableEq, Repr

/-! ## Tag settings and profiles (11) -/

/-- A mix of the mix table (05 section 5.1). -/
structure Mix where
  density : Nat
  friction : Nat
  allot : Nat
  rise : Nat
deriving DecidableEq, Repr

/-- A neighbourhood filter (R135). -/
structure Filter where
  enabled : Bool
  lines : BitVec 8
  base : Word16
  mask : Word16
deriving DecidableEq, Repr

/-- The conditioning of a channel (R9): FIXED with its value, or HOLD. -/
structure Conditioning where
  fixed : Bool
  value : Nat
deriving DecidableEq, Repr

/-- The profile's connection action (R160). -/
inductive ConnAction where
  | reduce | hold
deriving DecidableEq, Repr

/-- A design profile with its valid flag (11 section 11.3, R182). -/
structure Profile where
  pmax : Nat
  gin : Nat
  vmax : Nat
  top : Nat
  start : Nat
  qref : Nat
  tref : Nat
  qmax : Nat
  tolp : Nat
  pa : Nat
  pb : Nat
  pc : Nat
  action : ConnAction
  connStep : Nat
  upliftStep : Nat
  valid : Bool
deriving DecidableEq, Repr

/-- The station settings of the tag (11 section 11.2). -/
structure Tag where
  line : Nat
  chainage : Nat
  cls : Nat
  weight : Nat
  rowSpacing : Nat
  hg : Nat
  incl : Nat
  lh : Nat
  wv : Nat
  cWater : Nat
  condGauge : Conditioning
  condFlow : Conditioning
  condHole : Conditioning
  condHeader : Conditioning
  upliftFitted : Bool
  gTrip : Nat
  gLim : Nat
  ladder : List Nat
  mixes : List Mix
  tTest : Nat
  thresholds : List Nat
  defaultMix : Nat
  tolRho : Nat
  tMix : Nat
  gain : Nat
  slewUp : Nat
  slewDn : Nat
  sMax : Nat
  disp : Nat
  qAdv : Nat
  tAdv : Nat
  tHold : Nat
  pB : Nat
  aStale : Nat
  filters : List Filter
  dSo : Nat
  dDr : Nat
  dCn : Nat
  dUp : Nat
  mSo : Nat
  kDr : Nat
  dpConn : Nat
  uAlert : Nat
  uStop : Nat
  uHys : Nat
  qCap : Nat
  qMin : Nat
  qHys : Nat
  hMin : Nat
deriving DecidableEq, Repr

/-! ## Envelope Unit (03) -/

/-- The inputs a reckoning latches at its beginning (R42). -/
structure Latched where
  sampleSeq : Nat
  gauge : Nat
  flow : Nat
  density : Nat
  failed : PerChannel Bool
  stageNumber : Nat
  phase : Phase
  top : Nat
  bottom : Nat
  length : Nat
  hg : Nat
  incl : Nat
  lh : Nat
  wv : Nat
  cWater : Nat
  mix : Option Nat
  friction : Option Nat
  volume : Nat
  profile : Profile
  ladderE : Nat
  e : Nat
  testPressure : Option Nat
  gLim : Nat
deriving DecidableEq, Repr

/-- The reckoning record (R61). -/
structure ReckRecord where
  stageNumber : Option Nat
  sampleSeq : Nat
  phase : Phase
  e : Nat
  pHead : Nat
  pFric : Nat
  pWater : Nat
  pEff : Int
  v : Nat
  i : Nat
  pEnv : Nat
  pTgt : Nat
  gSet : Nat
  volumeReached : Bool
  intensityReached : Bool
  refusalPressureOk : Bool
  refusalFlowOk : Bool
  binding : Bool
  replaced : Nat
deriving DecidableEq, Repr

/-- The Envelope Unit. -/
structure Envelope where
  inFlight : Option Latched
  slot : Option SampleSet
  replaced : Nat
  record : ReckRecord
deriving DecidableEq, Repr

/-! ## Pump Regulator (04) -/

/-- The Pump Regulator. The effective step and the mix request are derived (R65, R76). -/
structure Regulator where
  commanded : Nat
  reached : Nat
  arrivalRun : Nat
  advanceCount : Nat
  stroke : Nat
  valveOpen : Bool
  suctionWater : Bool
deriving DecidableEq, Repr

/-- The STEPS record (R77). The goal is absent while no settings are in force (log entry 11). -/
structure StepsView where
  commanded : Nat
  limit : Nat
  effective : Nat
  reached : Nat
  top : Option Nat
  arrivalRun : Nat
  advanceCount : Nat
  goal : Option Nat
  stroke : Nat
  cap : Option Nat
  valveOpen : Bool
  suctionWater : Bool
  mixRequest : Option Nat
deriving DecidableEq, Repr

/-! ## Coordination Unit (09) -/

/-- The causes of STANDOFF (R152). -/
structure Causes where
  conflictingActive : Bool
  precedingWaiting : Bool
  precedingActive : Bool
  listen : Bool
  duplicate : Bool
deriving DecidableEq, Repr

inductive UpliftState where
  | normal | alert | stop
deriving DecidableEq, Repr

/-- An uplift state with its value and gauge-failed flag, own (R161) or reported (R133). -/
structure Uplift where
  state : UpliftState
  value : Option Int
  gaugeFailed : Bool
deriving DecidableEq, Repr

/-- The Coordination Unit. Its four conditions are the Sequencer's last presented values (R24). -/
structure Coordination where
  limit : Nat
  limitDerate : Nat
  derateCount : Nat
  limitConnection : Option Nat
  limitUplift : Option Nat
  causes : Causes
  allowance : Nat
  critical : Bool
  published : Nat
  computation : Option Nat
  criticalTotal : Nat
  participants : Nat
  lowRun : Nat
  highRun : Nat
  headerRun : Nat
  uplift : Option Uplift
  report : Bool
  suspects : List Identity
  baseline : Option Nat
  riseRun : Nat
  quietRun : Nat
  listenStart : Option (Nat × Nat)
deriving DecidableEq, Repr

/-- The COORD record (R168). -/
structure CoordView where
  coord : Coordination
  standoff : Bool
  connection : Bool
  uplift : Bool
  supply : Bool
deriving DecidableEq, Repr

/-! ## Take Counters (06) -/

/-- One saturated flag for each saturating counter (R106). -/
structure Saturated where
  volume : Bool
  water : Bool
  strokes : Bool
  waiting : Bool
  injecting : Bool
  holding : Bool
deriving DecidableEq, Repr

/-- The live stage counters with their stage number (R100, R112). -/
structure LiveCounters where
  stageNumber : Option Nat
  volume : Nat
  water : Nat
  strokes : Nat
  secWaiting : Nat
  secInjecting : Nat
  secHolding : Nat
  peakQ : Nat
  peakP : Option Int
  ppPeak : Nat
  saturated : Saturated
deriving DecidableEq, Repr

/-- The second window (R107). -/
structure Window where
  flowSum : Nat
  pressSum : Int
  count : Nat
  gaugeMin : Option Nat
  gaugeMax : Option Nat
  pumping : Bool
deriving DecidableEq, Repr

/-- The restarted window (R107). -/
def Window.fresh : Window := ⟨0, 0, 0, none, none, true⟩

/-- The last second's values (R108). -/
structure LastSecond where
  meanQ : Option Nat
  meanP : Option Int
  pp : Option Nat
  pumping : Bool
deriving DecidableEq, Repr

/-- The stage summary with the working values of the test, mix and refusal rules (R109, R175). -/
structure StageView where
  stage : Option StageRecord
  test : Option TestState
  basePressure : Option Int
  confirmRun : Nat
  intensityRun : Nat
deriving DecidableEq, Repr

/-- What took a HELD copy (R109). -/
inductive CopyCause where
  | auto | snap
deriving DecidableEq, Repr

/-- The HELD window (R109). -/
structure HeldCopy where
  stage : StageView
  record : ReckRecord
  live : LiveCounters
  second : LastSecond
  steps : StepsView
  coord : CoordView
  time : Option (Nat × Nat)
  cause : CopyCause
deriving DecidableEq, Repr

/-- The Take Counters. -/
structure TakeCounters where
  live : LiveCounters
  remGrout : Nat
  remWater : Nat
  remStroke : Nat
  window : Window
  second : LastSecond
  autoCopy : Bool
  held : HeldCopy
deriving DecidableEq, Repr

/-! ## Link Controller (07) -/

/-- The stage section of a bulletin (R123, 12.1). -/
structure StageSection where
  top : Nat
  bottom : Nat
  pEff : Int
  q : Nat
  v : Nat
  mix : Option Nat
  critical : Bool
  demand : Nat
  restraints : Restraints
  reached : Nat
deriving DecidableEq, Repr

/-- The content of a bulletin (R123). -/
structure Bulletin where
  identity : Identity
  cls : Nat
  weight : Nat
  seq : Nat
  first : Bool
  phase : Phase
  stage : Option StageSection
  uplift : Option Uplift
  suspects : Option (List Identity)
deriving DecidableEq, Repr

/-- The bulletin in the pending slot (07 section 7.2): ACCESS while `sending` is false, SENDING after. -/
structure Outgoing where
  sending : Bool
  attempt : Nat
  k : Nat
  seq : Option Nat
  wait : Nat
  frame : List Byte
  readBack : Nat
deriving DecidableEq, Repr

/-- The receiver (R127): hunting, ready to begin a frame, or receiving with the characters so far. -/
inductive LinkReceiver where
  | hunting | ready | receiving (got : List Byte)
deriving DecidableEq, Repr

/-- The twelve link counters (R130). -/
structure LinkCounters where
  good : Nat
  crcFailed : Nat
  fragment : Nat
  badLength : Nat
  badContent : Nat
  filtered : Nat
  stale : Nat
  ownIdentity : Nat
  tableFull : Nat
  transmitted : Nat
  abandoned : Nat
  dropped : Nat
deriving DecidableEq, Repr

/-- The Link Controller. Times are in character times (R114). `charOn`: a start bit has been seen whose stop bit has
not been sampled. `cut`: that character is this station's own, the last of an attempt that RESTART cut (R131).
`sentTime`: the time since this station began to send its present character (R124, R131). -/
structure Link where
  slot : Option Outgoing
  seqCounter : Nat
  firstCount : Nat
  urgent : Bool
  periodic : Nat
  sinceStart : Option Nat
  generator : Option Word16
  drops : Nat
  silence : Nat
  idle : Bool
  charOn : Bool
  cut : Bool
  sentTime : Nat
  receiver : LinkReceiver
  counters : LinkCounters
deriving DecidableEq, Repr

/-! ## Neighbour Table (08) -/

/-- A neighbour entry (R133). -/
structure Entry where
  identity : Identity
  distance : Nat
  lastSeq : Nat
  lastHeard : Nat
  fresh : Bool
  cls : Nat
  weight : Nat
  phase : Phase
  stage : Option StageSection
  uplift : Option Uplift
  suspects : List Identity
  namesOwn : Bool
deriving DecidableEq, Repr

/-- The Neighbour Table. -/
structure NeighbourTable where
  entries : List Entry
  duplicate : Bool
  ownHeard : Option Nat
deriving DecidableEq, Repr

/-! ## Panel Port (10) -/

/-- A command that has completed at the panel port, its arguments decoded by 12.2. The general checks of R172 are
applied when it is taken, so an unknown code and a wrong argument length are kept as such. -/
inductive PanelCmd where
  | unknown (code : Byte)
  | badLength (code : Byte) (args : List Byte)
  | status
  | openStage (top bottom : Nat) (profile test advance : Byte)
  | start
  | stepTo (n : Nat)
  | hold
  | release
  | stop
  | abort
  | accept
  | read (item window index : Byte)
  | logRead (k : Nat)
  | logTake
  | snap
  | mix (n : Nat)
  | tune (profile field : Byte) (value : Nat)
  | lock
  | auto (setting : Byte)
  | mask (kind setting : Byte)
  | faultClear
  | restart
deriving DecidableEq, Repr

/-- The status codes (R173). -/
inductive Status where
  | ok | okClamped | refusedState | refusedLevel | refusedLocked | refusedFull | refusedSeal
  | refusedUnconfigured | badArg | badCode
deriving DecidableEq, Repr

/-- A response (R173): the code answered, the status and the data. -/
structure Response where
  code : Byte
  status : Status
  data : List Byte
deriving DecidableEq, Repr

/-- The command in process; its response is absent while READ RECKONING waits (R46, R171). -/
structure InProcess where
  cmd : PanelCmd
  response : Option Response
deriving DecidableEq, Repr

/-- The panel receiver (R170). -/
inductive PanelReceiver where
  | hunting | receiving (length : Nat) (got : List Byte) | skipping
deriving DecidableEq, Repr

/-- A record of the stage log (10 section 10.7). -/
structure LogRecord where
  stage : StageRecord
  counters : LiveCounters
deriving DecidableEq, Repr

/-- The Panel Port. `silence` is the time since the last byte received, in units of 100 µs. -/
structure Panel where
  receiver : PanelReceiver
  silence : Nat
  inProcess : Option InProcess
  slot : Option PanelCmd
  badFrames : Nat
  log : List LogRecord
deriving DecidableEq, Repr

/-! ## Configuration and Fault (11) -/

inductive StationState where
  | loading | unconfigured | listen | running
deriving DecidableEq, Repr

/-- The load result; OUT_OF_RANGE names the offset of the first failing setting (R181, R191). -/
inductive LoadResult where
  | accepted | absent | crcFailed | outOfRange (offset : Nat)
deriving DecidableEq, Repr

/-- The ten fault kinds, in the order of the fault record's table (11 section 11.5). -/
inductive FaultKind where
  | configBad | sensor | linkJam | duplicateId | overpressure | mixTimeout | linkSilent | tableFull
  | panelOverrun | countSaturated
deriving DecidableEq, Repr

/-- The detail of a report. -/
inductive Detail where
  | channel (c : Channel)
  | identity (id : Identity)
deriving DecidableEq, Repr

/-- One entry of the fault record (R185) with its mask (R186). -/
structure FaultEntry where
  count : Nat
  first : Option Nat
  last : Option Nat
  detail : Option Detail
  present : Bool
  masked : Bool
deriving DecidableEq, Repr

def FaultEntry.clear : FaultEntry := ⟨0, none, none, none, false, false⟩

/-- The fault record. -/
structure Faults where
  configBad : FaultEntry
  sensor : FaultEntry
  linkJam : FaultEntry
  duplicateId : FaultEntry
  overpressure : FaultEntry
  mixTimeout : FaultEntry
  linkSilent : FaultEntry
  tableFull : FaultEntry
  panelOverrun : FaultEntry
  countSaturated : FaultEntry
deriving DecidableEq, Repr

/-- The Configuration and Fault block less the fault record. -/
structure Configuration where
  station : StationState
  inForce : Bool
  tag : Tag
  profiles : List Profile
  lock : Bool
  load : Option LoadResult
deriving DecidableEq, Repr

/-! ## The whole state -/

/-- The machine stops with no fault: every command of the block completes (INVENTORY, Faults). No constructor. -/
inductive Fault where
deriving DecidableEq, Repr

/-- Why a command has no meaning. -/
inductive Refusal where
  /-- Raised by exec's arm of a command that has no meaning yet; safe. No arm raises it. -/
  | notModelled (mnemonic : String)
deriving DecidableEq, Repr

/-- The state of the GS-216, the queue of commands waiting and the number of free values drawn (log entries 1, 10). -/
structure State where
  time : Timebase
  meas : Measurement
  seq : Sequencer
  env : Envelope
  reg : Regulator
  take : TakeCounters
  link : Link
  table : NeighbourTable
  coord : Coordination
  panel : Panel
  conf : Configuration
  faults : Faults
  pending : List Instr
  freeCount : Nat
deriving DecidableEq, Repr

/-! ## Power-on values (R16, R39, R48, R78, R99, R113, R131, R147, R169, R180, R181, R185) -/

/-- A channel at power-on (R16). -/
def ChannelState.powerOn (v : Option Int) : ChannelState :=
  ⟨false, none, 0, v, v, 0, 0, 0, 0, none⟩

/-- R16. -/
def Measurement.powerOn : Measurement where
  channels := {
    gauge := .powerOn (some 0)
    flow := .powerOn (some 0)
    density := .powerOn (some 1000)
    hole := .powerOn (some 0)
    header := .powerOn (some 0)
    uplift := .powerOn none }
  sealIn := ⟨false, 0⟩
  leakIn := ⟨false, 0⟩
  keyIn := ⟨false, 0⟩
  nextSeq := 0
  latest := none

/-- R39, R99: SENSOR absent and PACKER present. -/
def Sequencer.powerOn : Sequencer where
  stage := none
  kept := ⟨false, true, false, false, false, false⟩
  counter := 0
  test := none
  basePressure := none
  confirmRun := 0
  intensityRun := 0

/-- R48. -/
def ReckRecord.powerOn : ReckRecord where
  stageNumber := none
  sampleSeq := 0
  phase := .vacant
  e := 0
  pHead := 0
  pFric := 0
  pWater := 0
  pEff := 0
  v := 0
  i := 0
  pEnv := 0
  pTgt := 0
  gSet := 0
  volumeReached := false
  intensityReached := false
  refusalPressureOk := false
  refusalFlowOk := false
  binding := false
  replaced := 0

def Envelope.powerOn : Envelope := ⟨none, none, 0, .powerOn⟩

/-- R78. -/
def Regulator.powerOn : Regulator := ⟨1, 0, 0, 0, 0, false, false⟩

/-- R169; the fields it does not name by log entry 9. -/
def Coordination.powerOn : Coordination where
  limit := 8
  limitDerate := 8
  derateCount := 0
  limitConnection := none
  limitUplift := none
  causes := ⟨false, false, false, false, false⟩
  allowance := 0
  critical := false
  published := 0
  computation := none
  criticalTotal := 0
  participants := 0
  lowRun := 0
  highRun := 0
  headerRun := 0
  uplift := none
  report := false
  suspects := []
  baseline := none
  riseRun := 0
  quietRun := 0
  listenStart := none

/-- R113: the live counters zeroed, for a stage number (or none). -/
def LiveCounters.zero (n : Option Nat) : LiveCounters where
  stageNumber := n
  volume := 0
  water := 0
  strokes := 0
  secWaiting := 0
  secInjecting := 0
  secHolding := 0
  peakQ := 0
  peakP := none
  ppPeak := 0
  saturated := ⟨false, false, false, false, false, false⟩

def StepsView.powerOn : StepsView where
  commanded := 1
  limit := 8
  effective := 1
  reached := 0
  top := none
  arrivalRun := 0
  advanceCount := 0
  goal := none
  stroke := 0
  cap := none
  valveOpen := false
  suctionWater := false
  mixRequest := none

/-- R109: the power-on value of each part, no copy taken yet. -/
def HeldCopy.powerOn : HeldCopy where
  stage := ⟨none, none, none, 0, 0⟩
  record := .powerOn
  live := .zero none
  second := ⟨none, none, none, false⟩
  steps := .powerOn
  coord := ⟨.powerOn, false, false, false, false⟩
  time := none
  cause := .auto

/-- R113. -/
def TakeCounters.powerOn : TakeCounters where
  live := .zero none
  remGrout := 0
  remWater := 0
  remStroke := 0
  window := .fresh
  second := ⟨none, none, none, false⟩
  autoCopy := true
  held := .powerOn

def LinkCounters.zero : LinkCounters := ⟨0, 0, 0, 0, 0, 0, 0, 0, 0, 0, 0, 0⟩

/-- R131: the line busy with a silence of 0, the receiver hunting. The periodic time does not count; it is held as 0 (log
entry 9). -/
def Link.powerOn : Link where
  slot := none
  seqCounter := 0
  firstCount := 3
  urgent := false
  periodic := 0
  sinceStart := none
  generator := none
  drops := 0
  silence := 0
  idle := false
  charOn := false
  cut := false
  sentTime := 0
  receiver := .hunting
  counters := .zero

/-- R180. -/
def Panel.powerOn : Panel := ⟨.hunting, 0, none, none, 0, []⟩

/-- Settings that are not in force hold nothing the spec states; all fields 0 (log entry 9). -/
def Tag.blank : Tag where
  line := 0
  chainage := 0
  cls := 0
  weight := 0
  rowSpacing := 0
  hg := 0
  incl := 0
  lh := 0
  wv := 0
  cWater := 0
  condGauge := ⟨false, 0⟩
  condFlow := ⟨false, 0⟩
  condHole := ⟨false, 0⟩
  condHeader := ⟨false, 0⟩
  upliftFitted := false
  gTrip := 0
  gLim := 0
  ladder := []
  mixes := []
  tTest := 0
  thresholds := []
  defaultMix := 0
  tolRho := 0
  tMix := 0
  gain := 0
  slewUp := 0
  slewDn := 0
  sMax := 0
  disp := 0
  qAdv := 0
  tAdv := 0
  tHold := 0
  pB := 0
  aStale := 0
  filters := []
  dSo := 0
  dDr := 0
  dCn := 0
  dUp := 0
  mSo := 0
  kDr := 0
  dpConn := 0
  uAlert := 0
  uStop := 0
  uHys := 0
  qCap := 0
  qMin := 0
  qHys := 0
  hMin := 0

/-- The profile read where none is held (log entry 9). -/
def Profile.blank : Profile := ⟨0, 0, 0, 0, 0, 0, 0, 0, 0, 0, 0, 0, .reduce, 0, 0, false⟩

def Configuration.powerOn : Configuration := ⟨.loading, false, .blank, [], false, none⟩

def Faults.clear : Faults :=
  ⟨.clear, .clear, .clear, .clear, .clear, .clear, .clear, .clear, .clear, .clear⟩

/-- The state right after power-on reset. -/
def State.reset : State where
  time := ⟨0, 0, false, false⟩
  meas := .powerOn
  seq := .powerOn
  env := .powerOn
  reg := .powerOn
  take := .powerOn
  link := .powerOn
  table := ⟨[], false, none⟩
  coord := .powerOn
  panel := .powerOn
  conf := .powerOn
  faults := .clear
  pending := []
  freeCount := 0

end Sys2Proof.Machine
end

