-- ==== Sys2Proof/Machine/Access.lean ====
section
/-! DEFINITION. What the rules read off the state: the phase, the level, the own identity, the open stage's profile,
the effective step, the mix request, the alarm relay. -/

namespace Sys2Proof.Machine

/-- The station's phase: VACANT while there is no stage record (R17). -/
def State.phase (s : State) : Phase :=
  match s.seq.stage with
  | none => .vacant
  | some st => st.phase

/-- The station's restraint set (R17, R22). -/
def State.restraints (s : State) : Restraints :=
  match s.seq.stage with
  | none => .none
  | some st => st.restraints

/-- A stage is open in every phase from PACKED to CLOSED (R41). -/
def State.isOpen (s : State) : Bool := s.phase != .vacant

/-- TESTING or INJECTING: the phases in which the pump may run (R73). -/
def Phase.pumping : Phase → Bool
  | .testing | .injecting => true
  | _ => false

/-- TESTING, INJECTING or HOLDING: an active stage (R151). -/
def Phase.active : Phase → Bool
  | .testing | .injecting | .holding => true
  | _ => false

/-- The transmitter, admission and the Coordination Unit work in LISTEN and RUNNING (R116, R129, R148). -/
def State.working (s : State) : Bool :=
  match s.conf.station with
  | .listen | .running => true
  | _ => false

/-- The level is ENGINEER while the accepted level of KEY is asserted (10 section 10.3). -/
def State.engineer (s : State) : Bool := s.meas.keyIn.accepted

/-- The own identity, from the tag. -/
def State.own (s : State) : Identity := ⟨s.conf.tag.line, s.conf.tag.chainage⟩

/-- Profile p as it now stands. -/
def State.profileAt (s : State) (p : Nat) : Profile := s.conf.profiles.getD p .blank

/-- The open stage's profile (`Profile.blank` while no stage is open, where no rule uses it). -/
def State.profile (s : State) : Profile :=
  match s.seq.stage with
  | none => .blank
  | some st => s.profileAt st.profile

/-- The rung L[n] of the ladder (R62). -/
def Tag.rung (t : Tag) (n : Nat) : Nat := t.ladder.getD (n - 1) 0

/-- Mix m of the mix table, numbered from 1 (05 section 5.1). -/
def Tag.mix? (t : Tag) (m : Nat) : Option Mix := if m = 0 then none else t.mixes[m - 1]?

/-- The effective step always equals min(c, λ) (R65). -/
def State.effective (s : State) : Nat := min s.reg.commanded s.coord.limit

/-- The stage second: the station clock minus opened-at (R37). -/
def State.stageSecond (s : State) : Nat :=
  match s.seq.stage with
  | none => 0
  | some st => elapsed32 st.openedAt s.time.clock

/-- The current mix of the stage record. -/
def State.currentMix (s : State) : Option Nat := s.seq.stage.bind (·.currentMix)

/-- The agitator mix request (R76). -/
def State.mixRequest (s : State) : Option Nat :=
  match s.seq.stage with
  | none => none
  | some st =>
    match st.pendingMix with
    | some p => some p.mix
    | none => st.currentMix

/-- The value a channel delivered at the latest sample set, as an unsigned quantity (0 where absent). -/
def State.deliveredNat (s : State) (c : Channel) : Nat :=
  ((s.meas.channels.get c).delivered.getD 0).toNat

/-- Whether a channel is FAILED. -/
def State.failed (s : State) (c : Channel) : Bool := (s.meas.channels.get c).failed

/-- The tag's settings of the uplift gauge: fitted, and in force (R11). -/
def State.upliftFitted (s : State) : Bool := s.conf.inForce && s.conf.tag.upliftFitted

/-! ## Restraint set -/

def Restraints.isEmpty (r : Restraints) : Bool := r == .none

def Restraints.union (a b : Restraints) : Restraints where
  operator := a.operator || b.operator
  trip := a.trip || b.trip
  sensor := a.sensor || b.sensor
  packer := a.packer || b.packer
  standoff := a.standoff || b.standoff
  connection := a.connection || b.connection
  uplift := a.uplift || b.uplift
  supply := a.supply || b.supply

/-- The conditions as members of a restraint set. -/
def Conditions.toRestraints (c : Conditions) : Restraints :=
  ⟨false, false, c.sensor, c.packer, c.standoff, c.connection, c.uplift, c.supply⟩

/-- The latched members of a restraint set alone (R23). -/
def Restraints.latched (r : Restraints) : Restraints :=
  { Restraints.none with operator := r.operator, trip := r.trip }

/-- Any of the six conditions present (R21). -/
def Conditions.any (c : Conditions) : Bool :=
  c.sensor || c.packer || c.standoff || c.connection || c.uplift || c.supply

/-! ## Fault record (R185 to R187) -/

def Faults.get (f : Faults) : FaultKind → FaultEntry
  | .configBad => f.configBad
  | .sensor => f.sensor
  | .linkJam => f.linkJam
  | .duplicateId => f.duplicateId
  | .overpressure => f.overpressure
  | .mixTimeout => f.mixTimeout
  | .linkSilent => f.linkSilent
  | .tableFull => f.tableFull
  | .panelOverrun => f.panelOverrun
  | .countSaturated => f.countSaturated

def Faults.set (f : Faults) (k : FaultKind) (e : FaultEntry) : Faults :=
  match k with
  | .configBad => { f with configBad := e }
  | .sensor => { f with sensor := e }
  | .linkJam => { f with linkJam := e }
  | .duplicateId => { f with duplicateId := e }
  | .overpressure => { f with overpressure := e }
  | .mixTimeout => { f with mixTimeout := e }
  | .linkSilent => { f with linkSilent := e }
  | .tableFull => { f with tableFull := e }
  | .panelOverrun => { f with panelOverrun := e }
  | .countSaturated => { f with countSaturated := e }

/-- The kinds in the order of their numbers, 1 to 10 (12.2). -/
def FaultKind.all : List FaultKind :=
  [.configBad, .sensor, .linkJam, .duplicateId, .overpressure, .mixTimeout, .linkSilent, .tableFull,
    .panelOverrun, .countSaturated]

/-- The condition kinds (11 section 11.5). -/
def FaultKind.isCondition : FaultKind → Bool
  | .configBad | .sensor | .linkJam | .duplicateId => true
  | _ => false

/-- The same change to every entry. -/
def Faults.map (g : FaultKind → FaultEntry → FaultEntry) (f : Faults) : Faults where
  configBad := g .configBad f.configBad
  sensor := g .sensor f.sensor
  linkJam := g .linkJam f.linkJam
  duplicateId := g .duplicateId f.duplicateId
  overpressure := g .overpressure f.overpressure
  mixTimeout := g .mixTimeout f.mixTimeout
  linkSilent := g .linkSilent f.linkSilent
  tableFull := g .tableFull f.tableFull
  panelOverrun := g .panelOverrun f.panelOverrun
  countSaturated := g .countSaturated f.countSaturated

/-- A report to one kind at a clock time (R185); a masked kind keeps its count, times and detail (R186). -/
def FaultEntry.report (e : FaultEntry) (clock : Nat) (d : Option Detail) : FaultEntry :=
  if e.masked then e
  else
    { e with
      count := satSucc 255 e.count
      first := if e.count = 0 then some clock else e.first
      last := some clock
      detail := d }

/-- R185: a report of a kind with its detail, in the event of the report. -/
def State.report (k : FaultKind) (d : Option Detail) (s : State) : State :=
  { s with faults := s.faults.set k ((s.faults.get k).report s.time.clock d) }

/-- R185: a condition kind's present flag follows its source's rule, masked or not. -/
def State.setPresent (k : FaultKind) (p : Bool) (s : State) : State :=
  { s with faults := s.faults.set k { s.faults.get k with present := p } }

/-- The alarm relay, closed or open (R187). -/
def State.relayClosed (s : State) : Bool :=
  FaultKind.all.any (fun k => !(s.faults.get k).masked && decide (0 < (s.faults.get k).count))
    || (match s.coord.uplift with
        | some u => u.state == .stop
        | none => false)
    || s.restraints.trip

/-! ## Codes (12.1) -/

def Phase.code : Phase → Nat
  | .vacant => 0
  | .packed => 1
  | .testing => 2
  | .waiting => 3
  | .injecting => 4
  | .holding => 5
  | .closed => 6

def Phase.ofCode : Nat → Option Phase
  | 0 => some .vacant
  | 1 => some .packed
  | 2 => some .testing
  | 3 => some .waiting
  | 4 => some .injecting
  | 5 => some .holding
  | 6 => some .closed
  | _ => none

/-- The restraint summary, bit 0 OPERATOR to bit 7 SUPPLY (12.1). -/
def Restraints.summary (r : Restraints) : Byte :=
  flagByte [r.operator, r.trip, r.sensor, r.packer, r.standoff, r.connection, r.uplift, r.supply]

def Restraints.ofSummary (b : Byte) : Restraints :=
  ⟨b.getLsbD 0, b.getLsbD 1, b.getLsbD 2, b.getLsbD 3, b.getLsbD 4, b.getLsbD 5, b.getLsbD 6, b.getLsbD 7⟩

/-- The uplift state byte: bits 1-0 the state, bit 7 gauge failed (12.1). -/
def Uplift.stateByte (u : Uplift) : Byte :=
  (match u.state with
    | .normal => 0#8
    | .alert => 1#8
    | .stop => 2#8) ||| (if u.gaugeFailed then 128#8 else 0#8)

/-- Identities are ordered by line, then by chainage (00, Terms). -/
def identityLt (a b : Identity) : Bool :=
  decide (a.line < b.line) || (decide (a.line = b.line) && decide (a.chainage < b.chainage))

/-- The absolute difference of two numbers. -/
def absDiff (a b : Nat) : Nat := (a - b) + (b - a)

/-- The distance between two stations (00 Terms, R134). -/
def distance (rowSpacing : Nat) (a b : Identity) : Nat :=
  absDiff a.chainage b.chainage + rowSpacing * absDiff a.line b.line

end Sys2Proof.Machine
end

