-- ==== Sys2Proof/Machine/Channels.lean ====
section
/-! DEFINITION. The analogue channels and the debounced inputs at one sample set (R4 to R12). -/

namespace Sys2Proof.Machine

/-- The zero of a channel (R4). -/
def channelZero : Channel → Int
  | .density => 1000
  | .uplift => -500
  | _ => 0

/-- The span of a channel (R4). -/
def channelSpan : Channel → Nat
  | .gauge | .hole => 12000
  | .flow | .header => 2000
  | .density => 1200
  | .uplift => 4000

/-- R4: the conversion of a code; below 700 there is none. -/
def convert (ch : Channel) (code : RawCode) : Option Int :=
  let n := code.toNat
  if n < 700 then none
  else if n < 819 then some (channelZero ch)
  else some (channelZero ch + ((n - 819) * channelSpan ch / 3276 : Nat))

/-- The classes of R5. -/
inductive CodeClass where
  | good | low | full
deriving DecidableEq, Repr

/-- R5: good 700-4,094, low 0-699, full 4,095. -/
def codeClass (code : RawCode) : CodeClass :=
  if code.toNat < 700 then .low else if code.toNat = 4095 then .full else .good

/-- GAUGE and FLOW keep a stuck run (R7). -/
def keepsStuck : Channel → Bool
  | .gauge | .flow => true
  | _ => false

/-- The runs of a VALID channel after one code (R6, R7), its raw code, and its last good value (R5). `stroke` is the
stroke command when the sample set is raised. -/
def ChannelState.runs (ch : Channel) (code : RawCode) (stroke : Nat) (c : ChannelState) : ChannelState :=
  let counted : ChannelState :=
    { c with
      lastRaw := code
      lowRun := if codeClass code = .low then c.lowRun + 1 else 0
      fullRun := if codeClass code = .full then c.fullRun + 1 else 0
      lastGood := if codeClass code = .good then convert ch code else c.lastGood }
  if keepsStuck ch then
    if stroke = 0 then { counted with stuckRun := 0 }
    else if 0 < c.stuckRun ∧ c.stuckRef = some code then { counted with stuckRun := c.stuckRun + 1 }
    else { counted with stuckRun := 1, stuckRef := some code }
  else counted

/-- Which test completes on the runs as they stand (R6, R7). -/
def ChannelState.completes (c : ChannelState) : Option FailCause :=
  if 3 ≤ c.lowRun then some .openLoop
  else if 10 ≤ c.fullRun then some .overRange
  else if 600 ≤ c.stuckRun then some .stuck
  else none

/-- R8: entering FAILED, delivering the conditioning value. -/
def ChannelState.fail (cause : FailCause) (cond : Option Int → Option Int) (c : ChannelState) : ChannelState :=
  { c with
    failed := true
    cause := some cause
    lowRun := 0
    fullRun := 0
    stuckRun := 0
    goodRun := 0
    delivered := cond c.lastGood }

/-- R10: whether a FAILED channel's code counts towards recovery. -/
def ChannelState.countsGood (code : RawCode) (c : ChannelState) : Bool :=
  codeClass code == .good && !(c.cause == some .stuck && c.stuckRef == some code)

/-- R10: the return to VALID with the present conversion. The good run, which R10 does not name there, becomes 0 (log
entry 35). -/
def ChannelState.recover (ch : Channel) (code : RawCode) (c : ChannelState) : ChannelState :=
  { c with
    failed := false
    cause := none
    lastRaw := code
    delivered := convert ch code
    lastGood := convert ch code
    lowRun := 0
    fullRun := 0
    stuckRun := 0
    goodRun := 0 }

/-- One sample of one judged channel (R5 to R10). `cond` gives the conditioning value from the last good value. -/
def ChannelState.sample (ch : Channel) (code : RawCode) (stroke : Nat) (cond : Option Int → Option Int)
    (c : ChannelState) : ChannelState :=
  if c.failed then
    let run := if c.countsGood code then c.goodRun + 1 else 0
    if 20 ≤ run then c.recover ch code
    else { c with lastRaw := code, goodRun := run, delivered := cond c.lastGood }
  else
    let r := c.runs ch code stroke
    match r.completes with
    | some cause => r.fail cause cond
    | none =>
      { r with
        delivered :=
          match codeClass code with
          | .low => c.lastGood
          | _ => convert ch code }

/-- The conditioning of a tag channel by its mode (R9). -/
def Conditioning.value? (inForce : Bool) (c : Conditioning) (lastGood : Option Int) : Option Int :=
  if inForce && c.fixed then some (c.value : Int) else lastGood

/-- R9: the nominal density of the current mix; 1,000 in TESTING and while no current mix is held. -/
def State.densityConditioning (s : State) : Int :=
  if s.phase = .testing then 1000
  else
    match s.currentMix with
    | none => 1000
    | some m =>
      match s.conf.tag.mix? m with
      | some x => x.density
      | none => 1000

/-- R9: the conditioning value of a channel, from its last good value. -/
def State.conditioning (s : State) (ch : Channel) (lastGood : Option Int) : Option Int :=
  match ch with
  | .gauge => s.conf.tag.condGauge.value? s.conf.inForce lastGood
  | .flow => s.conf.tag.condFlow.value? s.conf.inForce lastGood
  | .hole => s.conf.tag.condHole.value? s.conf.inForce lastGood
  | .header => s.conf.tag.condHeader.value? s.conf.inForce lastGood
  | .density => some s.densityConditioning
  | .uplift => none

/-- A channel's state after one code: an UPLIFT gauge that is not fitted is not judged and delivers nothing (R11). -/
def State.channelAfter (s : State) (ch : Channel) (code : RawCode) : ChannelState :=
  let c := s.meas.channels.get ch
  if ch = .uplift ∧ s.upliftFitted = false then { c with lastRaw := code, delivered := none }
  else c.sample ch code s.reg.stroke (s.conditioning ch)

def State.setChannel (ch : Channel) (c : ChannelState) (s : State) : State :=
  { s with meas := { s.meas with channels := s.meas.channels.set ch c } }

/-- Any channel FAILED: the SENSOR kind is present (R8). -/
def Measurement.anyFailed (m : Measurement) : Bool :=
  m.channels.gauge.failed || m.channels.flow.failed || m.channels.density.failed || m.channels.hole.failed
    || m.channels.header.failed || m.channels.uplift.failed

/-- One channel's share of a sample set (R4 to R10): its new state, and on entering FAILED the SENSOR report with the
channel as the detail (R8). -/
def State.sampleChannel (ch : Channel) (code : RawCode) (s : State) : State :=
  let before := s.failed ch
  let t := s.setChannel ch (s.channelAfter ch code)
  let t := t.setPresent .sensor t.meas.anyFailed
  if before = false ∧ t.failed ch = true then t.report .sensor (some (.channel ch)) else t

/-- The debounce length of an input (R12). -/
def debounceLength : Input → Nat
  | .leakIn => 10
  | _ => 5

/-- R12: one contact sample of one input. -/
def InputState.sample (i : Input) (level : Bool) (x : InputState) : InputState :=
  if level = x.accepted then { x with run := 0 }
  else if debounceLength i ≤ x.run + 1 then ⟨level, 0⟩
  else { x with run := x.run + 1 }

def Measurement.input (m : Measurement) : Input → InputState
  | .sealIn => m.sealIn
  | .leakIn => m.leakIn
  | .keyIn => m.keyIn

def Measurement.setInput (m : Measurement) (i : Input) (x : InputState) : Measurement :=
  match i with
  | .sealIn => { m with sealIn := x }
  | .leakIn => { m with leakIn := x }
  | .keyIn => { m with keyIn := x }

/-- One input's share of a sample set (R12). -/
def State.sampleInput (i : Input) (level : Bool) (s : State) : State :=
  { s with meas := s.meas.setInput i ((s.meas.input i).sample i level) }

end Sys2Proof.Machine
end

