-- ==== Sys2Proof/Config.lean ====
section
/-! DEFINITION. Free values: what the spec leaves open and no proof may see. Each is applied to a counter of State
(`freeCount`), so that two draws are unrelated (log entry 10). -/

namespace Sys2Proof

/-- A byte the spec does not state, the n-th drawn. -/
opaque Config.freeByte : Nat → BitVec 8

/-- The own uplift value a bulletin carries before the first sample set has judged the gauge (R161, R123). -/
opaque Config.freeUplift : Nat → Int

/-- The offset named as "first failing setting" when the image fails only because no profile is valid (R181, R191). -/
opaque Config.noProfileOffset : Nat → Nat

/-- Whether a filter's line set with a bit above bit 3 set is out of range (R135, R192). -/
opaque Config.strayLineBitsRefused : Nat → Bool

/-- The response code of an unknown command code of 0x80 or more, whose sum with 0x80 is no byte (R190; log entry 38). -/
opaque Config.wideResponseCode : Byte → Byte

end Sys2Proof
end

