-- ==== Sys2Proof/Machine/Frames.lean ====
section
/-! DEFINITION. The bulletin on the wire: its layout, its content check and its check value (12.1, R123, R128, R188). -/

namespace Sys2Proof.Machine

/-- The lead characters of a frame (12.1). -/
def lead : List Byte := [0x55#8, 0xD2#8]

/-- The 16 bytes of a stage section (12.1). -/
def StageSection.bytes (x : StageSection) : List Byte :=
  be16 x.top ++ be16 x.bottom ++ be16s x.pEff ++ be16 x.q ++ be16 x.v ++ [byte (x.mix.getD 0)]
    ++ [boolByte x.critical] ++ be16 x.demand ++ [x.restraints.summary] ++ [byte x.reached]

/-- The 3 bytes of an uplift section; the value is 0 when the gauge has failed (12.1). -/
def Uplift.bytes (u : Uplift) : List Byte :=
  u.stateByte :: be16s (if u.gaugeFailed then 0 else u.value.getD 0)

/-- An identity as line and chainage (12.1). -/
def identityBytes (i : Identity) : List Byte := byte i.line :: be16 i.chainage

/-- A list of identities: the count, then each (12.1). -/
def identityList (l : List Identity) : List Byte := byte l.length :: l.flatMap identityBytes

/-- Class in bits 7-4, weight in bits 3-0 (12.1). -/
def classWeight (cls weight : Nat) : Byte := byte (cls * 16 + weight)

/-- The flags byte: FIRST, STAGE, UPLIFT, CONNECTION (12.1). -/
def Bulletin.flags (b : Bulletin) : Byte :=
  flagByte [b.first, b.stage.isSome, b.uplift.isSome, b.suspects.isSome]

/-- The N bytes after the length: header and sections (12.1). -/
def Bulletin.body (b : Bulletin) : List Byte :=
  identityBytes b.identity ++ [classWeight b.cls b.weight, byte b.seq, b.flags, byte b.phase.code]
    ++ (match b.stage with
        | some x => x.bytes
        | none => [])
    ++ (match b.uplift with
        | some u => u.bytes
        | none => [])
    ++ (match b.suspects with
        | some l => identityList l
        | none => [])

/-- The whole frame: lead, length, body, check value high byte first (12.1, R188, R189). -/
def Bulletin.frame (b : Bulletin) : List Byte :=
  let covered := byte b.body.length :: b.body
  lead ++ covered ++ be16 (crc16 covered).toNat

/-- The stage section and what follows it, or nothing where the content check fails (R128, R188). -/
def parseStageSection : List Byte → Option (StageSection × List Byte)
  | t1 :: t0 :: b1 :: b0 :: p1 :: p0 :: q1 :: q0 :: v1 :: v0 :: mx :: cl :: d1 :: d0 :: rs :: rc :: rest =>
    let top := ofBytes [t1, t0]
    let bottom := ofBytes [b1, b0]
    if bottom ≤ 20000 ∧ top ≤ bottom ∧ rc.toNat ≤ 8 ∧ mx.toNat ≤ 6 ∧ cl.toNat ≤ 1 then
      some
        ({ top := top
           bottom := bottom
           pEff := ofBytes16s [p1, p0]
           q := ofBytes [q1, q0]
           v := ofBytes [v1, v0]
           mix := if mx.toNat = 0 then none else some mx.toNat
           critical := cl.toNat == 1
           demand := ofBytes [d1, d0]
           restraints := .ofSummary rs
           reached := rc.toNat }, rest)
    else none
  | _ => none

/-- The uplift section (R128, R188): state bits 0-2, the value absent when bit 7 is set. -/
def parseUpliftSection : List Byte → Option (Uplift × List Byte)
  | st :: v1 :: v0 :: rest =>
    let failed := st.getLsbD 7
    let value := if failed then none else some (ofBytes16s [v1, v0])
    match st.toNat % 4 with
    | 0 => some (⟨.normal, value, failed⟩, rest)
    | 1 => some (⟨.alert, value, failed⟩, rest)
    | 2 => some (⟨.stop, value, failed⟩, rest)
    | _ => none
  | _ => none

/-- `n` identities of line and chainage, each line A to D (R128). -/
def parseIdentities : Nat → List Byte → Option (List Identity × List Byte)
  | 0, rest => some ([], rest)
  | n + 1, l :: c1 :: c0 :: rest =>
    if l.toNat ≤ 3 then
      match parseIdentities n rest with
      | some (ids, rest') => some (⟨l.toNat, ofBytes [c1, c0]⟩ :: ids, rest')
      | none => none
    else none
  | _ + 1, _ => none

/-- The connection section: a count of at most 4, then the identities (R128). -/
def parseConnectionSection : List Byte → Option (List Identity × List Byte)
  | n :: rest => if n.toNat ≤ 4 then parseIdentities n.toNat rest else none
  | [] => none

/-- A section that is present when its flag is set. -/
def parseOptional {α : Type} (present : Bool) (p : List Byte → Option (α × List Byte)) (l : List Byte) :
    Option (Option α × List Byte) :=
  if present then
    match p l with
    | some (a, rest) => some (some a, rest)
    | none => none
  else some (none, l)

/-- The content check of R128 and R188 over the N bytes after the length; `none` where a field is not meaningful or
the length is not the sum of the sections. Flag bits 4-7 are ignored. -/
def parseBody : List Byte → Option Bulletin
  | ln :: c1 :: c0 :: cw :: sq :: fl :: ph :: rest =>
    match Phase.ofCode ph.toNat with
    | none => none
    | some phase =>
      let cls := cw.toNat / 16
      let weight := cw.toNat % 16
      if ln.toNat ≤ 3 ∧ 1 ≤ cls ∧ cls ≤ 4 ∧ weight ≠ 0 ∧ (fl.getLsbD 1 = (phase != .vacant)) then
        match parseOptional (fl.getLsbD 1) parseStageSection rest with
        | none => none
        | some (stage, rest1) =>
          match parseOptional (fl.getLsbD 2) parseUpliftSection rest1 with
          | none => none
          | some (uplift, rest2) =>
            match parseOptional (fl.getLsbD 3) parseConnectionSection rest2 with
            | some (suspects, []) =>
              some ⟨⟨ln.toNat, ofBytes [c1, c0]⟩, cls, weight, sq.toNat, fl.getLsbD 0, phase, stage, uplift, suspects⟩
            | _ => none
      else none
  | _ => none

/-- What the checks of R128 answer for a complete frame. -/
inductive FrameCheck where
  | crcFailed | badContent | good (b : Bulletin)
deriving DecidableEq, Repr

/-- The checks of R128 on a complete frame: its length character, its N bytes and the two check characters. -/
def checkFrame (n : Byte) (body check : List Byte) : FrameCheck :=
  if be16 (crc16 (n :: body)).toNat = check then
    match parseBody body with
    | some b => .good b
    | none => .badContent
  else .crcFailed

end Sys2Proof.Machine
end

