-- ==== Sys2Proof/Machine/Transmit.lean ====
section
/-! DEFINITION. The Link Controller's transmitter: requests, draws, attempts, drops (R116 to R126). -/

namespace Sys2Proof.Machine

/-- Character times in a millisecond (R114). -/
def charsPerMs : Nat := 10

/-- P_b in character times (R114). -/
def State.periodChars (s : State) : Nat := charsPerMs * s.conf.tag.pB

/-- R121: one step of the shift-register generator. -/
def generatorStep (r : Word16) : Word16 :=
  let shifted := r >>> 1
  if r.getLsbD 0 then shifted ^^^ 46080#16 else shifted

/-- R121: the seed of a station. -/
def seedOf (own : Identity) : Word16 :=
  let n := (own.chainage + 16384 * own.line) % 65536
  if n = 0 then 1#16 else BitVec.ofNat 16 n

/-- R121: the draw for attempt `a`: the register after one step, and k (0 where no register is loaded, which the
entry into LISTEN excludes). -/
def draw (a : Nat) (g : Option Word16) : Option Word16 × Nat :=
  match g with
  | none => (none, 0)
  | some r =>
    let r' := generatorStep r
    (some r', r'.toNat % 2 ^ (a + 2))

/-- The instance that is SENDING, if there is one. -/
def Link.sending (l : Link) : Option Outgoing :=
  match l.slot with
  | some o => if o.sending then some o else none
  | none => none

/-- R119: a bulletin in phase ACCESS with attempt number 1, its k drawn, enters the slot. -/
def Link.create (l : Link) : Link :=
  let (g, k) := draw 1 l.generator
  { l with generator := g, slot := some ⟨false, 1, k, none, 0, [], 0⟩ }

/-- R118: the hold-off in character times. -/
def holdOff : Nat := 1000

/-- R118: the hold-off has ended, 1,000 character times after the last transmission start; none when it is absent. -/
def Link.holdOffEnded (l : Link) : Bool :=
  match l.sinceStart with
  | none => true
  | some t => decide (holdOff ≤ t)

/-- R118: a set mark is served when the slot is empty and the hold-off has ended. -/
def Link.serveUrgent (l : Link) : Link :=
  if l.urgent && l.slot.isNone && l.holdOffEnded then l.create else l

/-- R117: a periodic request creates when the slot is empty and otherwise leaves no trace. -/
def Link.requestPeriodic (l : Link) : Link := if l.slot.isNone then l.create else l

/-- R118: an urgent request; none is kept while the station is LOADING or UNCONFIGURED (R116). -/
def State.urgent (s : State) : State :=
  if s.working then { s with link := { s.link with urgent := true }.serveUrgent } else s

/-- R126: the drop of the bulletin in the slot; the eighth drop in a row makes LINK_JAM present and reports it. A mark
still set is then served. -/
def State.dropOutgoing (s : State) : State :=
  let l : Link :=
    { s.link with
      slot := none
      periodic := 0
      drops := satSucc 255 s.link.drops
      counters := { s.link.counters with dropped := satSucc max16 s.link.counters.dropped } }
  let t : State := { s with link := l }
  let t :=
    if l.drops = 8 ∧ t.faults.linkJam.present = false then (t.setPresent .linkJam true).report .linkJam none else t
  { t with link := t.link.serveUrgent }

/-- R125: a failed attempt, by read-back or by access expiry. -/
def State.failAttempt (o : Outgoing) (s : State) : State :=
  let s : State :=
    { s with link := { s.link with
        counters := { s.link.counters with abandoned := satSucc max16 s.link.counters.abandoned } } }
  if o.attempt < 4 then
    let (g, k) := draw (o.attempt + 1) s.link.generator
    { s with link := { s.link with
        generator := g
        slot := some ⟨false, o.attempt + 1, k, o.seq, 0, [], 0⟩ } }
  else s.dropOutgoing

/-- R124: a completed transmission. -/
def State.completeTransmission (s : State) : State :=
  let l : Link :=
    { s.link with
      slot := none
      firstCount := s.link.firstCount - 1
      drops := 0
      counters := { s.link.counters with transmitted := satSucc max16 s.link.counters.transmitted } }
  { s.setPresent .linkJam false with link := l.serveUrgent }

/-- R123: the stage section of the own bulletin. -/
def State.ownStageSection (s : State) (st : StageRecord) : StageSection :=
  let mine := s.env.record.stageNumber == some st.number
  { top := st.top
    bottom := st.bottom
    pEff := if mine then s.env.record.pEff else 0
    q := s.deliveredNat .flow
    v := if mine then s.env.record.v else 0
    mix := st.currentMix
    critical := s.coord.critical
    demand := s.coord.published
    restraints := st.restraints
    reached := s.reg.reached }

/-- R123: the uplift section: present when the gauge is fitted; a value no sample set has given yet is a free value. -/
def State.ownUplift (s : State) : Option Uplift :=
  if s.upliftFitted then
    s.coord.uplift.map fun u =>
      if u.gaugeFailed then u else { u with value := some (u.value.getD (Config.freeUplift s.freeCount)) }
  else none

/-- R123: the content of the own bulletin as the station stands. -/
def State.ownBulletin (s : State) (seq : Nat) : Bulletin where
  identity := s.own
  cls := s.conf.tag.cls
  weight := s.conf.tag.weight
  seq := seq
  first := decide (0 < s.link.firstCount)
  phase := s.phase
  stage := s.seq.stage.map s.ownStageSection
  uplift := s.ownUplift
  suspects := if s.coord.report then some s.coord.suspects else none

/-- R120: the wait is over: the silence has reached 3 + k and no character is on the line. -/
def Link.waitOver (l : Link) (o : Outgoing) : Bool :=
  !o.sending && !l.charOn && decide (3 + o.k ≤ l.silence)

/-- R122: the attempt's first character; the whole content is fixed in this event. -/
def State.beginAttempt (o : Outgoing) (s : State) : State :=
  let seq := o.seq.getD s.link.seqCounter
  let counter := if o.seq.isNone then (s.link.seqCounter + 1) % 256 else s.link.seqCounter
  let frame := (s.ownBulletin seq).frame
  { s with
    link := { s.link with
      slot := some ⟨true, o.attempt, o.k, some seq, o.wait, frame, 0⟩
      seqCounter := counter
      urgent := false
      periodic := 0
      sinceStart := some 0
      silence := 0
      idle := false
      charOn := true
      cut := false
      sentTime := 0
      receiver := .hunting }
    freeCount := s.freeCount + 1 }

/-- R124: the read-back agrees: the character sent, with its stop bit, and no later than the end of its character time. -/
def State.readsBack (o : Outgoing) (b : Byte) (stopFound : Bool) (s : State) : Bool :=
  stopFound && o.frame[o.readBack]? == some b && decide (s.link.sentTime ≤ 1)

/-- R124: one read-back character while sending: agreement, completion at the last, or the mismatch of R125. -/
def State.readBack (o : Outgoing) (b : Byte) (stopFound : Bool) (s : State) : State :=
  if s.readsBack o b stopFound then
    if o.readBack + 1 = o.frame.length then s.completeTransmission
    else { s with link := { s.link with slot := some { o with readBack := o.readBack + 1 } } }
  else s.failAttempt o

end Sys2Proof.Machine
end

