-- ==== Sys2Proof/Machine/Stage.lean ====
section
/-! DEFINITION. The Stage Sequencer: the phase changes and their hand-over, the restraint set, the close (R20 to R35,
R84 to R90). The general evaluation that a phase change raises is made by the callers in Coordinate.lean. -/

namespace Sys2Proof.Machine

/-- A change to the stage record, while there is one. -/
def State.modStage (f : StageRecord → StageRecord) (s : State) : State :=
  { s with seq := { s.seq with stage := s.seq.stage.map f } }

/-- R73 to R75, R20: the Regulator's outputs for a new phase. S is 0 after every phase change; the runs end when the
phase leaves INJECTING. -/
def Regulator.handed (old new : Phase) (r : Regulator) : Regulator :=
  { r with
    stroke := 0
    valveOpen := new.pumping
    suctionWater := new == .testing
    arrivalRun := if old = .injecting then 0 else r.arrivalRun
    advanceCount := if old = .injecting then 0 else r.advanceCount }

/-- R157, R158: an entry into PACKED or WAITING captures the HOLE baseline; a change to any other phase stops the own
connection report. -/
def Coordination.handed (new : Phase) (hole : Nat) (c : Coordination) : Coordination :=
  match new with
  | .packed | .waiting => { c with baseline := some hole, riseRun := 0, quietRun := 0 }
  | _ => { c with report := false, suspects := [], riseRun := 0, quietRun := 0 }

/-- R79, R88: the test state is held in TESTING alone; the confirmation run ends when the phase leaves INJECTING. -/
def Sequencer.handed (old new : Phase) (q : Sequencer) : Sequencer :=
  { q with
    test := if new = .testing then q.test else none
    confirmRun := if old = .injecting then 0 else q.confirmRun }

/-- R44: entry to VACANT empties the waiting slot. -/
def Envelope.handed (new : Phase) (e : Envelope) : Envelope :=
  if new = .vacant then { e with slot := none } else e

/-- R20: a change of phase is handed to the blocks in the same event. -/
def State.handover (old new : Phase) (s : State) : State :=
  State.urgent
    { s with
      reg := s.reg.handed old new
      coord := s.coord.handed new (s.deliveredNat .hole)
      seq := s.seq.handed old new
      env := s.env.handed new }

/-- The phases in which the restraint set may hold members (R22). -/
def Phase.restrained : Phase → Bool
  | .waiting | .holding => true
  | _ => false

/-- The open stage changes phase, to one other than VACANT: the set is emptied on entry into a phase whose set is
empty (R22), and the change is handed over (R20). -/
def State.enterPhase (new : Phase) (s : State) : State :=
  (s.modStage fun st =>
    { st with phase := new, restraints := if new.restrained then st.restraints else .none }).handover s.phase new

/-- The stage record is released and the phase becomes VACANT (R32, R36). -/
def State.vacate (s : State) : State :=
  { s with seq := { s.seq with stage := none } }.handover s.phase .vacant

/-- R84: the test results become "abandoned". -/
def State.abandonTest (s : State) : State := s.modStage fun st => { st with results := .abandoned }

/-- R85: the start mix, from the test results as they stand. -/
def startMixOf (t : Tag) (results : TestResults) : Nat :=
  match results with
  | .complete l =>
    match (l[2]?).bind (·.lugeon) with
    | some x => min t.mixes.length (1 + (t.thresholds.filter (fun th => decide (th ≤ x))).length)
    | none => t.defaultMix
  | _ => t.defaultMix

/-- R86, R87: a request of mix `m`: a history entry, the pending, and the confirmation run at 0. -/
def State.requestMix (m : Nat) (s : State) : State :=
  let sec := s.stageSecond
  let t := s.modStage fun st =>
    { st with history := st.history ++ [⟨m, 0, sec, false⟩], pendingMix := some ⟨m, sec, 0⟩ }
  { t with seq := { t.seq with confirmRun := 0 } }

/-- R25: the entry into INJECTING from WAITING. -/
def State.enterInjectingFirst (s : State) : State :=
  let t := s.enterPhase .injecting
  let m := match s.seq.stage with
    | none => 0
    | some st => startMixOf s.conf.tag st.results
  let t := t.modStage fun st =>
    { st with startMix := some m, currentMix := some m, injectionAt := some s.time.clock }
  let t := t.requestMix m
  { t with seq := { t.seq with basePressure := none } }

/-- The restraint set takes a new value in WAITING or HOLDING without a change of phase: an urgent request (R20). -/
def State.setRestraints (r : Restraints) (s : State) : State := s.modStage fun st => { st with restraints := r }

/-- R25: entry into WAITING with the reasons brought and every condition present; an empty set passes on into
INJECTING in the same event. -/
def State.enterWaiting (brought : Restraints) (s : State) : State :=
  let set := brought.union s.seq.kept.toRestraints
  let t := (s.enterPhase .waiting).setRestraints set
  if set.isEmpty then t.enterInjectingFirst else t

/-- R27: entry into HOLDING with the arriving reasons and every condition present; the hold timer is zeroed (R28). -/
def State.enterHolding (brought : Restraints) (s : State) : State :=
  (s.enterPhase .holding).modStage fun st =>
    { st with restraints := brought.union s.seq.kept.toRestraints, holdTimer := 0 }

/-- R22, R25, R27: the set takes a new value in WAITING or HOLDING; an emptied set takes the stage into INJECTING, any
other change is an urgent request. A set left as it was is no change. -/
def State.changeSet (r : Restraints) (s : State) : State :=
  if r = s.restraints then s
  else if r.isEmpty then
    if s.phase = .waiting then (s.setRestraints r).enterInjectingFirst else (s.setRestraints r).enterPhase .injecting
  else (s.setRestraints r).urgent

/-- Reasons arrive (R22, R26, R27): TESTING abandons its test for WAITING, INJECTING enters HOLDING, WAITING and
HOLDING take them into the set, and the other phases take none. -/
def State.arrive (r : Restraints) (s : State) : State :=
  match s.phase with
  | .testing => s.abandonTest.enterWaiting r
  | .injecting => s.enterHolding r
  | .waiting | .holding => s.changeSet (s.restraints.union r)
  | _ => s

/-- R24: a block presents its conditions. `kept` is the six last presented values after the presentation, `arriving`
those the block presents as present. -/
def State.present (kept : Conditions) (arriving : Restraints) (s : State) : State :=
  let t : State := { s with seq := { s.seq with kept := kept } }
  match s.phase with
  | .testing | .injecting => if arriving.isEmpty then t else t.arrive arriving
  | .waiting | .holding => t.changeSet (s.restraints.latched.union kept.toRestraints)
  | _ => t

/-- R14: SENSOR while GAUGE or FLOW is FAILED, PACKER while SEAL is deasserted, presented at a sample set. -/
def State.presentField (s : State) : State :=
  let sensor := s.failed .gauge || s.failed .flow
  let packer := !s.meas.sealIn.accepted
  s.present { s.seq.kept with sensor := sensor, packer := packer }
    { Restraints.none with sensor := sensor, packer := packer }

/-- R167: a change of SUPPLY is presented in the event that makes it. -/
def State.presentSupply (p : Bool) (s : State) : State :=
  if p = s.seq.kept.supply then s
  else s.present { s.seq.kept with supply := p } { Restraints.none with supply := p }

/-- R34: the final values copied from a reckoning record of this stage, or absent. -/
def finalsOf (r : ReckRecord) (number : Nat) : Option FinalValues :=
  if r.stageNumber = some number then some ⟨r.pEff, r.v, r.i⟩ else none

/-- R34, R35: the entry into CLOSED. `r` is the record the final values come from. -/
def State.closeStage (outcome : Outcome) (criteria : Criteria) (r : ReckRecord) (s : State) : State :=
  let t := s.modStage fun st =>
    { st with
      outcome := some outcome
      criteria := criteria
      closedAt := some s.time.clock
      finals := finalsOf r st.number
      stepsAtClose := some (s.reg.commanded, s.reg.reached)
      pendingMix := none
      results := if st.phase = .testing then .abandoned else st.results }
  t.enterPhase .closed

/-- R65: the effective step is recomputed after a change of c or λ: a change zeroes the runs, and a rise sets the
refusal timer to 0 in any phase from PACKED to HOLDING (R96). -/
def State.recomputeStep (before : Nat) (s : State) : State :=
  if s.effective = before then s
  else
    let t : State := { s with reg := { s.reg with arrivalRun := 0, advanceCount := 0 } }
    if before < s.effective then
      t.modStage fun st => if st.phase = .closed then st else { st with refusalTimer := 0 }
    else t

/-- A new commanded step (R63). -/
def State.setCommanded (c : Nat) (s : State) : State :=
  { s with reg := { s.reg with commanded := c } }.recomputeStep s.effective

/-- A new step limit (R163, R65). -/
def State.setLimit (l : Nat) (s : State) : State :=
  { s with coord := { s.coord with limit := l } }.recomputeStep s.effective

/-- R89, R90: the pending mix becomes current: an urgent request when the index changes. -/
def State.makeCurrent (m : Nat) (s : State) : State :=
  let changed := s.currentMix ≠ some m
  let t := s.modStage fun st => { st with currentMix := some m, pendingMix := none }
  let t : State := { t with seq := { t.seq with confirmRun := 0, basePressure := none } }
  if changed then t.urgent else t

/-- The newest history entry (R86) changed. -/
def modNewest (f : MixEntry → MixEntry) : List MixEntry → List MixEntry
  | [] => []
  | [x] => [f x]
  | x :: rest => x :: modNewest f rest

/-- R89: confirmation of the pending mix. -/
def State.confirmMix (m : Nat) (s : State) : State :=
  (s.modStage fun st =>
    { st with history := modNewest (fun x => { x with confirmed := true }) st.history }).makeCurrent m

/-- R90: the timeout of the pending mix. -/
def State.timeoutMix (m : Nat) (s : State) : State :=
  ((s.report .mixTimeout (some (.channel .density))).modStage fun st => { st with inhibited := true }).makeCurrent m

end Sys2Proof.Machine
end

