-- ==== Sys2Proof/Machine/Coordinate.lean ====
section
/-! DEFINITION. The Coordination Unit: conflict and precedence, the general evaluation, the connection report, uplift,
the step limit and the supply (R148 to R167). -/

namespace Sys2Proof.Machine

/-- R150: the station of lower class precedes; between equal classes, the one of lower identity. -/
def precedes (clsA : Nat) (a : Identity) (clsB : Nat) (b : Identity) : Bool :=
  decide (clsA < clsB) || (decide (clsA = clsB) && identityLt a b)

/-- R150: an entry precedes this station. -/
def State.entryPrecedes (s : State) (e : Entry) : Bool :=
  precedes e.cls e.identity s.conf.tag.cls s.own

/-- R151: two closed intervals of depth overlap, compared as numbers. -/
def overlaps (t1 b1 t2 b2 : Int) : Bool := decide (t1 ≤ b2) && decide (t2 ≤ b1)

/-- R151: an entry conflicts with the own stage. -/
def State.conflicts (s : State) (e : Entry) : Bool :=
  match s.seq.stage, e.stage with
  | some st, some x =>
    decide (e.distance ≤ s.conf.tag.dSo)
      && overlaps x.top x.bottom ((st.top : Int) - s.conf.tag.mSo) ((st.bottom : Int) + s.conf.tag.mSo)
  | _, _ => false

/-- R152: the causes of STANDOFF. -/
def State.standoffCauses (s : State) : Causes :=
  let early := s.phase == .packed || s.phase == .waiting
  { conflictingActive := early && s.table.entries.any fun e => s.conflicts e && e.phase.active
    precedingWaiting :=
      early && s.table.entries.any fun e => s.conflicts e && e.phase == .waiting && s.entryPrecedes e
    precedingActive :=
      s.phase.active && s.table.entries.any fun e => s.conflicts e && e.phase.active && s.entryPrecedes e
    listen := s.conf.station == .listen
    duplicate := s.table.duplicate }

def Causes.any (c : Causes) : Bool :=
  c.conflictingActive || c.precedingWaiting || c.precedingActive || c.listen || c.duplicate

/-- R160: an entry names this station. -/
def State.named (s : State) : Bool := s.table.entries.any (·.namesOwn)

/-- R159, R160: CONNECTION, from the own report in PACKED or WAITING and from the named side under HOLD. -/
def State.connectionCondition (s : State) : Bool :=
  ((s.phase == .packed || s.phase == .waiting) && s.coord.report)
    || (s.isOpen && s.named && s.profile.action == .hold)

/-- R162: the states of the uplift sources, own and within D_up. -/
def State.upliftSources (s : State) : List UpliftState :=
  (match s.coord.uplift with
    | some u => [u.state]
    | none => [])
  ++ s.table.entries.filterMap fun e =>
      if e.distance ≤ s.conf.tag.dUp then e.uplift.map (·.state) else none

/-- R162: UPLIFT. -/
def State.upliftCondition (s : State) : Bool := s.upliftSources.any (· == .stop)

/-- R162: the uplift limit, where it applies. -/
def State.upliftLimit (s : State) : Option Nat :=
  if s.isOpen && !s.upliftCondition && s.upliftSources.any (· == .alert) then some s.profile.upliftStep else none

/-- R160: the connection limit, where it applies. -/
def State.connectionLimit (s : State) : Option Nat :=
  if s.isOpen && s.named && s.profile.action == .reduce then some s.profile.connStep else none

/-- R156: the number of INJECTING entries within D_dr that do not conflict. -/
def State.derateNeighbours (s : State) : Nat :=
  (s.table.entries.filter fun e =>
    e.phase == .injecting && decide (e.distance ≤ s.conf.tag.dDr) && !s.conflicts e).length

/-- R156: the derating limit. -/
def State.derateLimit (s : State) : Nat := max 1 (s.profile.top - min s.derateNeighbours 2 * s.conf.tag.kDr)

/-- R163: the step limit while a stage is open. -/
def State.stepLimit (s : State) : Nat :=
  max 1 (min (min s.profile.top s.derateLimit)
    (min (s.connectionLimit.getD s.profile.top) (s.upliftLimit.getD s.profile.top)))

/-- R164: the own supply class is CRITICAL. -/
def State.ownCritical (s : State) : Bool :=
  match s.seq.stage with
  | some st => st.phase == .injecting && decide (0 < st.refusalTimer)
  | none => false

/-- R164: the published demand. -/
def State.publishedDemand (s : State) : Nat :=
  if s.phase = .injecting then
    if s.ownCritical then min s.profile.qmax (2 * s.profile.qref) else s.profile.qmax
  else 0

/-- R164: the computation demand; none while VACANT. -/
def State.computationDemand (s : State) : Option Nat :=
  if s.phase = .vacant then none
  else if s.phase = .injecting then some s.publishedDemand
  else some s.profile.qmax

/-- R164: the own supply class and demands, formed at every evaluation. -/
def State.formDemand (s : State) : State :=
  { s with coord := { s.coord with
      critical := s.ownCritical
      published := s.publishedDemand
      computation := s.computationDemand } }

/-- R149, R163: the causes and limits that one general evaluation forms, and λ handed to the Regulator. -/
def State.formLimits (s : State) : State :=
  let t : State :=
    { s with coord := { s.coord with
        causes := s.standoffCauses
        limitConnection := s.connectionLimit
        limitUplift := s.upliftLimit
        limitDerate := if s.isOpen then s.derateLimit else s.coord.limitDerate
        derateCount := if s.isOpen then s.derateNeighbours else s.coord.derateCount } }
  if s.isOpen then t.setLimit s.stepLimit else t

/-- R149: STANDOFF, CONNECTION and UPLIFT presented together (log entry 6). -/
def State.presentCoordination (s : State) : State :=
  let so := s.standoffCauses.any
  let cn := s.connectionCondition
  let up := s.upliftCondition
  s.present { s.seq.kept with standoff := so, connection := cn, uplift := up }
    { Restraints.none with standoff := so, connection := cn, uplift := up }

/-- One general evaluation, without the evaluation that a change of phase it causes raises. The own class and demands are
formed on the refusal timer as the evaluation finds it: λ is handed to the Regulator at its end, so the timer that a
rise of e zeroes is read by the next evaluation (R148, R149, R164). -/
def State.evaluateOnce (s : State) : State :=
  if s.working then s.formDemand.formLimits.presentCoordination else s

/-- R148: a general evaluation; a change of phase it causes raises one more, which changes the phase no further
(log entry 8). -/
def State.evaluate (s : State) : State :=
  let t := s.evaluateOnce
  if t.phase = s.phase then t else t.evaluateOnce

/-- R20, R148: after a part of an event, the evaluation that a change of own phase raises. -/
def State.settle (before : Phase) (s : State) : State := if s.phase = before then s else s.evaluate

/-- A part of an event, with the evaluation of the phase change it makes. -/
def State.settled (f : State → State) (s : State) : State := (f s).settle s.phase

/-! ## Connection report (R157, R158) -/

/-- Nearest first, equal distances in order of lower identity. -/
def nearer (a b : Entry) : Bool :=
  decide (a.distance < b.distance) || (decide (a.distance = b.distance) && identityLt a.identity b.identity)

/-- Insertion before the first element that does not come earlier. -/
def insertBy {α : Type} (earlier : α → α → Bool) (x : α) : List α → List α
  | [] => [x]
  | y :: rest => if earlier y x then y :: insertBy earlier x rest else x :: y :: rest

/-- Sorting by an order, structurally. -/
def sortBy {α : Type} (earlier : α → α → Bool) : List α → List α
  | [] => []
  | x :: rest => insertBy earlier x (sortBy earlier rest)

/-- R158: the suspected list: INJECTING entries within D_cn, nearest first, cut after the fourth. -/
def State.suspectedNow (s : State) : List Identity :=
  ((sortBy nearer (s.table.entries.filter fun e =>
    e.phase == .injecting && decide (e.distance ≤ s.conf.tag.dCn))).take 4).map (·.identity)

/-- R158: the report starts. -/
def State.startReport (s : State) : State :=
  State.evaluate (State.urgent
    { s with coord := { s.coord with
        report := true, riseRun := 0, quietRun := 0, suspects := s.suspectedNow } })

/-- R158: the report clears. -/
def State.clearReport (s : State) : State :=
  State.evaluate (State.urgent
    { s with coord := { s.coord with report := false, suspects := [], riseRun := 0, quietRun := 0 } })

/-- R157: HOLE at or above baseline + ΔP_conn. -/
def State.holeHigh (s : State) : Bool :=
  match s.coord.baseline with
  | some b => decide (b + s.conf.tag.dpConn ≤ s.deliveredNat .hole)
  | none => false

/-- R157: HOLE below baseline + floor(ΔP_conn / 2). -/
def State.holeQuiet (s : State) : Bool :=
  match s.coord.baseline with
  | some b => decide (s.deliveredNat .hole < b + s.conf.tag.dpConn / 2)
  | none => false

/-- R157: the report starts at this sample set. -/
def State.reportStarts (s : State) : Bool :=
  (s.phase == .packed || s.phase == .waiting) && !s.failed .hole && !s.coord.report
    && (s.meas.leakIn.accepted || (s.holeHigh && decide (50 ≤ s.coord.riseRun + 1)))

/-- R157: the report clears at this sample set. -/
def State.reportClears (s : State) : Bool :=
  (s.phase == .packed || s.phase == .waiting) && !s.failed .hole && s.coord.report
    && (s.holeQuiet && !s.meas.leakIn.accepted && decide (100 ≤ s.coord.quietRun + 1))

/-- R157: the reporter side at one sample set, while the Coordination Unit works (R148). -/
def State.sampleConnection (s : State) : State :=
  if s.working && (s.phase == .packed || s.phase == .waiting) then
    if s.failed .hole then { s with coord := { s.coord with riseRun := 0, quietRun := 0 } }
    else if s.reportStarts then s.startReport
    else if s.reportClears then s.clearReport
    else if s.coord.report then
      { s with coord := { s.coord with
          quietRun := if s.holeQuiet && !s.meas.leakIn.accepted then s.coord.quietRun + 1 else 0 } }
    else { s with coord := { s.coord with riseRun := if s.holeHigh then s.coord.riseRun + 1 else 0 } }
  else s

/-- R158: the list of an active report is formed again at a second boundary; a change is urgent. -/
def State.refreshSuspects (s : State) : State :=
  if s.coord.report then
    if s.suspectedNow = s.coord.suspects then s
    else State.urgent { s with coord := { s.coord with suspects := s.suspectedNow } }
  else s

/-! ## Own uplift (R161) -/

/-- R161: the state after, from the state before and the value. -/
def upliftAfter (t : Tag) (before : UpliftState) (value : Int) : UpliftState :=
  match before with
  | .normal =>
    if (t.uStop : Int) ≤ value then .stop else if (t.uAlert : Int) ≤ value then .alert else .normal
  | .alert =>
    if (t.uStop : Int) ≤ value then .stop
    else if value < (t.uAlert : Int) - t.uHys then .normal
    else .alert
  | .stop =>
    if (t.uStop : Int) - t.uHys ≤ value then .stop
    else if value < (t.uAlert : Int) - t.uHys then .normal
    else .alert

/-- R161: the own uplift after a sample set. -/
def State.upliftSample (s : State) (u : Uplift) : Uplift :=
  if s.failed .uplift then ⟨.alert, none, true⟩
  else
    let value := (s.meas.channels.uplift.delivered).getD 0
    ⟨upliftAfter s.conf.tag u.state value, some value, false⟩

/-- R161: the own uplift at one sample set; a change of state is urgent and is evaluated. -/
def State.sampleUplift (s : State) : State :=
  if s.working && s.upliftFitted then
    match s.coord.uplift with
    | none => s
    | some u =>
      let u' := s.upliftSample u
      let t : State := { s with coord := { s.coord with uplift := some u' } }
      if u'.state = u.state then t else t.urgent.evaluate
  else s

/-! ## Supply (R164 to R167, R72) -/

/-- A participant of the allowance computation (R165). -/
structure Participant where
  critical : Bool
  demand : Nat
  weight : Nat
  identity : Identity
  own : Bool
deriving DecidableEq, Repr

/-- R165: the participants other than the own station. -/
def State.otherParticipants (s : State) : List Participant :=
  s.table.entries.filterMap fun e =>
    match e.stage with
    | some x =>
      if e.phase == .injecting && decide (0 < x.demand) then
        some ⟨x.critical, x.demand, e.weight, e.identity, false⟩
      else none
    | none => none

/-- R165: all participants, the own station always. -/
def State.participants (s : State) : List Participant :=
  ⟨s.coord.critical, s.coord.computation.getD 0, s.conf.tag.weight, s.own, true⟩ :: s.otherParticipants

/-- R165: the critical total C. -/
def criticalTotalOf (l : List Participant) : Nat :=
  ((l.filter (·.critical)).map (·.demand)).sum

/-- R166: demand per unit of weight, smallest first; between equals, the lower identity. -/
def sharesBefore (a b : Participant) : Bool :=
  decide (a.demand * b.weight < b.demand * a.weight)
    || (decide (a.demand * b.weight = b.demand * a.weight) && identityLt a.identity b.identity)

/-- R166: the walk, answering the own allocation. -/
def walkShares (rem : Nat) (weights : Nat) : List Participant → Nat
  | [] => 0
  | p :: rest =>
    let alloc := min p.demand (rem * p.weight / weights)
    if p.own then alloc else walkShares (rem - alloc) (weights - p.weight) rest

/-- R165, R166: the own allowance, on the own class and computation demand as formed. -/
def State.allowanceNow (s : State) : Nat :=
  let c := criticalTotalOf s.participants
  let cap := s.conf.tag.qCap
  if s.coord.critical then
    let demand := s.coord.computation.getD 0
    if c ≤ cap then demand else demand * cap / c
  else
    let normal := s.participants.filter (fun p => !p.critical)
    walkShares (cap - c) ((normal.map (·.weight)).sum) (sortBy sharesBefore normal)

/-- R72: the stroke cap in INJECTING. -/
def State.injectingCap (s : State) : Nat :=
  min s.conf.tag.sMax (100 * s.coord.allowance / s.conf.tag.disp)

/-- R72: a changed allowance cuts S to the new cap at once in INJECTING. -/
def State.setAllowance (a : Nat) (s : State) : State :=
  let t : State := { s with coord := { s.coord with allowance := a } }
  if t.phase = .injecting then { t with reg := { t.reg with stroke := min t.reg.stroke t.injectingCap } } else t

/-- R167: the runs after an allowance is formed. -/
def State.supplyRuns (s : State) : State :=
  { s with coord := { s.coord with
      lowRun := if s.coord.allowance < s.conf.tag.qMin then min 10 (s.coord.lowRun + 1) else 0
      highRun :=
        if s.conf.tag.qMin + s.conf.tag.qHys ≤ s.coord.allowance then min 10 (s.coord.highRun + 1) else 0 } }

/-- R167: SUPPLY after a supply evaluation whose low-allowance run stood at `low` before it. -/
def State.judgeSupply (low : Nat) (s : State) : State :=
  if low < 10 ∧ s.coord.lowRun = 10 then s.settled (State.presentSupply true)
  else if s.coord.highRun = 10 ∧ s.conf.tag.hMin ≤ s.deliveredNat .header then s.settled (State.presentSupply false)
  else s

/-- R165, R167: what a supply evaluation forms: class and demands, allowance, runs. -/
def State.formSupply (s : State) : State :=
  let t := s.formDemand
  let t : State := { t with coord := { t.coord with
    criticalTotal := criticalTotalOf t.participants
    participants := t.participants.length } }
  (t.setAllowance t.allowanceNow).supplyRuns

/-- R148: a supply evaluation, made at each stored completion while the Coordination Unit works. -/
def State.supplyEvaluation (s : State) : State :=
  if s.working && s.isOpen then s.formSupply.judgeSupply s.coord.lowRun else s

/-- R167: the header-low run at one sample set. -/
def State.sampleHeader (s : State) : State :=
  if s.working then
    let run := if s.deliveredNat .header < s.conf.tag.hMin then min 20 (s.coord.headerRun + 1) else 0
    let t : State := { s with coord := { s.coord with headerRun := run } }
    if s.coord.headerRun < 20 ∧ run = 20 then t.settled (State.presentSupply true) else t
  else s

/-! ## LISTEN (R154) -/

/-- R154: the time since the LISTEN start, in tenths, across the clock's wrap (log entry 26). -/
def State.listenTenths (s : State) (start : Nat × Nat) : Nat :=
  elapsed32 start.1 s.time.clock * 10 + s.time.tenths - start.2

/-- R154: LISTEN ends: the elapsed time has reached 3 × P_b. -/
def State.listenOver (s : State) : Bool :=
  s.conf.station == .listen
    && (match s.coord.listenStart with
        | some start => decide (3 * s.conf.tag.pB ≤ s.listenTenths start * 100)
        | none => false)

/-- R154: the station becomes RUNNING. -/
def State.endListen (s : State) : State :=
  State.evaluate { s with conf := { s.conf with station := .running } }

/-- R155: the Coordination Unit at a second boundary, in its order. -/
def State.boundaryCoordination (s : State) : State :=
  if s.working then
    let t := if s.listenOver then s.endListen else s
    t.refreshSuspects.evaluate
  else s

end Sys2Proof.Machine
end

