-- ==== Sys2Proof/Machine/Counters.lean ====
section
/-! DEFINITION. The Take Counters: counting by remainder, time in phase, peaks, saturation, the second window and the
HELD copy (R100 to R111). -/

namespace Sys2Proof.Machine

/-- A 32-bit saturating count raised by whole units. -/
def raise32 (n units : Nat) : Nat := min max32 (n + units)

/-- R106: an increment finds the counter at its bound or brings it there. -/
def reaches32 (n units : Nat) : Bool := decide (0 < units) && decide (max32 ≤ n + units)

def State.modLive (f : LiveCounters → LiveCounters) (s : State) : State :=
  { s with take := { s.take with live := f s.take.live } }

/-- R106: a counter's first saturation sets its flag and reports COUNT_SATURATED. -/
def State.noteSaturation (hit flag : Bool) (set : Saturated → Saturated) (s : State) : State :=
  if hit = true ∧ flag = false then
    (s.modLive fun l => { l with saturated := set l.saturated }).report .countSaturated none
  else s

/-- R101: grout by remainder, each unit of V also to the newest history entry (R86). -/
def State.countGrout (flow : Nat) (s : State) : State :=
  let rem := s.take.remGrout + flow
  let units := rem / 600
  let hit := reaches32 s.take.live.volume units
  let t : State := { s with take := { s.take with
    remGrout := rem % 600
    live := { s.take.live with volume := raise32 s.take.live.volume units } } }
  let t := t.modStage fun st =>
    { st with history := modNewest (fun x => { x with volume := raise32 x.volume units }) st.history }
  t.noteSaturation hit s.take.live.saturated.volume fun x => { x with volume := true }

/-- R102: test water by remainder. -/
def State.countWater (flow : Nat) (s : State) : State :=
  let rem := s.take.remWater + flow
  let units := rem / 600
  let hit := reaches32 s.take.live.water units
  let t : State := { s with take := { s.take with
    remWater := rem % 600
    live := { s.take.live with water := raise32 s.take.live.water units } } }
  t.noteSaturation hit s.take.live.saturated.water fun x => { x with water := true }

/-- R103: pump strokes by remainder, from the stroke command of the sample set. -/
def State.countStrokes (stroke : Nat) (s : State) : State :=
  let rem := s.take.remStroke + stroke
  let units := rem / 6000
  let hit := reaches32 s.take.live.strokes units
  let t : State := { s with take := { s.take with
    remStroke := rem % 6000
    live := { s.take.live with strokes := raise32 s.take.live.strokes units } } }
  t.noteSaturation hit s.take.live.saturated.strokes fun x => { x with strokes := true }

/-- R105: peak q, in TESTING and INJECTING. -/
def State.notePeakQ (flow : Nat) (s : State) : State :=
  s.modLive fun l => { l with peakQ := max l.peakQ flow }

/-- R107: one sample set gathered by the second window. -/
def Window.gather (gauge : Nat) (pumping : Bool) (w : Window) : Window :=
  { w with
    gaugeMin := some (match w.gaugeMin with | some m => min m gauge | none => gauge)
    gaugeMax := some (match w.gaugeMax with | some m => max m gauge | none => gauge)
    pumping := w.pumping && pumping }

/-- R101 to R107: the Take Counters at one sample set, by the phase found. -/
def State.sampleCounters (flow gauge stroke : Nat) (s : State) : State :=
  let p := s.phase
  let s := if p = .injecting ∨ p = .holding then s.countGrout flow else s
  let s := if p = .testing then s.countWater flow else s
  let s := if p = .vacant ∨ p = .closed then s else s.countStrokes stroke
  let s := if p.pumping then s.notePeakQ flow else s
  { s with take := { s.take with window := s.take.window.gather gauge p.pumping } }

/-- R105, R107: the Take Counters at a stored completion: `flow` as the reckoning latched it. -/
def State.completionCounters (flow : Nat) (pEff : Int) (s : State) : State :=
  let w := s.take.window
  let s : State := { s with take := { s.take with
    window := { w with flowSum := w.flowSum + flow, pressSum := w.pressSum + pEff, count := w.count + 1 } } }
  if s.phase.pumping then
    s.modLive fun l =>
      { l with peakP := some (match l.peakP with | some m => max m pEff | none => pEff) }
  else s

/-- R104, R106: one second in the phase found at the boundary. -/
def State.countSecond (s : State) : State :=
  let l := s.take.live
  match s.phase with
  | .waiting =>
    (s.modLive fun l => { l with secWaiting := raise32 l.secWaiting 1 }).noteSaturation
      (reaches32 l.secWaiting 1) l.saturated.waiting fun x => { x with waiting := true }
  | .injecting =>
    (s.modLive fun l => { l with secInjecting := raise32 l.secInjecting 1 }).noteSaturation
      (reaches32 l.secInjecting 1) l.saturated.injecting fun x => { x with injecting := true }
  | .holding =>
    (s.modLive fun l => { l with secHolding := raise32 l.secHolding 1 }).noteSaturation
      (reaches32 l.secHolding 1) l.saturated.holding fun x => { x with holding := true }
  | _ => s

/-- R108: the values a window closes with. Means are floored downwards. -/
def Window.close (w : Window) : LastSecond where
  meanQ := if w.count = 0 then none else some (w.flowSum / w.count)
  meanP := if w.count = 0 then none else some (w.pressSum / (w.count : Int))
  pp := match w.gaugeMin, w.gaugeMax with
    | some a, some b => some (b - a)
    | _, _ => none
  pumping := w.pumping

/-- R108: the closing window may raise the stage p-p peak: it pumped throughout, and a stage is open that is not CLOSED,
where no counter moves (R34, R100; log entry 28). -/
def State.peakCounts (s : State) : Bool := s.isOpen && s.phase != .closed && s.take.window.pumping

/-- R108: the second window closes and restarts. -/
def State.closeWindow (s : State) : State :=
  let v := s.take.window.close
  let pp := if s.peakCounts then max s.take.live.ppPeak (v.pp.getD 0) else s.take.live.ppPeak
  { s with take := { s.take with second := v, window := .fresh, live := { s.take.live with ppPeak := pp } } }

/-! ## The records of the HELD window (R109) -/

/-- READ STAGE's content (R175). -/
def State.stageView (s : State) : StageView :=
  ⟨s.seq.stage, s.seq.test, s.seq.basePressure, s.seq.confirmRun, s.seq.intensityRun⟩

/-- R77: the stroke cap in force. -/
def State.capInForce (s : State) : Option Nat :=
  match s.phase with
  | .testing => some s.conf.tag.sMax
  | .injecting => some s.injectingCap
  | _ => none

/-- The STEPS record (R77). -/
def State.stepsView (s : State) : StepsView where
  commanded := s.reg.commanded
  limit := s.coord.limit
  effective := s.effective
  reached := s.reg.reached
  top := s.seq.stage.map fun st => (s.profileAt st.profile).top
  arrivalRun := s.reg.arrivalRun
  advanceCount := s.reg.advanceCount
  goal := if s.conf.inForce then some (10 * s.conf.tag.tAdv) else none
  stroke := s.reg.stroke
  cap := s.capInForce
  valveOpen := s.reg.valveOpen
  suctionWater := s.reg.suctionWater
  mixRequest := s.mixRequest

/-- The COORD record (R168). -/
def State.coordView (s : State) : CoordView :=
  ⟨s.coord, s.seq.kept.standoff, s.seq.kept.connection, s.seq.kept.uplift, s.seq.kept.supply⟩

/-- R109: a HELD copy replaces the whole HELD window. -/
def State.takeCopy (cause : CopyCause) (s : State) : State :=
  { s with take := { s.take with
      held := {
        stage := s.stageView
        record := s.env.record
        live := s.take.live
        second := s.take.second
        steps := s.stepsView
        coord := s.coordView
        time := some (s.time.clock, s.time.tenths)
        cause := cause } } }

/-- R104, R108 to R110: the Take Counters at a second boundary, the copy after their own work. -/
def State.boundaryCounters (s : State) : State :=
  let t := s.countSecond.closeWindow
  if t.take.autoCopy then t.takeCopy .auto else t

end Sys2Proof.Machine
end

