-- ==== Sys2Proof/Machine/Reckon.lean ====
section
/-! DEFINITION. The arithmetic of a reckoning, in the order the Envelope Unit works it (R49 to R61). -/

namespace Sys2Proof.Machine

/-- Rounded half up, of a quotient of non-negative numbers (00, Arithmetic). -/
def roundHalfUp (a b : Nat) : Nat := (2 * a + b) / (2 * b)

/-- Clamp a signed value between two bounds. -/
def clampInt (lo hi x : Int) : Int := max lo (min hi x)

/-- R49: the stage midpoint, cm along the hole. -/
def Latched.mid (l : Latched) : Nat := (l.top + l.bottom) / 2

/-- R49: the vertical depth of the midpoint below the collar. -/
def Latched.mv (l : Latched) : Nat := l.mid * l.incl / 1000

/-- R49: the vertical height from the midpoint up to the gauge. -/
def Latched.hv (l : Latched) : Nat := l.hg + l.mv

/-- R50: the density used in the head. -/
def Latched.rho (l : Latched) : Nat :=
  if l.phase = .testing then 1000 else max 1000 (min 2200 l.density)

/-- R51. -/
def Latched.pHead (l : Latched) : Nat := roundHalfUp (l.rho * l.hv * 981) 10000000

/-- R52: the friction coefficient of the fluid in the line. -/
def Latched.cf (l : Latched) : Nat :=
  if l.phase = .testing then l.cWater else l.friction.getD l.cWater

/-- R52: rounded half up, then capped at 5,000. -/
def Latched.pFric (l : Latched) : Nat :=
  min 5000 (roundHalfUp (l.cf * (l.flow * l.flow) * (l.lh + l.top)) 1000000000)

/-- R53. -/
def Latched.pWater (l : Latched) : Nat :=
  if l.wv < l.mv then roundHalfUp ((l.mv - l.wv) * 981) 10000 else 0

/-- R54. -/
def Latched.pEff (l : Latched) : Int :=
  clampInt (-2000) 16000 ((l.gauge : Int) + l.pHead - l.pFric - l.pWater)

/-- R55. -/
def Latched.take (l : Latched) : Nat := min 65535 (l.volume * 100 / l.length)

/-- R56. -/
def Latched.intensity (l : Latched) : Nat := l.pEff.toNat * l.take / 10

/-- R57. -/
def Latched.pEnv (l : Latched) : Nat :=
  if l.take = 0 then l.profile.pmax else min l.profile.pmax (l.profile.gin * 10 / l.take)

/-- R58. -/
def Latched.pTgt (l : Latched) : Nat :=
  match l.phase with
  | .injecting | .holding | .waiting => min l.ladderE l.pEnv
  | .testing => min (l.testPressure.getD 0) l.profile.pmax
  | _ => 0

/-- R59. -/
def Latched.gSet (l : Latched) : Nat :=
  (clampInt 0 l.gLim ((l.pTgt : Int) - l.pHead + l.pFric + l.pWater)).toNat

/-- R49 to R61: the record of a reckoning; `replaced` is the count of sets replaced at the completion. -/
def Latched.record (l : Latched) (replaced : Nat) : ReckRecord where
  stageNumber := some l.stageNumber
  sampleSeq := l.sampleSeq
  phase := l.phase
  e := l.e
  pHead := l.pHead
  pFric := l.pFric
  pWater := l.pWater
  pEff := l.pEff
  v := l.take
  i := l.intensity
  pEnv := l.pEnv
  pTgt := l.pTgt
  gSet := l.gSet
  volumeReached := decide (l.profile.vmax ≤ l.take)
  intensityReached := decide (l.profile.gin ≤ l.intensity)
  refusalPressureOk := decide ((l.pTgt : Int) - l.profile.tolp ≤ l.pEff)
  refusalFlowOk := decide (l.flow ≤ l.profile.qref)
  binding := decide (l.e = l.profile.top) || decide (l.pEnv < l.ladderE)
  replaced := replaced

/-- R42: the inputs latched at the beginning of the reckoning of a sample set, from the sources as they stand. -/
def State.latch (set : SampleSet) (st : StageRecord) (s : State) : Latched where
  sampleSeq := set.seq
  gauge := set.gauge
  flow := set.flow
  density := set.density
  failed := set.failed
  stageNumber := st.number
  phase := st.phase
  top := st.top
  bottom := st.bottom
  length := st.length
  hg := s.conf.tag.hg
  incl := s.conf.tag.incl
  lh := s.conf.tag.lh
  wv := s.conf.tag.wv
  cWater := s.conf.tag.cWater
  mix := st.currentMix
  friction := (st.currentMix.bind s.conf.tag.mix?).map (·.friction)
  volume := s.take.live.volume
  profile := s.profileAt st.profile
  ladderE := s.conf.tag.rung s.effective
  e := s.effective
  testPressure := s.seq.test.map (·.pressure)
  gLim := s.conf.tag.gLim

/-- A reckoning begins on a sample set (R42); none begins while no stage is open (R41). -/
def State.beginReckoning (set : SampleSet) (s : State) : State :=
  match s.seq.stage with
  | none => s
  | some st => { s with env := { s.env with inFlight := some (s.latch set st) } }

/-- R41, R43: a sample set arriving while a stage is open begins a reckoning, or enters or replaces the slot. -/
def State.offerSet (set : SampleSet) (s : State) : State :=
  if s.isOpen then
    match s.env.inFlight with
    | none => s.beginReckoning set
    | some _ =>
      match s.env.slot with
      | none => { s with env := { s.env with slot := some set } }
      | some _ => { s with env := { s.env with slot := some set, replaced := satSucc max16 s.env.replaced } }
  else s

/-- R44: the stage for which a reckoning began is still open. -/
def State.stillOpen (l : Latched) (s : State) : Bool :=
  match s.seq.stage with
  | none => false
  | some st => st.number == l.stageNumber

end Sys2Proof.Machine
end

