-- ==== Sys2Proof/Machine/Completion.lean ====
section
/-! DEFINITION. What acts at a stored completion: the Pump Regulator (R66 to R72), the water test (R80 to R83), the
Sequencer's checks in INJECTING (R91 to R98). -/

namespace Sys2Proof.Machine

/-! ## Pump Regulator -/

/-- R66: the pressure agrees with an arrival from below on the effective step. -/
def State.agreesBelow (s : State) (pEff : Int) : Bool :=
  decide ((s.conf.tag.rung s.effective : Int) - s.profile.tolp ≤ pEff)

/-- R67: the pressure agrees with a descent to the effective step. -/
def State.agreesAbove (s : State) (pEff : Int) : Bool :=
  decide (pEff ≤ (s.conf.tag.rung s.effective : Int) + s.profile.tolp)

/-- R66, R67: r becomes e, the run 0, and the link is told at once. -/
def State.reachStep (s : State) : State :=
  State.urgent { s with reg := { s.reg with reached := s.effective, arrivalRun := 0 } }

/-- R66: this completion would bring the arrival run to 3. -/
def State.arrives (s : State) (pEff : Int) : Bool :=
  s.phase == .injecting && decide (s.reg.reached < s.effective) && s.agreesBelow pEff
    && decide (3 ≤ s.reg.arrivalRun + 1)

/-- R66, R67: the arrival part of a completion found in INJECTING. -/
def State.arrivalPart (pEff : Int) (s : State) : State :=
  if s.arrives pEff then s.reachStep
  else if s.reg.reached < s.effective then
    { s with reg := { s.reg with arrivalRun := if s.agreesBelow pEff then s.reg.arrivalRun + 1 else 0 } }
  else if s.effective < s.reg.reached then (if s.agreesAbove pEff then s.reachStep else s)
  else { s with reg := { s.reg with arrivalRun := 0 } }

/-- R68: the four tests of auto-advance. -/
def State.mayAdvance (s : State) (q : Nat) : Bool :=
  (match s.seq.stage with
    | some st => st.autoAdvance
    | none => false)
    && decide (s.reg.reached = s.reg.commanded) && decide (s.reg.commanded = s.effective)
    && decide (s.reg.commanded < s.profile.top) && decide (q ≤ s.conf.tag.qAdv)

/-- R68: this completion would bring the advance count to 10 × t_adv. -/
def State.advances (s : State) (q : Nat) : Bool :=
  s.phase == .injecting && s.mayAdvance q && decide (10 * s.conf.tag.tAdv ≤ s.reg.advanceCount + 1)

/-- R68: c goes up by one and the count becomes 0. -/
def State.advanceStep (s : State) : State :=
  let t := s.setCommanded (s.reg.commanded + 1)
  { t with reg := { t.reg with advanceCount := 0 } }

/-- R68: the advance part of a completion found in INJECTING. -/
def State.advancePart (q : Nat) (s : State) : State :=
  if s.advances q then s.advanceStep
  else { s with reg := { s.reg with advanceCount := if s.mayAdvance q then s.reg.advanceCount + 1 else 0 } }

/-- R72: the cap of an update by the phase found. -/
def State.strokeCap (s : State) : Nat := if s.phase = .testing then s.conf.tag.sMax else s.injectingCap

/-- R71: the change of S for a gauge set-point, clamped by the slews. -/
def State.strokeChange (s : State) (gSet : Nat) : Int :=
  let raw := (((gSet : Int) - s.deliveredNat .gauge) * s.conf.tag.gain).tdiv 1024
  max (-(s.conf.tag.slewDn : Int)) (min s.conf.tag.slewUp raw)

/-- R71: the stroke update. -/
def State.strokeUpdate (gSet : Nat) (s : State) : State :=
  { s with reg := { s.reg with
      stroke := min s.strokeCap ((s.reg.stroke : Int) + s.strokeChange gSet).toNat } }

/-- R70: the Regulator at a stored completion, by the phase found. -/
def State.completeRegulator (q : Nat) (r : ReckRecord) (s : State) : State :=
  match s.phase with
  | .injecting => ((s.arrivalPart r.pEff).advancePart q).strokeUpdate r.gSet
  | .testing => s.strokeUpdate r.gSet
  | _ => s

/-! ## Water test -/

/-- R79: the test pressure of a step: p_a, p_b, p_c, p_b, p_a. -/
def Profile.testPressure (p : Profile) (step : Nat) : Nat :=
  match step with
  | 1 | 5 => p.pa
  | 2 | 4 => p.pb
  | _ => p.pc

/-- R80, R81: the beginning of a test step. -/
def TestState.begin (p : Profile) (step : Nat) (records : List StepRecord) : TestState :=
  ⟨step, 0, p.testPressure step, 0, 0, 0, records⟩

/-- R82: the Lugeon value of a mean flow and pressure over a stage length, in cm. -/
def lugeonOf (meanQ : Nat) (meanP : Int) (length : Nat) : Option Nat :=
  if 0 < meanP then some (min 9999 (meanQ * 100000 / (length * meanP.toNat))) else none

/-- R82: the step record formed from the second-half sums. -/
def TestState.stepRecord (t : TestState) (length : Nat) : StepRecord :=
  let q := t.flowSum / t.half
  let p := t.pressSum / (t.half : Int)
  ⟨q, p, lugeonOf q p length⟩

/-- R81: one completion counted: the sums in the second half. -/
def TestState.counted (tTest q : Nat) (pEff : Int) (t : TestState) : TestState :=
  let n := t.count + 1
  if 5 * tTest < n then
    { t with count := n, flowSum := t.flowSum + q, pressSum := t.pressSum + pEff, half := t.half + 1 }
  else { t with count := n }

/-- R81: this completion ends the step. -/
def TestState.ends (tTest : Nat) (t : TestState) : Bool := decide (10 * tTest ≤ t.count + 1)

/-- R81, R83: the end of a step, on the test state with this completion counted. -/
def State.endTestStep (x : TestState) (st : StageRecord) (s : State) : State :=
  let records := x.records ++ [x.stepRecord st.length]
  if x.step < 5 then
    { s with seq := { s.seq with
        test := some (TestState.begin (s.profileAt st.profile) (x.step + 1) records) } }
  else (s.modStage fun r => { r with results := .complete records }).enterWaiting .none

/-- R81: the Sequencer at a completion found in TESTING. -/
def State.completeTest (q : Nat) (pEff : Int) (s : State) : State :=
  match s.seq.stage, s.seq.test with
  | some st, some t =>
    let x := t.counted s.conf.tag.tTest q pEff
    if t.ends s.conf.tag.tTest then s.endTestStep x st
    else { s with seq := { s.seq with test := some x } }
  | _, _ => s

/-- R80: entry into TESTING from PACKED begins step 1 with the test results absent. -/
def State.startTest (s : State) : State :=
  let t := (s.modStage fun st => { st with results := .absent }).enterPhase .testing
  { t with seq := { t.seq with test := some (TestState.begin t.profile 1 []) } }

/-! ## The Sequencer at an INJECTING completion (R94) -/

/-- R91: the base pressure step. -/
def State.takeBase (pEff : Int) (s : State) : State :=
  match s.seq.stage with
  | some st =>
    if s.seq.basePressure = none ∧ st.pendingMix = none then
      { s with seq := { s.seq with basePressure := some pEff } }
    else s
  | none => s

/-- The newest entry of the mix history (R86). -/
def StageRecord.newest (st : StageRecord) : Option MixEntry := st.history.getLast?

/-- R92: the stage thickens at this completion. -/
def State.thickens (s : State) (pEff : Int) : Bool :=
  match s.seq.stage with
  | none => false
  | some st =>
    match st.currentMix, s.seq.basePressure, st.newest with
    | some m, some base, some entry =>
      match s.conf.tag.mix? m with
      | some x =>
        st.pendingMix.isNone && !st.inhibited && decide (m < s.conf.tag.mixes.length)
          && decide (st.history.length < 8) && decide (x.allot ≤ entry.volume * 100 / st.length)
          && decide (pEff < base + x.rise)
      | none => false
    | _, _, _ => false

/-- R92. -/
def State.thicken (pEff : Int) (s : State) : State :=
  if s.thickens pEff then s.requestMix (s.currentMix.getD 0 + 1) else s

/-- R95: the refusal timer after a completion, from a stage record and the reckoning's flags. -/
def refusalAfter (goal : Nat) (r : ReckRecord) (st : StageRecord) : Nat :=
  if st.pendingMix.isSome then st.refusalTimer
  else if r.refusalFlowOk = false then 0
  else if r.refusalPressureOk && r.binding then min goal (st.refusalTimer + 1)
  else st.refusalTimer

/-- R95: the refusal goal, t_ref × 10. -/
def State.refusalGoal (s : State) : Nat := 10 * s.profile.tref

/-- R95. -/
def State.stepRefusal (r : ReckRecord) (s : State) : State :=
  let goal := s.refusalGoal
  s.modStage fun st => { st with refusalTimer := refusalAfter goal r st }

/-- R97. -/
def State.stepIntensity (r : ReckRecord) (s : State) : State :=
  { s with seq := { s.seq with
      intensityRun := if r.intensityReached then min 30 (s.seq.intensityRun + 1) else 0 } }

/-- R98: the criteria that hold. -/
def State.criteriaHeld (r : ReckRecord) (s : State) : Criteria where
  refusal := match s.seq.stage with
    | some st => decide (s.refusalGoal ≤ st.refusalTimer)
    | none => false
  intensity := decide (30 ≤ s.seq.intensityRun)
  volume := r.volumeReached

/-- R98: the outcome that the ranking gives, if any criterion holds. -/
def Criteria.outcome (c : Criteria) : Option Outcome :=
  if c.refusal then some .refusal
  else if c.intensity then some .intensityLimit
  else if c.volume then some .volumeLimit
  else Option.none

/-- R94, steps 1 to 4. -/
def State.injectingChecks (r : ReckRecord) (s : State) : State :=
  (((s.takeBase r.pEff).thicken r.pEff).stepRefusal r).stepIntensity r

/-- R94: the Sequencer at a completion found in INJECTING. -/
def State.completeInjecting (r : ReckRecord) (s : State) : State :=
  let t := s.injectingChecks r
  match (t.criteriaHeld r).outcome with
  | some o => t.closeStage o (t.criteriaHeld r) r
  | none => t

/-- R38: the Sequencer at a stored completion, by the phase found. -/
def State.completeSequencer (q : Nat) (r : ReckRecord) (s : State) : State :=
  match s.phase with
  | .testing => s.completeTest q r.pEff
  | .injecting => s.completeInjecting r
  | _ => s

/-- One block's part of a stored completion (R45). -/
def State.completeTask (l : Latched) (r : ReckRecord) (task : CompletionTask) (s : State) : State :=
  match task with
  | .regulator => s.completeRegulator l.flow r
  | .sequencer => s.settled (State.completeSequencer l.flow r)
  | .supply => s.supplyEvaluation
  | .counters => s.completionCounters l.flow r.pEff

/-- The first occurrences of a list's elements, in order. -/
def firstOnly {α : Type} [BEq α] : List α → List α
  | [] => []
  | x :: rest => x :: (firstOnly rest).filter (fun y => !(y == x))

/-- The order of a completion: the tasks asked for first, then the rest (R45; log entry 3). -/
def completionSchedule (ord : List CompletionTask) : List CompletionTask :=
  firstOnly (ord ++ [.regulator, .sequencer, .supply, .counters])

/-- R44: the reckoning in flight with the record it would store, while its stage is still open. -/
def State.completing (s : State) : Option (Latched × ReckRecord) :=
  match s.env.inFlight with
  | some l => if s.stillOpen l then some (l, l.record s.env.replaced) else none
  | none => none

/-- R43: the slot's set begins the next reckoning and the slot becomes empty. -/
def State.beginFromSlot (s : State) : State :=
  match s.env.slot with
  | none => s
  | some set => ({ s with env := { s.env with slot := none } }).beginReckoning set

end Sys2Proof.Machine
end

