-- ==== Sys2Proof/Machine/Neighbours.lean ====
section
/-! DEFINITION. The Neighbour Table: filters, admission, replacement, aging (R132 to R145). -/

namespace Sys2Proof.Machine

/-- R132: at most 24 entries. -/
def tableSize : Nat := 24

/-- R135: one enabled filter passes a bulletin of this identity. -/
def Filter.passes (f : Filter) (id : Identity) : Bool :=
  f.lines.getLsbD id.line && (BitVec.ofNat 16 id.chainage &&& f.mask) == (f.base &&& f.mask)

/-- R135: at least one enabled filter passes it, or none is enabled. -/
def filtersPass (fs : List Filter) (id : Identity) : Bool :=
  !fs.any (·.enabled) || fs.any fun f => f.enabled && f.passes id

/-- R139: the freshness window. -/
def seqAccepted (first : Bool) (s o : Nat) : Bool :=
  first || (decide (1 ≤ (s + 256 - o) % 256) && decide ((s + 256 - o) % 256 ≤ 127))

/-- R142: an entry written from an accepted bulletin; identity and distance are given. -/
def entryOf (b : Bulletin) (distance clock : Nat) (own : Identity) : Entry where
  identity := b.identity
  distance := distance
  lastSeq := b.seq
  lastHeard := clock
  fresh := true
  cls := b.cls
  weight := b.weight
  phase := b.phase
  stage := b.stage
  uplift := b.uplift
  suspects := b.suspects.getD []
  namesOwn := (b.suspects.getD []).contains own

/-- R141: an entry is replaceable when it is not active and does not name this station. -/
def Entry.replaceable (e : Entry) : Bool := !e.phase.active && !e.namesOwn

/-- R141: the first of two candidates, by greater distance and then by higher identity. -/
def fartherOf (a b : Entry) : Entry :=
  if b.distance < a.distance ∨ (b.distance = a.distance ∧ identityLt b.identity a.identity) then a else b

/-- R141: the candidate among the replaceable entries. -/
def candidate (l : List Entry) : Option Entry :=
  match l.filter (·.replaceable) with
  | [] => none
  | e :: rest => some (rest.foldl fartherOf e)

/-- R141: the new station takes the candidate's place. -/
def takesPlace (distance : Nat) (id : Identity) (c : Entry) : Bool :=
  decide (distance < c.distance) || (decide (distance = c.distance) && identityLt id c.identity)

def State.countLink (f : LinkCounters → LinkCounters) (s : State) : State :=
  { s with link := { s.link with counters := f s.link.counters } }

/-- The table with other entries. -/
def State.setEntries (l : List Entry) (s : State) : State := { s with table := { s.table with entries := l } }

/-- R136, step 1: the own identity is heard. -/
def State.hearOwn (s : State) : State :=
  let t := s.countLink fun c => { c with ownIdentity := satSucc max16 c.ownIdentity }
  let was := s.table.duplicate
  let t : State := { t with table := { t.table with duplicate := true, ownHeard := some s.time.clock } }
  if was then
    -- the count stays; the last-seen time follows, unless masked (R186) or absent with a count of 0 (log entry 27)
    let e := t.faults.duplicateId
    if e.masked ∨ e.count = 0 then t else { t with faults := { t.faults with duplicateId := { e with last := some s.time.clock } } }
  else State.evaluate ((t.setPresent .duplicateId true).report .duplicateId (some (.identity s.own)))

/-- R136 to R142: admission of a good bulletin. -/
def State.admission (b : Bulletin) (s : State) : State :=
  if b.identity = s.own then s.hearOwn
  else if filtersPass s.conf.tag.filters b.identity = false then
    s.countLink fun c => { c with filtered := satSucc max16 c.filtered }
  else
    match s.table.entries.find? (·.identity = b.identity) with
    | some e =>
      if seqAccepted b.first b.seq e.lastSeq then
        (s.setEntries (s.table.entries.map fun x =>
          if x.identity = b.identity then entryOf b x.distance s.time.clock s.own else x)).evaluate
      else s.countLink fun c => { c with stale := satSucc max16 c.stale }
    | none =>
      let d := distance s.conf.tag.rowSpacing b.identity s.own
      let new := entryOf b d s.time.clock s.own
      if s.table.entries.length < tableSize then (s.setEntries (s.table.entries ++ [new])).evaluate
      else
        match candidate s.table.entries with
        | some c =>
          if takesPlace d b.identity c then
            (s.setEntries (s.table.entries.map fun x => if x.identity = c.identity then new else x)).evaluate
          else
            (s.countLink fun x => { x with tableFull := satSucc max16 x.tableFull }).report .tableFull
              (some (.identity b.identity))
        | none =>
          (s.countLink fun x => { x with tableFull := satSucc max16 x.tableFull }).report .tableFull
            (some (.identity b.identity))

/-- R143: the age of an entry. -/
def State.ageOf (s : State) (e : Entry) : Nat := elapsed32 e.lastHeard s.time.clock

/-- R143: an entry becomes STALE at this boundary. -/
def State.staleNow (s : State) (e : Entry) : Bool :=
  e.fresh && decide (s.conf.tag.aStale ≤ s.ageOf e) && decide (s.ageOf e < 3 * s.conf.tag.aStale)

/-- R143: an entry is removed at this boundary. -/
def State.goneNow (s : State) (e : Entry) : Bool := decide (3 * s.conf.tag.aStale ≤ s.ageOf e)

/-- R143: a removed entry that was active is reported. -/
def State.reportSilent (s : State) (e : Entry) : State :=
  if e.phase.active then s.report .linkSilent (some (.identity e.identity)) else s

/-- A list with its n-th element (modulo the length) moved to the end: which report comes last (log entry 3). -/
def rotateLast {α : Type} (n : Nat) (l : List α) : List α :=
  match l[n % l.length]? with
  | some x => (l.eraseIdx (n % l.length)) ++ [x]
  | none => l

/-- R143, R145: the aging of every entry in the one event of a boundary; an evaluation follows when it changed
anything. -/
def State.ageEntries (lastSilent : Nat) (s : State) : State :=
  let gone := s.table.entries.filter s.goneNow
  let kept := (s.table.entries.filter fun e => !s.goneNow e).map fun e =>
    if s.staleNow e then { e with fresh := false } else e
  if kept = s.table.entries then s
  else
    State.evaluate ((rotateLast lastSilent (gone.filter (·.phase.active))).foldl State.reportSilent (s.setEntries kept))

/-- R137: the duplicate flag clears at this boundary. -/
def State.duplicateOver (s : State) : Bool :=
  s.table.duplicate
    && (match s.table.ownHeard with
        | some t => decide (3 * s.conf.tag.aStale ≤ elapsed32 t s.time.clock)
        | none => false)

/-- R137: the duplicate flag clears. -/
def State.clearDuplicate (s : State) : State :=
  State.evaluate ({ s with table := { s.table with duplicate := false } }.setPresent .duplicateId false)

/-- R147: every entry is removed at RESTART, with no reports; the evaluation that follows is the caller's. -/
def State.clearTable (s : State) : State := s.setEntries []

end Sys2Proof.Machine
end

