-- ==== Sys2Proof/Machine/TagLoad.lean ====
section
/-! DEFINITION. The tag image, its judgement and the entry into LISTEN or UNCONFIGURED (R181, R182, R192), and the tag
layout of the settings as READ STATION and READ PROFILE send it (R191). -/

namespace Sys2Proof.Machine

/-- A reading position in the image: the offset, the bytes from there, and the offset of the first failing setting. -/
structure Reader where
  off : Nat
  rest : List Byte
  bad : Option Nat
deriving DecidableEq, Repr

/-- One field of `w` bytes that must satisfy `ok` (R192). -/
def Reader.field (w : Nat) (ok : Nat → Bool) (r : Reader) : Nat × Reader :=
  let v := ofBytes (r.rest.take w)
  (v, ⟨r.off + w, r.rest.drop w,
    match r.bad with
    | some o => some o
    | none => if ok v then none else some r.off⟩)

/-- A field with a range. -/
def Reader.num (w lo hi : Nat) (r : Reader) : Nat × Reader :=
  r.field w fun v => decide (lo ≤ v) && decide (v ≤ hi)

/-- A field whose range no value breaks, or that the profile's valid flag judges (R182). -/
def Reader.free (w : Nat) (r : Reader) : Nat × Reader := r.field w fun _ => true

/-- `n` rungs, each 100-12,000 kPa and above the one before it (R62, R181). -/
def readLadder : Nat → Nat → Reader → List Nat × Reader
  | 0, _, r => ([], r)
  | n + 1, prev, r =>
    let (v, r) := r.field 2 fun v => decide (100 ≤ v) && decide (v ≤ 12000) && decide (prev < v)
    let (l, r) := readLadder n v r
    (v :: l, r)

/-- `n` Lugeon thresholds, strictly ascending (R181). -/
def readThresholds : Nat → Nat → Reader → List Nat × Reader
  | 0, _, r => ([], r)
  | n + 1, prev, r =>
    let (v, r) := r.field 2 fun v => decide (1 ≤ v) && decide (v ≤ 9999) && decide (prev < v)
    let (l, r) := readThresholds n v r
    (v :: l, r)

/-- `n` mix records (05 section 5.1). -/
def readMixes : Nat → Reader → List Mix × Reader
  | 0, r => ([], r)
  | n + 1, r =>
    let (d, r) := r.num 2 1000 2200
    let (f, r) := r.free 2
    let (a, r) := r.num 2 1 65535
    let (p, r) := r.num 2 0 12000
    let (l, r) := readMixes n r
    (⟨d, f, a, p⟩ :: l, r)

/-- `n` filters (R135); `stray` says whether a line set with a bit above bit 3 is refused (log entry 13). -/
def readFilters (stray : Bool) : Nat → Reader → List Filter × Reader
  | 0, r => ([], r)
  | n + 1, r =>
    let (e, r) := r.num 1 0 1
    let (ls, r) := r.field 1 fun v => decide (v ≤ 15) || !stray
    let (b, r) := r.free 2
    let (m, r) := r.free 2
    let (l, r) := readFilters stray n r
    (⟨e == 1, byte ls, BitVec.ofNat 16 b, BitVec.ofNat 16 m⟩ :: l, r)

/-- One conditioning: the mode, HOLD 0 or FIXED 1, and the fixed value within the channel's range (R9, R192). -/
def readConditioning (hi : Nat) (r : Reader) : Conditioning × Reader :=
  let (m, r) := r.num 1 0 1
  let (v, r) := r.num 2 0 hi
  (⟨m == 1, v⟩, r)

/-- R182: the valid flag, formed from all the fields. -/
def Profile.formValid (p : Profile) : Bool :=
  decide (100 ≤ p.pmax ∧ p.pmax ≤ 12000) && decide (1000 ≤ p.gin ∧ p.gin ≤ 1000000)
    && decide (1 ≤ p.vmax ∧ p.vmax ≤ 60000) && decide (1 ≤ p.top ∧ p.top ≤ 8)
    && decide (1 ≤ p.start ∧ p.start ≤ p.top) && decide (p.qref ≤ 2000)
    && decide (60 ≤ p.tref ∧ p.tref ≤ 3600) && decide (1 ≤ p.qmax ∧ p.qmax ≤ 2000) && decide (p.tolp ≤ 1000)
    && decide (100 ≤ p.pa ∧ p.pa ≤ p.pb ∧ p.pb ≤ p.pc ∧ p.pc ≤ p.pmax)
    && decide (1 ≤ p.connStep ∧ p.connStep ≤ 8) && decide (1 ≤ p.upliftStep ∧ p.upliftStep ≤ 8)

/-- The profile with its valid flag formed again. -/
def Profile.judged (p : Profile) : Profile := { p with valid := p.formValid }

/-- One profile record (R192); an action byte outside its codes is out of range. -/
def readProfile (r : Reader) : Profile × Reader :=
  let (pmax, r) := r.free 2
  let (gin, r) := r.free 4
  let (vmax, r) := r.free 2
  let (top, r) := r.free 1
  let (start, r) := r.free 1
  let (qref, r) := r.free 2
  let (tref, r) := r.free 2
  let (qmax, r) := r.free 2
  let (tolp, r) := r.free 2
  let (pa, r) := r.free 2
  let (pb, r) := r.free 2
  let (pc, r) := r.free 2
  let (act, r) := r.num 1 0 1
  let (cs, r) := r.free 1
  let (us, r) := r.free 1
  (Profile.judged
    { pmax := pmax, gin := gin, vmax := vmax, top := top, start := start, qref := qref, tref := tref, qmax := qmax
      tolp := tolp, pa := pa, pb := pb, pc := pc, action := if act = 1 then .hold else .reduce
      connStep := cs, upliftStep := us, valid := false }, r)

def readProfiles : Nat → Reader → List Profile × Reader
  | 0, r => ([], r)
  | n + 1, r =>
    let (p, r) := readProfile r
    let (l, r) := readProfiles n r
    (p :: l, r)

/-- The sections Identity to Profiles in order (12.4, R192), from the byte after the stated length. A cross-condition of
R181 is judged at the later of its two fields, in the same order (log entry 13). -/
def readSections (stray : Bool) (r : Reader) : Tag × List Profile × Reader :=
  let (line, r) := r.num 1 0 3
  let (chainage, r) := r.free 2
  let (cw, r) := r.field 1 fun v => decide (1 ≤ v / 16) && decide (v / 16 ≤ 4) && decide (1 ≤ v % 16)
  let (rowSpacing, r) := r.num 2 0 1000
  let (hg, r) := r.num 2 0 500
  let (incl, r) := r.num 2 500 1000
  let (lh, r) := r.num 2 0 10000
  let (wv, r) := r.num 2 0 20000
  let (cWater, r) := r.free 2
  let (cg, r) := readConditioning 12000 r
  let (cf, r) := readConditioning 2000 r
  let (ch, r) := readConditioning 12000 r
  let (ce, r) := readConditioning 2000 r
  let (fitted, r) := r.num 1 0 1
  let (gTrip, r) := r.num 2 500 12000
  let (gLim, r) := r.field 2 fun v => decide (100 ≤ v) && decide (v ≤ 12000) && decide (v < gTrip)
  let (ladder, r) := readLadder 8 0 r
  let (m, r) := r.num 1 1 6
  let (mixes, r) := readMixes m r
  let (tTest, r) := r.num 2 30 900
  let (c, r) := r.num 1 0 5
  let (thresholds, r) := readThresholds c 0 r
  let (defaultMix, r) := r.num 1 1 m
  let (tolRho, r) := r.num 1 5 200
  let (tMix, r) := r.num 2 60 1800
  let (gain, r) := r.num 2 1 4095
  let (slewUp, r) := r.num 1 1 200
  let (slewDn, r) := r.num 1 1 200
  let (sMax, r) := r.num 2 10 1200
  let (disp, r) := r.num 2 10 2000
  let (qAdv, r) := r.num 2 0 2000
  let (tAdv, r) := r.num 2 10 600
  let (tHold, r) := r.num 2 60 7200
  let (pB, r) := r.num 2 500 2000
  let (aStale, r) := r.num 1 3 30
  let (filters, r) := readFilters stray 4 r
  let (dSo, r) := r.num 2 0 10000
  let (dDr, r) := r.num 2 0 10000
  let (dCn, r) := r.num 2 0 10000
  let (dUp, r) := r.num 2 0 10000
  let (mSo, r) := r.num 2 0 5000
  let (kDr, r) := r.num 1 1 3
  let (dpConn, r) := r.num 2 20 2000
  let (uAlert, r) := r.num 2 0 3000
  let (uStop, r) := r.field 2 fun v => decide (uAlert < v) && decide (v ≤ 3500)
  let (uHys, r) := r.num 2 0 500
  let (qCap, r) := r.num 2 100 60000
  let (qMin, r) := r.num 2 0 2000
  let (qHys, r) := r.num 2 0 2000
  let (hMin, r) := r.num 2 0 2000
  let (profiles, r) := readProfiles 4 r
  ({ line := line, chainage := chainage, cls := cw / 16, weight := cw % 16, rowSpacing := rowSpacing
     hg := hg, incl := incl, lh := lh, wv := wv, cWater := cWater
     condGauge := cg, condFlow := cf, condHole := ch, condHeader := ce, upliftFitted := fitted == 1
     gTrip := gTrip, gLim := gLim, ladder := ladder, mixes := mixes, tTest := tTest, thresholds := thresholds
     defaultMix := defaultMix, tolRho := tolRho, tMix := tMix, gain := gain, slewUp := slewUp, slewDn := slewDn
     sMax := sMax, disp := disp, qAdv := qAdv, tAdv := tAdv, tHold := tHold, pB := pB, aStale := aStale
     filters := filters, dSo := dSo, dDr := dDr, dCn := dCn, dUp := dUp, mSo := mSo, kDr := kDr, dpConn := dpConn
     uAlert := uAlert, uStop := uStop, uHys := uHys, qCap := qCap, qMin := qMin, qHys := qHys, hMin := hMin },
   profiles, r)

/-- The offset of M, after the header and the sections Identity, Geometry, Channels and Ladder. -/
def mOffset : Nat := 51

/-- The offset of the threshold count for M mixes. -/
def countOffset (m : Nat) : Nat := mOffset + 1 + 8 * m + 2

/-- The length that M mixes and `c` thresholds require, header and trailer included (R192). -/
def requiredLength (m c : Nat) : Nat := countOffset m + 1 + 2 * c + 4 + 12 + 29 + 27 + 108 + 2

/-- What the tag is judged to be (R181). -/
inductive Judgement where
  | absent | crcFailed | outOfRange (offset : Nat) | accepted (t : Tag) (ps : List Profile)
deriving DecidableEq, Repr

/-- The byte at an offset, as a number. -/
def byteAt (l : List Byte) (i : Nat) : Nat := ((l[i]?).getD 0#8).toNat

/-- R181, R192: the judgement of an image of its stated length; `n` numbers the free values (log entry 13). -/
def judgeImage (n : Nat) (img : List Byte) : Judgement :=
  let stated := img.length
  let covered := img.take (stated - 2)
  if be16 (crc16 covered).toNat ≠ img.drop (stated - 2) then .crcFailed
  else if covered.length ≤ mOffset then .outOfRange 0
  else
    let m := byteAt img mOffset
    if m < 1 ∨ 6 < m then .outOfRange mOffset
    else if covered.length ≤ countOffset m then .outOfRange 0
    else
      let c := byteAt img (countOffset m)
      if 5 < c then .outOfRange (countOffset m)
      else if stated ≠ requiredLength m c then .outOfRange 0
      else
        let (t, ps, r) := readSections (Config.strayLineBitsRefused n) ⟨2, covered.drop 2, none⟩
        match r.bad with
        | some o => .outOfRange o
        | none => if ps.any (·.valid) then .accepted t ps else .outOfRange (Config.noProfileOffset n)

/-- R181: the load completes when the stated length has been read and is judged ABSENT, or when as many bytes as it
states have been delivered; `none` while it has not completed. -/
def judgeDelivered (n : Nat) (image : List Byte) : Option Judgement :=
  if image.length < 2 then none
  else
    let stated := ofBytes (image.take 2)
    if 512 < stated ∨ stated < 4 then some .absent
    else if image.length < stated then none
    else some (judgeImage n (image.take stated))

/-- R181: a check fails: UNCONFIGURED, and CONFIG_BAD becomes present and is reported. -/
def State.unconfigure (r : LoadResult) (s : State) : State :=
  State.report .configBad none
    (State.setPresent .configBad true { s with conf := { s.conf with station := .unconfigured, load := some r } })

/-- R131: the Link Controller at the entry into LISTEN from LOADING; a periodic request is raised at once. -/
def Link.enterListen (own : Identity) (l : Link) : Link :=
  Link.requestPeriodic
    { l with
      slot := none
      seqCounter := 0
      firstCount := 3
      urgent := false
      periodic := 0
      sinceStart := none
      generator := some (seedOf own)
      drops := 0 }

/-- R169: the Coordination Unit at the entry into LISTEN from LOADING. The own uplift has no value and no failed gauge until
the first sample set (R161; log entry 39). -/
def Coordination.enterListen (fitted : Bool) (start : Nat × Nat) (c : Coordination) : Coordination :=
  { c with
    limit := 8
    allowance := 0
    critical := false
    published := 0
    lowRun := 0
    highRun := 0
    headerRun := 0
    uplift := if fitted then some ⟨.normal, none, false⟩ else none
    report := false
    suspects := []
    riseRun := 0
    quietRun := 0
    baseline := none
    listenStart := some start }

/-- R11: the UPLIFT channel when the settings come into force with the gauge fitted. -/
def ChannelState.fitted (c : ChannelState) : ChannelState :=
  { c with failed := false, cause := none, lastGood := some 0, lowRun := 0, fullRun := 0, stuckRun := 0, goodRun := 0 }

/-- R181: all three checks pass: every setting comes into force and the station enters LISTEN. -/
def State.configure (t : Tag) (ps : List Profile) (s : State) : State :=
  let own : Identity := ⟨t.line, t.chainage⟩
  State.evaluate
    { s with
      conf := { s.conf with station := .listen, inForce := true, tag := t, profiles := ps, load := some .accepted }
      link := s.link.enterListen own
      table := ⟨[], false, none⟩
      coord := s.coord.enterListen t.upliftFitted (s.time.clock, s.time.tenths)
      meas :=
        if t.upliftFitted then
          { s.meas with channels := { s.meas.channels with uplift := s.meas.channels.uplift.fitted } }
        else s.meas }

/-- R181: the completion of the load. -/
def State.loadCompleted (j : Judgement) (s : State) : State :=
  match j with
  | .absent => s.unconfigure .absent
  | .crcFailed => s.unconfigure .crcFailed
  | .outOfRange o => s.unconfigure (.outOfRange o)
  | .accepted t ps => s.configure t ps

/-- R181: the second boundary that brings the clock to 5 completes a load that has not completed, as ABSENT. -/
def State.loadTimedOut (s : State) : Bool := s.conf.station == .loading && decide (5 ≤ s.time.clock)

def State.boundaryTag (s : State) : State := if s.loadTimedOut then s.loadCompleted .absent else s

/-! ## The settings in their tag layout (R191, R192) -/

def Conditioning.bytes (c : Conditioning) : List Byte := boolByte c.fixed :: be16 c.value

/-- A filter's record; the bits 4 to 7 of a line set stand as loaded (log entry 13). -/
def Filter.bytes (f : Filter) : List Byte :=
  [boolByte f.enabled, f.lines] ++ be16 f.base.toNat ++ be16 f.mask.toNat

def Mix.bytes (m : Mix) : List Byte := be16 m.density ++ be16 m.friction ++ be16 m.allot ++ be16 m.rise

/-- The sections Identity to Coordination. -/
def Tag.bytes (t : Tag) : List Byte :=
  [byte t.line] ++ be16 t.chainage ++ [byte (t.cls * 16 + t.weight)] ++ be16 t.rowSpacing
    ++ be16 t.hg ++ be16 t.incl ++ be16 t.lh ++ be16 t.wv ++ be16 t.cWater
    ++ t.condGauge.bytes ++ t.condFlow.bytes ++ t.condHole.bytes ++ t.condHeader.bytes
    ++ [boolByte t.upliftFitted] ++ be16 t.gTrip ++ be16 t.gLim
    ++ t.ladder.flatMap be16
    ++ [byte t.mixes.length] ++ t.mixes.flatMap Mix.bytes
    ++ be16 t.tTest ++ [byte t.thresholds.length] ++ t.thresholds.flatMap be16
    ++ [byte t.defaultMix, byte t.tolRho] ++ be16 t.tMix
    ++ be16 t.gain ++ [byte t.slewUp, byte t.slewDn] ++ be16 t.sMax ++ be16 t.disp ++ be16 t.qAdv ++ be16 t.tAdv
    ++ be16 t.tHold ++ be16 t.pB ++ [byte t.aStale] ++ t.filters.flatMap Filter.bytes
    ++ be16 t.dSo ++ be16 t.dDr ++ be16 t.dCn ++ be16 t.dUp ++ be16 t.mSo ++ [byte t.kDr] ++ be16 t.dpConn
    ++ be16 t.uAlert ++ be16 t.uStop ++ be16 t.uHys ++ be16 t.qCap ++ be16 t.qMin ++ be16 t.qHys ++ be16 t.hMin

/-- A profile record. -/
def Profile.bytes (p : Profile) : List Byte :=
  be16 p.pmax ++ be32 p.gin ++ be16 p.vmax ++ [byte p.top, byte p.start] ++ be16 p.qref ++ be16 p.tref ++ be16 p.qmax
    ++ be16 p.tolp ++ be16 p.pa ++ be16 p.pb ++ be16 p.pc
    ++ [(match p.action with | .reduce => 0#8 | .hold => 1#8), byte p.connStep, byte p.upliftStep]

end Sys2Proof.Machine
end

