-- ==== Sys2Proof/Machine/Records.lean ====
section
/-! DEFINITION. The records that READ, LOG_READ and STATUS return, byte by byte (12.3, R191). -/

namespace Sys2Proof.Machine

/-! ## Small fields -/

/-- An optional unsigned number of 1, 2 or 4 bytes. -/
def opt8 (v : Option Nat) : List Byte := optField 1 (v.map fun n => [byte n])

def opt16 (v : Option Nat) : List Byte := optField 2 (v.map be16)

def opt32 (v : Option Nat) : List Byte := optField 4 (v.map be32)

/-- An optional signed number of 2 bytes. -/
def opt16s (v : Option Int) : List Byte := optField 2 (v.map be16s)

/-- `n` bytes the spec does not state, the k-th free value onwards (log entries 10, 11). -/
def State.freeBytes (s : State) (k n : Nat) : List Byte :=
  (List.range n).map fun i => Config.freeByte (s.freeCount + k + i)

/-- How many free values one READ may use. -/
def readDraws : Nat := 12

/-- The outcome codes, in the order of the outcome table (R191). -/
def Outcome.code : Outcome → Nat
  | .refusal => 0
  | .intensityLimit => 1
  | .volumeLimit => 2
  | .interrupted => 3
  | .operatorStop => 4
  | .aborted => 5

/-- The failure cause codes (R191). -/
def FailCause.code : FailCause → Nat
  | .openLoop => 0
  | .overRange => 1
  | .stuck => 2

/-- The station state codes (R191). -/
def StationState.code : StationState → Nat
  | .loading => 0
  | .unconfigured => 1
  | .listen => 2
  | .running => 3

/-- The channel index of a detail, in the CHANNELS order (R191). -/
def channelIndex : Channel → Nat
  | .gauge => 0
  | .flow => 1
  | .density => 2
  | .hole => 3
  | .header => 4
  | .uplift => 5

/-! ## STAGE -/

/-- One step record: mean P_eff, mean q, Lugeon. -/
def StepRecord.bytes (x : StepRecord) : List Byte := be16s x.meanP ++ be16 x.meanQ ++ opt16 x.lugeon

def TestResults.bytes : TestResults → List Byte
  | .absent => [0#8]
  | .abandoned => [1#8]
  | .complete l => 2#8 :: l.flatMap StepRecord.bytes

def MixPending.bytes (p : MixPending) : List Byte := [byte p.mix] ++ be32 p.requestedAt ++ be16 p.elapsed

def MixEntry.bytes (x : MixEntry) : List Byte :=
  [byte x.mix] ++ be32 x.volume ++ be32 x.began ++ [boolByte x.confirmed]

def Criteria.byte (c : Criteria) : Byte := flagByte [c.refusal, c.intensity, c.volume]

/-- The STAGE record of an open stage, without its working values. -/
def StageRecord.bytes (st : StageRecord) : List Byte :=
  [byte st.phase.code] ++ be16 st.number ++ identityBytes st.identity
    ++ be16 st.top ++ be16 st.bottom ++ be16 st.length ++ [byte st.profile]
    ++ [flagByte [st.waterTest, st.autoAdvance, st.inhibited], st.restraints.summary]
    ++ opt8 (st.outcome.map (·.code)) ++ [st.criteria.byte]
    ++ st.results.bytes
    ++ opt8 st.startMix ++ opt8 st.currentMix ++ optField 7 (st.pendingMix.map (·.bytes))
    ++ [byte st.history.length] ++ st.history.flatMap MixEntry.bytes
    ++ be32 st.openedAt ++ opt32 st.injectionAt ++ opt32 st.closedAt ++ be16 st.refusalTimer ++ be16 st.holdTimer
    ++ optField 8 (st.finals.map fun f => be16s f.pEff ++ be16 f.v ++ be32 f.i)
    ++ optField 2 (st.stepsAtClose.map fun p => [byte p.1, byte p.2])

def TestState.bytes (t : TestState) : List Byte :=
  [byte t.step] ++ be16 t.count ++ be32 t.flowSum ++ be32s t.pressSum ++ be16 t.half

/-- The working values of the test, mix and refusal rules. -/
def StageView.working (v : StageView) : List Byte :=
  optField 13 (v.test.map (·.bytes))
    ++ (match v.test with
        | some t => byte t.records.length :: t.records.flatMap StepRecord.bytes
        | none => [0#8])
    ++ opt16s v.basePressure ++ [byte v.confirmRun, byte v.intensityRun]

/-- The STAGE record; while VACANT it ends after its phase byte. -/
def StageView.bytes (v : StageView) : List Byte :=
  match v.stage with
  | none => [byte Phase.vacant.code]
  | some st => st.bytes ++ v.working

/-! ## RECKONING, COUNTERS, STEPS, COORD -/

def ReckRecord.flags (r : ReckRecord) : Byte :=
  flagByte [r.volumeReached, r.intensityReached, r.refusalPressureOk, r.refusalFlowOk, r.binding]

def ReckRecord.bytes (r : ReckRecord) : List Byte :=
  opt16 r.stageNumber ++ be16 r.sampleSeq ++ [byte r.phase.code, byte r.e]
    ++ be16 r.pHead ++ be16 r.pFric ++ be16 r.pWater ++ be16s r.pEff ++ be16 r.v ++ be32 r.i
    ++ be16 r.pEnv ++ be16 r.pTgt ++ be16 r.gSet ++ [r.flags] ++ be16 r.replaced

def Saturated.byte (x : Saturated) : Byte :=
  flagByte [x.volume, x.water, x.strokes, x.waiting, x.injecting, x.holding]

/-- The COUNTERS fields from V to the saturated flags, as a log record carries them. -/
def LiveCounters.bytes (l : LiveCounters) : List Byte :=
  be32 l.volume ++ be32 l.water ++ be32 l.strokes ++ be32 l.secWaiting ++ be32 l.secInjecting ++ be32 l.secHolding
    ++ be16 l.peakQ ++ opt16s l.peakP ++ be16 l.ppPeak ++ [l.saturated.byte]

def LastSecond.bytes (x : LastSecond) : List Byte :=
  opt16 x.meanQ ++ opt16s x.meanP ++ opt16 x.pp ++ [boolByte x.pumping]

/-- The COUNTERS record; AUTO stands as it is when the record is formed (R112; log entry 23). -/
def countersBytes (auto : Bool) (l : LiveCounters) (x : LastSecond) : List Byte :=
  opt16 l.stageNumber ++ l.bytes ++ x.bytes ++ [boolByte auto]

/-- The STEPS record; `goal` stands where no settings give one. -/
def StepsView.bytes (goal : List Byte) (v : StepsView) : List Byte :=
  [byte v.commanded, byte v.limit, byte v.effective, byte v.reached] ++ opt8 v.top ++ [byte v.arrivalRun]
    ++ be16 v.advanceCount
    ++ (match v.goal with
        | some g => be16 g
        | none => goal)
    ++ be16 v.stroke ++ opt16 v.cap ++ [flagByte [v.valveOpen, v.suctionWater], byte (v.mixRequest.getD 0)]

def Causes.byte (c : Causes) : Byte :=
  flagByte [c.conflictingActive, c.precedingWaiting, c.precedingActive, c.listen, c.duplicate]

/-- The COORD record (R168, R191). `wide` stands for a critical total that its two bytes do not hold (log entry 37). -/
def CoordView.bytes (wide : List Byte) (v : CoordView) : List Byte :=
  let c := v.coord
  [byte c.limit, byte c.limitDerate, byte c.derateCount] ++ opt8 c.limitConnection ++ opt8 c.limitUplift
    ++ [flagByte [v.standoff, v.connection, v.uplift, v.supply], c.causes.byte]
    ++ be16 c.allowance ++ [boolByte c.critical] ++ be16 c.published ++ opt16 c.computation
    ++ (if c.criticalTotal ≤ max16 then be16 c.criticalTotal else wide)
    ++ [byte c.participants, byte c.lowRun, byte c.highRun, byte c.headerRun]
    ++ optField 1 (c.uplift.map fun u => [u.stateByte]) ++ opt16s (c.uplift.bind (·.value))
    ++ [boolByte c.report] ++ opt16 c.baseline ++ [byte c.riseRun, byte c.quietRun] ++ identityList c.suspects
    ++ optField 5 (c.listenStart.map fun p => be32 p.1 ++ [byte p.2])

/-! ## NEIGHBOUR, LINK, CHANNELS, FAULTS, PROFILE, STATION -/

/-- The NEIGHBOUR record of the entry at a position (R146). -/
def State.neighbourBytes (s : State) (k : Nat) (e : Entry) : List Byte :=
  [byte s.table.entries.length, byte k] ++ identityBytes e.identity ++ be32 e.distance ++ [byte e.lastSeq]
    ++ be32 e.lastHeard ++ be32 (s.ageOf e) ++ [boolByte (!e.fresh), byte e.cls, byte e.weight, byte e.phase.code]
    ++ optField 16 (e.stage.map (·.bytes))
    ++ optField 4 (e.uplift.map fun u => u.stateByte :: opt16s u.value)
    ++ identityList e.suspects ++ [boolByte e.namesOwn]

/-- The twelve counters in the order of R130's table. -/
def LinkCounters.bytes (c : LinkCounters) : List Byte :=
  be16 c.good ++ be16 c.crcFailed ++ be16 c.fragment ++ be16 c.badLength ++ be16 c.badContent ++ be16 c.filtered
    ++ be16 c.stale ++ be16 c.ownIdentity ++ be16 c.tableFull ++ be16 c.transmitted ++ be16 c.abandoned ++ be16 c.dropped

def State.linkBytes (s : State) : List Byte :=
  let l := s.link
  l.counters.bytes
    ++ (match l.slot with
        | none => [0#8, 0#8, 0#8] ++ opt8 none
        | some o => [1#8, boolByte o.sending, byte o.attempt] ++ opt8 o.seq)
    ++ [byte l.seqCounter, byte l.firstCount, boolByte l.urgent, byte l.drops, boolByte s.faults.linkJam.present]

def ChannelState.bytes (c : ChannelState) : List Byte :=
  [boolByte c.failed] ++ opt8 (c.cause.map (·.code)) ++ be16 c.lastRaw.toNat ++ opt16s c.delivered
    ++ opt16s c.lastGood ++ [byte c.lowRun, byte c.fullRun] ++ be16 c.stuckRun ++ [byte c.goodRun]
    ++ opt16 (c.stuckRef.map (·.toNat))

/-- The CHANNELS record; the number of a latest sample set that has not come is free (log entry 11). -/
def State.channelsBytes (s : State) : List Byte :=
  let c := s.meas.channels
  c.gauge.bytes ++ c.flow.bytes ++ c.density.bytes ++ c.hole.bytes ++ c.header.bytes ++ c.uplift.bytes
    ++ [flagByte [s.meas.sealIn.accepted, s.meas.leakIn.accepted, s.meas.keyIn.accepted],
        byte s.meas.sealIn.run, byte s.meas.leakIn.run, byte s.meas.keyIn.run]
    ++ (match s.meas.latest with
        | some x => be16 x.seq
        | none => s.freeBytes 8 2)

/-- A detail of three bytes: a channel's index, or an identity (R191). -/
def Detail.bytes : Detail → List Byte
  | .channel c => [byte (channelIndex c), 0#8, 0#8]
  | .identity i => identityBytes i

def FaultEntry.bytes (isCondition : Bool) (e : FaultEntry) : List Byte :=
  [byte e.count] ++ opt32 e.first ++ opt32 e.last ++ optField 3 (e.detail.map (·.bytes))
    ++ [boolByte (isCondition && e.present), boolByte e.masked]

def Faults.bytes (f : Faults) : List Byte := FaultKind.all.flatMap fun k => (f.get k).bytes k.isCondition

def LoadResult.code : LoadResult → Nat
  | .accepted => 0
  | .absent => 1
  | .crcFailed => 2
  | .outOfRange _ => 3

/-- The offset named with OUT_OF_RANGE. -/
def LoadResult.failing : LoadResult → Option Nat
  | .outOfRange o => some o
  | _ => none

def Configuration.bytes (c : Configuration) : List Byte :=
  [byte c.station.code] ++ opt8 (c.load.map (·.code)) ++ opt16 (c.load.bind (·.failing)) ++ [boolByte c.inForce]
    ++ (if c.inForce then c.tag.bytes else [])

/-! ## STATUS and the log -/

def State.statusBytes (s : State) : List Byte :=
  [byte s.conf.station.code]
    ++ optField 3 (if s.conf.inForce then some (identityBytes s.own) else none)
    ++ optField 1 (if s.conf.inForce then some [classWeight s.conf.tag.cls s.conf.tag.weight] else none)
    ++ [boolByte s.engineer]
    ++ be32 s.time.clock ++ [byte s.time.tenths]
    ++ [byte s.phase.code] ++ opt16 (s.seq.stage.map (·.number)) ++ [s.restraints.summary]
    ++ [boolByte s.relayClosed]
    ++ flagBytes16 (FaultKind.all.map fun k => decide (0 < (s.faults.get k).count))
    ++ flagBytes16 (FaultKind.all.map fun k => k.isCondition && (s.faults.get k).present)
    ++ [boolByte s.table.duplicate] ++ opt32 s.table.ownHeard
    ++ be16 s.panel.badFrames ++ [boolByte s.panel.slot.isSome]
    ++ [byte s.panel.log.length] ++ opt16 (s.panel.log.head?.map (·.stage.number))
    ++ opt16 (s.panel.log.getLast?.map (·.stage.number))
    ++ [boolByte s.conf.lock, boolByte s.take.autoCopy]

/-- A log record: the STAGE record without its working values, then the counters. -/
def LogRecord.bytes (r : LogRecord) : List Byte := r.stage.bytes ++ r.counters.bytes

/-! ## READ (R175) -/

inductive ReadItem where
  | stage | reckoning | counters | steps | coord | neighbour | link | channels | faults | profile | station
deriving DecidableEq, Repr

/-- The item numbers of 12.2. -/
def ReadItem.ofCode : Nat → Option ReadItem
  | 1 => some .stage
  | 2 => some .reckoning
  | 3 => some .counters
  | 4 => some .steps
  | 5 => some .coord
  | 6 => some .neighbour
  | 7 => some .link
  | 8 => some .channels
  | 9 => some .faults
  | 10 => some .profile
  | 11 => some .station
  | _ => none

/-- The items answered while the station is LOADING or UNCONFIGURED (R172). -/
def ReadItem.always : ReadItem → Bool
  | .link | .channels | .station => true
  | _ => false

/-- The window header of the LIVE window (R191). -/
def liveHeader : List Byte := [0#8, 0#8, 0#8, 0#8, 0#8, 0#8, 0#8]

/-- The window header of the HELD window; before the first copy its time and cause are free (log entry 11). -/
def State.heldHeader (s : State) : List Byte :=
  1#8 ::
    (match s.take.held.time with
      | some (c, t) => be32 c ++ [byte t, match s.take.held.cause with | .auto => 0#8 | .snap => 1#8]
      | none => s.freeBytes 0 6)

/-- The record of an item in the LIVE window; absent where the index names none (R175). -/
def State.liveRecord (s : State) (index : Nat) : ReadItem → Option (List Byte)
  | .stage => some s.stageView.bytes
  | .reckoning => some s.env.record.bytes
  | .counters => some (countersBytes s.take.autoCopy s.take.live s.take.second)
  | .steps => some (s.stepsView.bytes (s.freeBytes 6 2))
  | .coord => some (s.coordView.bytes (s.freeBytes 10 2))
  | .neighbour => (s.table.entries[index]?).map (s.neighbourBytes index)
  | .link => some s.linkBytes
  | .channels => some s.channelsBytes
  | .faults => some s.faults.bytes
  | .profile =>
    if index ≤ 3 then some ([byte index, boolByte (s.profileAt index).valid] ++ (s.profileAt index).bytes) else none
  | .station => some s.conf.bytes

/-- The record of an item in the HELD window; absent for an item that is LIVE only (R109, R175). -/
def State.heldRecord (s : State) : ReadItem → Option (List Byte)
  | .stage => some s.take.held.stage.bytes
  | .reckoning => some s.take.held.record.bytes
  | .counters => some (countersBytes s.take.autoCopy s.take.held.live s.take.held.second)
  | .steps => some (s.take.held.steps.bytes (s.freeBytes 6 2))
  | .coord => some (s.take.held.coord.bytes (s.freeBytes 10 2))
  | .neighbour | .link | .channels | .faults | .profile | .station => none

/-- The data of a READ, absent where it is answered BAD_ARG (R175). -/
def State.readData (s : State) (item window index : Byte) : Option (List Byte) :=
  match ReadItem.ofCode item.toNat with
  | none => none
  | some i =>
    if window = 0#8 then (s.liveRecord index.toNat i).map (liveHeader ++ ·)
    else if window = 1#8 then (s.heldRecord i).map (s.heldHeader ++ ·)
    else none

end Sys2Proof.Machine
end

