-- ==== Sys2Proof/Machine/Panel.lean ====
section
/-! DEFINITION. The Panel Port: the command's form, the general checks and the owner of each command (R171 to R179),
with the commands of the stage (R19 to R36, R64, R93), of the counters (R110, R111), of the profiles and of the fault
record (R182 to R186). RESTART stands in Restart.lean. -/

namespace Sys2Proof.Machine

/-! ## Form of a command (12.2, R190) -/

/-- The command of a code and its argument bytes. -/
def parseCommand (code : Byte) (args : List Byte) : PanelCmd :=
  match code.toNat, args with
  | 0x01, [] => .status
  | 0x02, [t1, t0, b1, b0, p, w, a] => .openStage (ofBytes [t1, t0]) (ofBytes [b1, b0]) p w a
  | 0x03, [] => .start
  | 0x04, [n] => .stepTo n.toNat
  | 0x05, [] => .hold
  | 0x06, [] => .release
  | 0x07, [] => .stop
  | 0x08, [] => .abort
  | 0x09, [] => .accept
  | 0x0A, [i, w, x] => .read i w x
  | 0x0B, [k] => .logRead k.toNat
  | 0x0C, [] => .logTake
  | 0x0D, [] => .snap
  | 0x10, [n] => .mix n.toNat
  | 0x11, [p, f, v3, v2, v1, v0] => .tune p f (ofBytes [v3, v2, v1, v0])
  | 0x12, [] => .lock
  | 0x13, [x] => .auto x
  | 0x14, [k, x] => .mask k x
  | 0x15, [] => .faultClear
  | 0x16, [] => .restart
  | n, _ => if (1 ≤ n ∧ n ≤ 0x0D) ∨ (0x10 ≤ n ∧ n ≤ 0x16) then .badLength code args else .unknown code

/-- The code of a command (12.2). -/
def PanelCmd.code : PanelCmd → Byte
  | .unknown c => c
  | .badLength c _ => c
  | .status => 0x01#8
  | .openStage .. => 0x02#8
  | .start => 0x03#8
  | .stepTo _ => 0x04#8
  | .hold => 0x05#8
  | .release => 0x06#8
  | .stop => 0x07#8
  | .abort => 0x08#8
  | .accept => 0x09#8
  | .read .. => 0x0A#8
  | .logRead _ => 0x0B#8
  | .logTake => 0x0C#8
  | .snap => 0x0D#8
  | .mix _ => 0x10#8
  | .tune .. => 0x11#8
  | .lock => 0x12#8
  | .auto _ => 0x13#8
  | .mask .. => 0x14#8
  | .faultClear => 0x15#8
  | .restart => 0x16#8

/-- The engineer-only commands: MIX to RESTART (10 section 10.3). -/
def PanelCmd.engineerOnly (c : PanelCmd) : Bool := decide (0x10 ≤ c.code.toNat)

/-- The READ items taken in every station state (R172). -/
def alwaysReadable (item : Byte) : Bool :=
  match ReadItem.ofCode item.toNat with
  | some i => i.always
  | none => false

/-- Taken in LOADING and UNCONFIGURED too: STATUS, and READ of CHANNELS, LINK or STATION, by its first argument byte
(R172; log entry 18 for a READ of a wrong length). -/
def PanelCmd.unconfiguredToo : PanelCmd → Bool
  | .status => true
  | .read item _ _ => alwaysReadable item
  | .badLength code args =>
    code == 0x01#8 || (code == 0x0A#8 && (match args with
      | [] => false
      | item :: _ => alwaysReadable item))
  | _ => false

/-- The general checks of R172, in their order; absent where all pass. -/
def State.generalCheck (s : State) (c : PanelCmd) : Option Status :=
  match c with
  | .unknown _ => some .badCode
  | _ =>
    if !s.working && !c.unconfiguredToo then some .refusedUnconfigured
    else if c.engineerOnly && !s.engineer then some .refusedLevel
    else
      match c with
      | .badLength _ _ => some .badArg
      | _ => none

/-- The codes of the statuses (12.2). -/
def Status.code : Status → Byte
  | .ok => 0x00#8
  | .okClamped => 0x01#8
  | .refusedState => 0x10#8
  | .refusedLevel => 0x11#8
  | .refusedLocked => 0x12#8
  | .refusedFull => 0x13#8
  | .refusedSeal => 0x14#8
  | .refusedUnconfigured => 0x15#8
  | .badArg => 0x20#8
  | .badCode => 0x21#8

/-- A message of which every byte but the check byte is given (R170, R190). -/
def withCheck (l : List Byte) : List Byte := l ++ [0#8 - sumBytes l]

/-- R190: the code of a response, the received code plus 0x80; for a received code of 0x80 or more, whose sum is no
byte, a free value (log entry 38). -/
def responseCode (code : Byte) : Byte :=
  if code.toNat < 0x80 then code + 0x80#8 else Config.wideResponseCode code

/-- The response on the transmit wire: LEN, the response code, the status, the data, CHECK (R190). -/
def Response.bytes (r : Response) : List Byte :=
  withCheck ([byte (r.data.length + 4), responseCode r.code, r.status.code] ++ r.data)

/-- What an owner's rule leaves: the state, the status and the data. -/
structure Answer where
  state : State
  status : Status
  data : List Byte

/-- A refusal: no state is changed and no data are sent (R173). -/
def State.refuse (st : Status) (s : State) : Answer := ⟨s, st, []⟩

/-- The phase and the restraint set as the command leaves them (R174). -/
def State.phaseData (s : State) : List Byte := [byte s.phase.code, s.restraints.summary]

/-- OK with the phase and the restraint set. -/
def State.answerPhase (s : State) : Answer := ⟨s, .ok, s.phaseData⟩

/-- OK with no data. -/
def State.answerOk (s : State) : Answer := ⟨s, .ok, []⟩

/-! ## OPEN (R18, R19) -/

/-- R18: the counter goes up by one, and again while a log record carries its value. The log holds at most 16 numbers,
so 17 further steps suffice. -/
def nextNumber (held : List Nat) : Nat → Nat → Nat
  | 0, n => (n + 1) % 65536
  | fuel + 1, n =>
    let m := (n + 1) % 65536
    if held.contains m then nextNumber held fuel m else m

/-- R19: the stage record as OPEN creates it. -/
def StageRecord.opened (number : Nat) (identity : Identity) (top bottom profile : Nat) (waterTest autoAdvance : Bool)
    (clock : Nat) : StageRecord where
  number := number
  identity := identity
  top := top
  bottom := bottom
  length := bottom - top
  profile := profile
  waterTest := waterTest
  autoAdvance := autoAdvance
  phase := .packed
  restraints := .none
  outcome := none
  criteria := .none
  results := .absent
  startMix := none
  currentMix := none
  pendingMix := none
  history := []
  openedAt := clock
  injectionAt := none
  closedAt := none
  refusalTimer := 0
  holdTimer := 0
  inhibited := false
  finals := none
  stepsAtClose := none

/-- R19, check 3, and with it the flag bytes, whose BAD_ARG R190 gives no place among the checks (log entry 41). -/
def State.openArgsBad (s : State) (top bottom : Nat) (profile test advance : Byte) : Bool :=
  decide (20000 < bottom) || decide (bottom < top + 100) || decide (top + 1000 < bottom)
    || decide (3 < profile.toNat) || !(s.profileAt profile.toNat).valid
    || decide (1 < test.toNat) || decide (1 < advance.toNat)

/-- R78, R63: the Regulator at OPEN, less the recomputation of e. -/
def Regulator.opened (r : Regulator) : Regulator := { r with reached := 0, arrivalRun := 0, advanceCount := 0 }

/-- R169: the Coordination Unit at OPEN, before the evaluation of the phase change. The critical total and the number of
participants, which R169 does not name, stand (log entry 40). -/
def Coordination.opened (c : Coordination) : Coordination :=
  { c with allowance := 0, lowRun := 0, highRun := 0, report := false, suspects := [] }

/-- R113: the Take Counters at OPEN. -/
def TakeCounters.opened (number : Nat) (t : TakeCounters) : TakeCounters :=
  { t with live := .zero (some number), remGrout := 0, remWater := 0, remStroke := 0 }

/-- R99: the Sequencer at OPEN. -/
def Sequencer.opened (number : Nat) (st : StageRecord) (q : Sequencer) : Sequencer :=
  { q with counter := number, stage := some st, test := none, basePressure := none, confirmRun := 0, intensityRun := 0 }

/-- R19: what an accepted OPEN sets, before the phase change is handed over. -/
def State.createStage (top bottom profile : Nat) (waterTest autoAdvance : Bool) (s : State) : State :=
  let number := nextNumber (s.panel.log.map (·.stage.number)) 17 s.seq.counter
  let st := StageRecord.opened number s.own top bottom profile waterTest autoAdvance s.time.clock
  let t : State :=
    { s with
      seq := s.seq.opened number st
      take := s.take.opened number
      reg := s.reg.opened
      coord := s.coord.opened
      env := { s.env with replaced := 0 }
      conf := { s.conf with lock := true } }
  t.setCommanded (s.profileAt profile).start

/-- R19: an accepted OPEN. -/
def State.openStage (top bottom profile : Nat) (waterTest autoAdvance : Bool) (s : State) : State :=
  State.evaluate ((s.createStage top bottom profile waterTest autoAdvance).handover .vacant .packed)

def State.doOpen (top bottom : Nat) (profile test advance : Byte) (s : State) : Answer :=
  if s.phase ≠ .vacant then s.refuse .refusedState
  else if s.openArgsBad top bottom profile test advance then s.refuse .badArg
  else if s.meas.sealIn.accepted = false then s.refuse .refusedSeal
  else
    let t := s.openStage top bottom profile.toNat (test == 1#8) (advance == 1#8)
    ⟨t, .ok, be16 t.seq.counter⟩

/-! ## START, HOLD, RELEASE, STOP, ABORT, ACCEPT -/

/-- R21: where START takes a PACKED stage. -/
def State.startStage (st : StageRecord) (s : State) : State :=
  let held := match st.results with
    | .complete _ => true
    | _ => false
  if st.waterTest && !held then
    if s.seq.kept.any then s.abandonTest.enterWaiting .none else s.startTest
  else s.enterWaiting .none

def State.doStart (s : State) : Answer :=
  match s.phase, s.seq.stage with
  | .packed, some st => (s.settled (State.startStage st)).answerPhase
  | _, _ => s.refuse .refusedState

/-- The set with OPERATOR alone. -/
def Restraints.onlyOperator : Restraints := { Restraints.none with operator := true }

/-- The set with TRIP alone. -/
def Restraints.onlyTrip : Restraints := { Restraints.none with trip := true }

/-- TESTING, WAITING, INJECTING or HOLDING: a started stage. -/
def Phase.started : Phase → Bool
  | .testing | .waiting | .injecting | .holding => true
  | _ => false

/-- R29. -/
def State.doHold (s : State) : Answer :=
  if s.phase.started then (s.settled (State.arrive .onlyOperator)).answerPhase else s.refuse .refusedState

/-- R30: the set after a RELEASE. -/
def State.released (s : State) : Restraints :=
  { s.restraints with
    operator := false
    trip := s.restraints.trip && decide (s.conf.tag.gLim ≤ s.deliveredNat .gauge) }

/-- R30: the stage after a RELEASE. -/
def State.releaseStage (s : State) : State :=
  match s.phase with
  | .waiting | .holding => s.changeSet s.released
  | _ => s

/-- R30; a refusal carries the restraint set, in the summary's encoding (R173; log entry 17). -/
def State.doRelease (s : State) : Answer :=
  if s.phase.started then
    let t := s.settled State.releaseStage
    if t.restraints.operator || t.restraints.trip then ⟨t, .refusedState, [t.restraints.summary]⟩ else t.answerPhase
  else ⟨s, .refusedState, [s.restraints.summary]⟩

/-- R31: the stage after a STOP. -/
def State.stopStage (s : State) : State :=
  match s.phase with
  | .testing => s.abandonTest.enterPhase .packed
  | .waiting => s.enterPhase .packed
  | .injecting | .holding => s.closeStage .operatorStop .none s.env.record
  | _ => s

def State.doStop (s : State) : Answer :=
  if s.phase.started then (s.settled State.stopStage).answerPhase else s.refuse .refusedState

/-- R32: the stage after an ABORT. -/
def State.abortStage (s : State) : State :=
  match s.phase with
  | .packed => s.vacate
  | .testing | .waiting | .injecting | .holding => s.closeStage .aborted .none s.env.record
  | _ => s

def State.doAbort (s : State) : Answer :=
  if s.phase = .packed ∨ s.phase.started = true then (s.settled State.abortStage).answerPhase
  else s.refuse .refusedState

/-- R177: the bound of the stage log. -/
def logSize : Nat := 16

/-- R36: the log record appended and the stage record released. -/
def State.acceptStage (st : StageRecord) (s : State) : State :=
  State.vacate { s with panel := { s.panel with log := s.panel.log ++ [⟨st, s.take.live⟩] } }

def State.doAccept (s : State) : Answer :=
  match s.phase, s.seq.stage with
  | .closed, some st =>
    if logSize ≤ s.panel.log.length then s.refuse .refusedFull
    else (s.settled (State.acceptStage st)).answerPhase
  | _, _ => s.refuse .refusedState

/-! ## STEP (R64), MIX (R93) -/

/-- R64: a taken STEP. -/
def State.takeStep (c : Nat) (s : State) : State :=
  let t := s.setCommanded c
  { t with reg := { t.reg with arrivalRun := 0, advanceCount := 0 } }

def State.doStep (n : Nat) (s : State) : Answer :=
  if s.phase = .vacant ∨ s.phase = .testing ∨ s.phase = .closed then s.refuse .refusedState
  else if n = 0 ∨ 8 < n then s.refuse .badArg
  else
    let top := s.profile.top
    let t := s.takeStep (min n top)
    ⟨t, if top < n then .okClamped else .ok, [byte t.reg.commanded, byte t.effective]⟩

/-- R93: a taken MIX. -/
def State.forceMix (n : Nat) (s : State) : State :=
  (s.requestMix n).modStage fun st => { st with inhibited := false }

def State.doMix (n : Nat) (s : State) : Answer :=
  match s.seq.stage with
  | none => s.refuse .refusedState
  | some st =>
    if s.phase ≠ .injecting ∧ s.phase ≠ .holding then s.refuse .refusedState
    else if n = 0 ∨ s.conf.tag.mixes.length < n then s.refuse .badArg
    else if 8 ≤ st.history.length then s.refuse .refusedFull
    else (s.forceMix n).answerOk

/-! ## READ, LOG_READ, LOG_TAKE, SNAP, AUTO -/

/-- R175: a READ answered at once. The free values it may have used are counted as drawn. -/
def State.doRead (item window index : Byte) (s : State) : Answer :=
  match s.readData item window index with
  | some d => ⟨{ s with freeCount := s.freeCount + readDraws }, .ok, d⟩
  | none => s.refuse .badArg

/-- R46: a READ RECKONING in the LIVE window that finds a reckoning in flight is held. -/
def State.holdsRead (s : State) (c : PanelCmd) : Bool :=
  match c with
  | .read item window _ => item == 2#8 && window == 0#8 && s.env.inFlight.isSome
  | _ => false

/-- R178. -/
def State.doLogRead (k : Nat) (s : State) : Answer :=
  match s.panel.log[k]? with
  | some r => ⟨s, .ok, byte s.panel.log.length :: r.bytes⟩
  | none => s.refuse .badArg

/-- R179. -/
def State.doLogTake (s : State) : Answer :=
  match s.panel.log with
  | [] => s.refuse .refusedState
  | r :: rest =>
    ⟨{ s with panel := { s.panel with log := rest } }, .ok, be16 r.stage.number ++ [byte rest.length]⟩

/-- R110. -/
def State.doAuto (setting : Byte) (s : State) : Answer :=
  if 1 < setting.toNat then s.refuse .badArg
  else State.answerOk { s with take := { s.take with autoCopy := setting == 1#8 } }

/-! ## TUNE, LOCK (R182, R183) -/

/-- R182: a field written, or absent where the value lies outside the field's range (11.3) or no such field is tuned. The
range of the start step is 1 to the profile's own T. -/
def Profile.tuned (p : Profile) (field value : Nat) : Option Profile :=
  let within (lo hi : Nat) (q : Profile) : Option Profile := if lo ≤ value ∧ value ≤ hi then some q else none
  match field with
  | 1 => within 100 12000 { p with pmax := value }
  | 2 => within 1000 1000000 { p with gin := value }
  | 3 => within 1 60000 { p with vmax := value }
  | 4 => within 1 8 { p with top := value }
  | 5 => within 1 p.top { p with start := value }
  | 6 => within 0 2000 { p with qref := value }
  | 7 => within 60 3600 { p with tref := value }
  | 8 => within 1 2000 { p with qmax := value }
  | 9 => within 0 1000 { p with tolp := value }
  | _ => none

/-- R182, check 3: T or the start step written with start above T, or Pmax written below p_c (log entry 22). -/
def Profile.tuneBreaks (p : Profile) (field : Nat) : Bool :=
  match field with
  | 1 => decide (p.pmax < p.pc)
  | 4 | 5 => decide (p.top < p.start)
  | _ => false

def State.doTune (profile field value : Nat) (s : State) : Answer :=
  if s.conf.lock then s.refuse .refusedLocked
  else if 3 < profile then s.refuse .badArg
  else
    match (s.profileAt profile).tuned field value with
    | none => s.refuse .badArg
    | some p =>
      if p.tuneBreaks field then s.refuse .badArg
      else State.answerOk { s with conf := { s.conf with profiles := s.conf.profiles.set profile p.judged } }

/-- R183. -/
def State.doLock (s : State) : Answer := State.answerOk { s with conf := { s.conf with lock := true } }

/-! ## MASK, FAULT_CLEAR (R186) -/

def State.doMask (kind setting : Nat) (s : State) : Answer :=
  match FaultKind.all[kind - 1]? with
  | some k =>
    if kind = 0 ∨ 1 < setting then s.refuse .badArg
    else State.answerOk
      { s with faults := s.faults.set k { s.faults.get k with masked := decide (setting = 1) } }
  | none => s.refuse .badArg

/-- R186: one entry at FAULT_CLEAR. -/
def FaultEntry.cleared (clock : Nat) (k : FaultKind) (e : FaultEntry) : FaultEntry :=
  if k.isCondition && e.present && !e.masked then { e with count := 1, first := some clock, last := some clock }
  else { e with count := 0, first := none, last := none, detail := none }

def State.doFaultClear (s : State) : Answer :=
  State.answerOk { s with faults := s.faults.map (FaultEntry.cleared s.time.clock) }

end Sys2Proof.Machine
end

