-- ==== Sys2Proof/Machine/PanelLine.lean ====
section
/-! DEFINITION. The silence of the panel's receive wire and what it brings (R170). -/

namespace Sys2Proof.Machine

/-- 50 ms, in units of 100 µs. -/
def panelSilenceLimit : Nat := 500

/-- R170: a silence of more than 50 ms discards a message begun as a bad frame, and ends skipping. -/
def Panel.silenceReached (p : Panel) : Panel :=
  if panelSilenceLimit < p.silence then
    match p.receiver with
    | .hunting => p
    | .receiving _ _ => { p with receiver := .hunting, badFrames := satSucc max16 p.badFrames }
    | .skipping => { p with receiver := .hunting }
  else p

/-- `d` units of 100 µs of silence pass on the panel's receive wire. -/
def Panel.pass (d : Nat) (p : Panel) : Panel := Panel.silenceReached { p with silence := p.silence + d }

end Sys2Proof.Machine
end

