-- ==== Sys2Proof/Machine/Restart.lean ====
section
/-! DEFINITION. RESTART (R40, R184), and the handing of a command to its owner (R172 to R174). -/

namespace Sys2Proof.Machine

/-- R40: the stroke command goes to 0 and the shut-in valve closes, whatever the phase. -/
def State.stopPump (s : State) : State := { s with reg := { s.reg with stroke := 0, valveOpen := false } }

/-- R40: the stage at RESTART, by its phase. -/
def State.restartStage (s : State) : State :=
  match s.phase with
  | .testing => s.abandonTest.enterPhase .packed
  | .injecting => s.enterHolding .onlyOperator
  | .waiting | .holding => s.changeSet (s.restraints.union .onlyOperator)
  | _ => s

/-- R131: the Link Controller at RESTART; an attempt sending is cut after its character in progress, and a periodic
request is raised at once. -/
def Link.restart (l : Link) : Link :=
  Link.requestPeriodic
    { l with
      slot := none, seqCounter := 0, firstCount := 3, urgent := false, periodic := 0
      cut := l.cut || l.sending.isSome }

/-- R154, R184: the station enters LISTEN, and the LISTEN start is recorded. -/
def State.listenAgain (s : State) : State :=
  { s with
    conf := { s.conf with station := .listen }
    coord := { s.coord with listenStart := some (s.time.clock, s.time.tenths) } }

/-- R184, in the order of its table: Pump Regulator, Stage Sequencer, Link Controller, Neighbour Table, station state
and LISTEN start, and the evaluation that follows (log entry 16). -/
def State.restart (s : State) : State :=
  let t := s.stopPump.settled State.restartStage
  let t : State := { t with link := t.link.restart }
  State.evaluate t.clearTable.listenAgain

def State.doRestart (s : State) : Answer := s.restart.answerOk

/-- R174: the command handed to its owner, which takes it or refuses it. -/
def State.perform (c : PanelCmd) (s : State) : Answer :=
  match c with
  | .unknown _ => s.refuse .badCode
  | .badLength _ _ => s.refuse .badArg
  | .status => ⟨s, .ok, s.statusBytes⟩
  | .openStage top bottom profile test advance => s.doOpen top bottom profile test advance
  | .start => s.doStart
  | .stepTo n => s.doStep n
  | .hold => s.doHold
  | .release => s.doRelease
  | .stop => s.doStop
  | .abort => s.doAbort
  | .accept => s.doAccept
  | .read item window index => s.doRead item window index
  | .logRead k => s.doLogRead k
  | .logTake => s.doLogTake
  | .snap => (s.takeCopy .snap).answerOk
  | .mix n => s.doMix n
  | .tune profile field value => s.doTune profile.toNat field.toNat value
  | .lock => s.doLock
  | .auto setting => s.doAuto setting
  | .mask kind setting => s.doMask kind.toNat setting.toNat
  | .faultClear => s.doFaultClear
  | .restart => s.doRestart

/-- R172: the general checks, then the owner. -/
def State.answer (c : PanelCmd) (s : State) : Answer :=
  match s.generalCheck c with
  | some st => s.refuse st
  | none => s.perform c

/-- The command in process, with its response or none yet (R171). -/
def State.setProcess (p : Option InProcess) (s : State) : State := { s with panel := { s.panel with inProcess := p } }

/-- R171 to R173: a command is taken into process and answered, or held where R46 holds it. -/
def State.takeCommand (c : PanelCmd) (s : State) : State :=
  if (s.generalCheck c).isNone && s.holdsRead c then s.setProcess (some ⟨c, none⟩)
  else
    let a := s.answer c
    a.state.setProcess (some ⟨c, some ⟨c.code, a.status, a.data⟩⟩)

/-- R171: a command that completes at the panel is taken, enters the slot, or is discarded with PANEL_OVERRUN. -/
def State.panelArrive (c : PanelCmd) (s : State) : State :=
  match s.panel.slot with
  | some _ => s.report .panelOverrun none
  | none =>
    match s.panel.inProcess with
    | none => s.takeCommand c
    | some _ => { s with panel := { s.panel with slot := some c } }

/-- R171: the last byte of a response has been sent. A command whose response is not formed yet (R46) has none. -/
def State.endResponse (s : State) : State :=
  match s.panel.inProcess with
  | some ⟨_, some _⟩ =>
    match s.panel.slot with
    | some c => State.takeCommand c { s with panel := { s.panel with slot := none, inProcess := none } }
    | none => s.setProcess none
  | _ => s

/-- R46: a held READ RECKONING is answered from the record as the completion leaves it. -/
def State.releaseRead (s : State) : State :=
  match s.panel.inProcess with
  | some ⟨.read item window index, none⟩ =>
    let c := PanelCmd.read item window index
    let a := s.doRead item window index
    a.state.setProcess (some ⟨c, some ⟨c.code, a.status, a.data⟩⟩)
  | _ => s

/-! ## The panel line (R170) -/

def State.setPanelReceiver (r : PanelReceiver) (s : State) : State :=
  { s with panel := { s.panel with receiver := r } }

def State.badPanelFrame (s : State) : State :=
  { s with panel := { s.panel with badFrames := satSucc max16 s.panel.badFrames } }

/-- R170: a complete message: a command when its bytes sum to 0, else a bad frame. -/
def State.completeMessage (msg : List Byte) (s : State) : State :=
  let t := s.setPanelReceiver .hunting
  if sumBytes msg = 0#8 then
    match msg with
    | _ :: code :: rest => t.panelArrive (parseCommand code rest.dropLast)
    | _ => t
  else t.badPanelFrame

/-- R170: one byte received on the panel line. After a silence of more than 50 ms it finds the receiver hunting. -/
def State.panelByte (b : Byte) (s : State) : State :=
  let s : State := { s with panel := { s.panel.silenceReached with silence := 0 } }
  match s.panel.receiver with
  | .hunting =>
    if 3 ≤ b.toNat ∧ b.toNat ≤ 16 then s.setPanelReceiver (.receiving b.toNat [b])
    else (s.setPanelReceiver .skipping).badPanelFrame
  | .receiving n got =>
    let msg := got ++ [b]
    if n ≤ msg.length then s.completeMessage msg else s.setPanelReceiver (.receiving n msg)
  | .skipping => s

/-- The bytes of a message received so far. -/
def PanelReceiver.got : PanelReceiver → List Byte
  | .receiving _ got => got
  | _ => []

/-- A whole message of a stated length arrives, from a receiver that is hunting or has taken its first bytes. -/
def State.panelWhole (msg : List Byte) (s : State) : State :=
  let p := s.panel.silenceReached
  let ready := match p.receiver with
    | .skipping => false
    | _ => true
  if ready && p.receiver.got.isPrefixOf msg && decide (p.receiver.got.length < msg.length)
      && decide (3 ≤ msg.length ∧ msg.length ≤ 16) && msg.head? == some (byte msg.length) then
    State.completeMessage msg { s with panel := { p with silence := 0 } }
  else s

end Sys2Proof.Machine
end

