-- ==== Sys2Proof/Machine/Sampling.lean ====
section
/-! DEFINITION. The three composite events: the second boundary (R3, R28, R87, R90, R185), the sample set (R1, R2, R13
to R15, R88) and the completion of a reckoning (R43 to R46). -/

namespace Sys2Proof.Machine

/-! ## Timebase (R1 to R3) -/

/-- R1: one advance of the tenths, without the events it raises. -/
def Timebase.tick (t : Timebase) : Timebase :=
  if t.tenths < 9 then { t with tenths := t.tenths + 1 } else { t with tenths := 0, clock := (t.clock + 1) % two32 }

/-- R1, R3: this advance also raises a second boundary. -/
def Timebase.rolls (t : Timebase) : Bool := decide (9 ≤ t.tenths)

/-- The advance as its sample set finds it: made now, or made already by the second boundary it raised (log entry 4). -/
def Timebase.forSample (t : Timebase) : Timebase :=
  if t.sampleDue then { t with sampleDue := false } else { t.tick with boundaryDue := t.rolls }

/-- A second boundary can be taken: raised by an advance whose sample set came first, or by an advance made now. -/
def Timebase.boundaryPossible (t : Timebase) : Bool := t.boundaryDue || (t.rolls && !t.sampleDue)

/-- The advance as its second boundary finds it (log entry 4). -/
def Timebase.forBoundary (t : Timebase) : Timebase :=
  if t.boundaryDue then { t with boundaryDue := false } else { t.tick with sampleDue := true }

/-! ## The second boundary -/

/-- R28: the hold timer at a second boundary found in HOLDING, with the close at t_hold. -/
def State.boundaryHold (s : State) : State :=
  let t := s.modStage fun st => { st with holdTimer := st.holdTimer + 1 }
  match t.seq.stage with
  | some st => if s.conf.tag.tHold ≤ st.holdTimer then t.closeStage .interrupted .none t.env.record else t
  | none => t

/-- R87, R90: the pending mix at a second boundary found in INJECTING. -/
def State.boundaryMix (s : State) : State :=
  match s.seq.stage.bind (·.pendingMix) with
  | some p =>
    if s.conf.tag.tMix ≤ p.elapsed + 1 then s.timeoutMix p.mix
    else s.modStage fun st => { st with pendingMix := some { p with elapsed := p.elapsed + 1 } }
  | none => s

/-- The Stage Sequencer at a second boundary, by the phase found. -/
def State.boundarySequencer (s : State) : State :=
  match s.phase with
  | .holding => s.boundaryHold
  | .injecting => s.boundaryMix
  | _ => s

/-- R185, R186: the last-seen time of a present, unmasked condition kind (log entry 27 while its count is 0). -/
def FaultEntry.refresh (clock : Nat) (k : FaultKind) (e : FaultEntry) : FaultEntry :=
  if k.isCondition && e.present && !e.masked && decide (0 < e.count) then { e with last := some clock } else e

def State.boundaryFaults (s : State) : State := { s with faults := s.faults.map (FaultEntry.refresh s.time.clock) }

/-- R137. -/
def State.boundaryDuplicate (s : State) : State := if s.duplicateOver then s.clearDuplicate else s

/-- One block's part of a second boundary. -/
def State.boundaryTask (lastSilent : Nat) (task : BoundaryTask) (s : State) : State :=
  match task with
  | .tagTimeout => s.boundaryTag
  | .sequencer => s.settled State.boundarySequencer
  | .counters => s.boundaryCounters
  | .duplicate => s.boundaryDuplicate
  | .aging => s.ageEntries lastSilent
  | .coordination => s.boundaryCoordination
  | .faults => s.boundaryFaults

/-- The order of a boundary: the tasks asked for first, then the rest (log entry 3). -/
def boundarySchedule (ord : List BoundaryTask) : List BoundaryTask :=
  firstOnly (ord ++ [.tagTimeout, .sequencer, .counters, .duplicate, .aging, .coordination, .faults])

/-- What the blocks do at a second boundary (R3). -/
def State.boundaryWork (ord : BoundaryOrder) (s : State) : State :=
  (boundarySchedule ord.tasks).foldl (fun s t => s.boundaryTask ord.lastSilent t) s

/-- R3: a second boundary, when one can be taken. -/
def State.secondBoundary (ord : BoundaryOrder) (s : State) : State :=
  if s.time.boundaryPossible then State.boundaryWork ord { s with time := s.time.forBoundary } else s

/-! ## The sample set -/

/-- A boundary that was raised and not taken is taken before the next advance (log entry 4). -/
def State.overdueBoundary (s : State) : State :=
  if s.time.boundaryDue && !s.time.sampleDue then s.secondBoundary ⟨[], 0⟩ else s

/-- R13: the record of a sample set, from the channels and inputs as judged. -/
def State.sampleRecord (s : State) (seq clock tenths : Nat) : SampleSet where
  seq := seq
  clock := clock
  tenths := tenths
  gauge := s.deliveredNat .gauge
  flow := s.deliveredNat .flow
  density := s.deliveredNat .density
  hole := s.deliveredNat .hole
  header := s.deliveredNat .header
  uplift := s.meas.channels.uplift.delivered
  failed := ⟨s.failed .gauge, s.failed .flow, s.failed .density, s.failed .hole, s.failed .header, s.failed .uplift⟩
  sealIn := s.meas.sealIn.accepted
  leakIn := s.meas.leakIn.accepted
  keyIn := s.meas.keyIn.accepted

/-- The order in which the channels are judged: those asked for first (it decides which report comes last). -/
def channelOrder (l : List Channel) : List Channel :=
  firstOnly (l ++ [.gauge, .flow, .density, .hole, .header, .uplift])

/-- R13: the channels judged and the inputs debounced. -/
def State.judgeInputs (inp : SampleInput) (order : List Channel) (s : State) : State :=
  let t := (channelOrder order).foldl (fun s ch => s.sampleChannel ch (inp.codes.get ch)) s
  ((t.sampleInput .sealIn inp.sealIn).sampleInput .leakIn inp.leakIn).sampleInput .keyIn inp.keyIn

/-- R13: the record built; the sequence number goes up. -/
def State.buildSet (s : State) : State :=
  { s with meas := { s.meas with
      latest := some (s.sampleRecord s.meas.nextSeq s.time.clock s.time.tenths)
      nextSeq := (s.meas.nextSeq + 1) % 65536 } }

/-- R15: the overpressure trip fires at this sample set. -/
def State.trips (s : State) : Bool :=
  s.phase.pumping && s.conf.inForce && !s.failed .gauge && decide (s.conf.tag.gTrip ≤ s.deliveredNat .gauge)

/-- R15: the trip. -/
def State.trip (s : State) : State :=
  State.settled (State.arrive .onlyTrip) (s.stopPump.report .overpressure (some (.channel .gauge)))

/-- R88: the sample set agrees with a pending mix. -/
def State.densityAgrees (s : State) (m : Nat) : Bool :=
  match s.conf.tag.mix? m with
  | some x => !s.failed .density && decide (absDiff (s.deliveredNat .density) x.density ≤ s.conf.tag.tolRho)
  | none => false

/-- The mix pending in INJECTING, if there is one (R88). -/
def State.confirming (s : State) : Option Nat :=
  if s.phase = .injecting then (s.seq.stage.bind (·.pendingMix)).map (·.mix) else none

/-- R88, R89: the confirmation run at one sample set. -/
def State.sampleConfirm (s : State) : State :=
  match s.confirming with
  | none => s
  | some m =>
    if s.densityAgrees m then
      if 10 ≤ s.seq.confirmRun + 1 then s.confirmMix m
      else { s with seq := { s.seq with confirmRun := s.seq.confirmRun + 1 } }
    else { s with seq := { s.seq with confirmRun := 0 } }

/-- What must come before a part of a sample set: the trip before the other parts that may move the phase (R23; log
entry 5), the Take Counters before the Envelope Unit (R42). -/
def taskNeeds : SampleTask → List SampleTask
  | .field | .uplift | .connection | .header => [.trip]
  | .envelope => [.counters]
  | _ => []

/-- The order of a sample set: the tasks asked for first, each after what it needs, then the rest (log entry 3). -/
def sampleSchedule (ord : List SampleTask) : List SampleTask :=
  let wanted : List SampleTask :=
    ord ++ [.trip, .field, .counters, .envelope, .confirm, .uplift, .connection, .header]
  firstOnly (wanted.flatMap fun t => taskNeeds t ++ [t])

/-- One block's part of a sample set. `stroke` is the S that the Take Counters add (R103): that at the raising of the
set, 0 after a trip. -/
def State.sampleTask (set : SampleSet) (task : SampleTask) (p : State × Nat) : State × Nat :=
  let (s, stroke) := p
  match task with
  | .trip => if s.trips then (s.trip, 0) else (s, stroke)
  | .field => (s.settled State.presentField, stroke)
  | .counters => (s.sampleCounters set.flow set.gauge stroke, stroke)
  | .envelope => (s.offerSet set, stroke)
  | .confirm => (s.sampleConfirm, stroke)
  | .uplift => (s.sampleUplift, stroke)
  | .connection => (s.sampleConnection, stroke)
  | .header => (s.sampleHeader, stroke)

/-- R13: what the blocks do with a sample set. -/
def State.sampleWork (set : SampleSet) (ord : List SampleTask) (stroke : Nat) (s : State) :
    State :=
  ((sampleSchedule ord).foldl (fun p t => State.sampleTask set t p) (s, stroke)).1

/-- R2, R13: one sample set, after the advance that raised it. S is that which the set finds: where the second boundary of
the same advance was taken first, S as that boundary left it (R7, R103; log entry 36). -/
def State.takeSampleSet (inp : SampleInput) (ord : SampleOrder) (s : State) : State :=
  let t := (s.judgeInputs inp ord.channels).buildSet
  match t.meas.latest with
  | some set => t.sampleWork set ord.tasks s.reg.stroke
  | none => t

/-- R1, R2: the advance and its sample set. -/
def State.sampleSet (inp : SampleInput) (ord : SampleOrder) (s : State) : State :=
  let t := s.overdueBoundary
  State.takeSampleSet inp ord { t with time := t.time.forSample }

/-- R8, R13: the latest sample set with what one channel or input has become. -/
def State.amendLatest (s : State) : State :=
  { s with meas := { s.meas with
      latest := s.meas.latest.map fun x => s.sampleRecord x.seq x.clock x.tenths } }

/-! ## The completion of a reckoning -/

/-- R45: the blocks act on a stored record, in the order asked for. -/
def State.completionWork (ord : List CompletionTask) (l : Latched) (r : ReckRecord) (s : State) : State :=
  (completionSchedule ord).foldl (fun s t => s.completeTask l r t) s

/-- R43 to R46: the completion of the reckoning in flight: stored with its record, or discarded; then the waiting
read, then the slot's set (log entry 21). -/
def State.complete (ord : List CompletionTask) (s : State) : State :=
  match s.env.inFlight with
  | none => s
  | some l =>
    let t : State :=
      match s.completing with
      | some (_, r) =>
        State.completionWork ord l r { s with env := { s.env with inFlight := none, record := r } }
      | none => { s with env := { s.env with inFlight := none } }
    t.releaseRead.beginFromSlot

end Sys2Proof.Machine
end

