-- ==== Sys2Proof/Machine/ClockCommands.lean ====
section
/-! DEFINITION. The meanings of the commands of the clock, the field lines and the tag, and of the parts of a sample set
and of a second boundary that the table lists as rows of their own (log entry 2). -/

namespace Sys2Proof.Machine

/-- POWER_ON_RESET (R16, R39, R48, R78, R99, R113, R131, R147, R169, R180, R181, R183, R185): every block at its
power-on values. Free values drawn stay drawn. -/
def execPowerOnReset (s : State) : Host.Outcome State Fault Refusal :=
  .next { State.reset with pending := s.pending, freeCount := s.freeCount }

/-- SAMPLE_SET (R1, R2, R13). -/
def execSampleSet (inp : SampleInput) (ord : SampleOrder) (s : State) : Host.Outcome State Fault Refusal :=
  .next (s.sampleSet inp ord)

/-- SECOND_BOUNDARY (R3). -/
def execSecondBoundary (ord : BoundaryOrder) (s : State) : Host.Outcome State Fault Refusal :=
  .next (s.secondBoundary ord)

/-- One channel or input has changed: the latest sample set shows it, and SENSOR and PACKER are presented (R14). -/
def State.presentChange (s : State) : State := s.amendLatest.settled State.presentField

/-- CHANNEL_FAIL (R6 to R9, R14): the code completes a failure test of a VALID channel. -/
def execChannelFail (ch : Channel) (code : RawCode) (s : State) : Host.Outcome State Fault Refusal :=
  .next (if !s.failed ch && (s.channelAfter ch code).failed then (s.sampleChannel ch code).presentChange else s)

/-- CHANNEL_RECOVER (R10, R14): the code completes the good run of a FAILED channel. -/
def execChannelRecover (ch : Channel) (code : RawCode) (s : State) : Host.Outcome State Fault Refusal :=
  .next (if s.failed ch && !(s.channelAfter ch code).failed then (s.sampleChannel ch code).presentChange else s)

/-- R12: this contact sample completes the debounce run of an input. -/
def State.accepts (i : Input) (level : Bool) (s : State) : Bool :=
  ((s.meas.input i).sample i level).accepted != (s.meas.input i).accepted

/-- INPUT_DEBOUNCE_ACCEPT (R12, R14). -/
def execInputDebounceAccept (i : Input) (level : Bool) (s : State) : Host.Outcome State Fault Refusal :=
  .next (if s.accepts i level then (s.sampleInput i level).presentChange else s)

/-- MIX_CONFIRM (R89): the tenth agreeing sample of a pending mix. -/
def execMixConfirm (s : State) : Host.Outcome State Fault Refusal :=
  .next
    (match s.confirming with
      | some m => if s.densityAgrees m && decide (10 ≤ s.seq.confirmRun + 1) then s.confirmMix m else s
      | none => s)

/-- CONNECTION_REPORT_START (R157, R158). -/
def execConnectionReportStart (s : State) : Host.Outcome State Fault Refusal :=
  .next (if s.working && s.reportStarts then s.startReport else s)

/-- CONNECTION_REPORT_CLEAR (R157, R158). -/
def execConnectionReportClear (s : State) : Host.Outcome State Fault Refusal :=
  .next (if s.working && s.reportClears then s.clearReport else s)

/-! ## Parts of a second boundary -/

/-- A second boundary is raised and not taken yet (log entries 2, 4). -/
def State.atBoundary (s : State) : Bool := s.time.boundaryDue

/-- R90: the pending mix of an INJECTING stage reaches t_mix at this boundary. -/
def State.mixOverdue (s : State) : Option Nat :=
  match s.phase, s.seq.stage.bind (·.pendingMix) with
  | .injecting, some p => if s.conf.tag.tMix ≤ p.elapsed + 1 then some p.mix else none
  | _, _ => none

/-- MIX_TIMEOUT (R90). -/
def execMixTimeout (s : State) : Host.Outcome State Fault Refusal :=
  .next
    (match s.mixOverdue with
      | some m => if s.atBoundary then s.timeoutMix m else s
      | none => s)

/-- R28: the hold timer reaches t_hold at this boundary. -/
def State.holdOver (s : State) : Bool :=
  match s.phase, s.seq.stage with
  | .holding, some st => decide (s.conf.tag.tHold ≤ st.holdTimer + 1)
  | _, _ => false

/-- HOLD_TIMER_EXPIRY (R28, R34). -/
def execHoldTimerExpiry (s : State) : Host.Outcome State Fault Refusal :=
  .next (if s.atBoundary && s.holdOver then s.settled State.boundaryHold else s)

/-- DUPLICATE_CLEAR (R137). -/
def execDuplicateClear (s : State) : Host.Outcome State Fault Refusal :=
  .next (if s.atBoundary && s.duplicateOver then s.clearDuplicate else s)

/-- The entry of an identity. -/
def State.entryAt (id : Identity) (s : State) : Option Entry := s.table.entries.find? (·.identity = id)

/-- R143: one entry becomes STALE; the evaluation of R145 follows. -/
def State.markStale (id : Identity) (s : State) : State :=
  State.evaluate (s.setEntries (s.table.entries.map fun e => if e.identity = id then { e with fresh := false } else e))

/-- ENTRY_STALE (R143, R145). -/
def execEntryStale (id : Identity) (s : State) : Host.Outcome State Fault Refusal :=
  .next
    (match s.entryAt id with
      | some e => if s.atBoundary && s.staleNow e then s.markStale id else s
      | none => s)

/-- R143: one entry is removed, with the report of an active one; the evaluation of R145 follows. -/
def State.removeEntry (e : Entry) (s : State) : State :=
  State.evaluate (State.reportSilent (s.setEntries (s.table.entries.filter fun x => x.identity ≠ e.identity)) e)

/-- ENTRY_REMOVED (R143, R145). -/
def execEntryRemoved (id : Identity) (s : State) : Host.Outcome State Fault Refusal :=
  .next
    (match s.entryAt id with
      | some e => if s.atBoundary && s.goneNow e then s.removeEntry e else s
      | none => s)

/-- LISTEN_END (R154). -/
def execListenEnd (s : State) : Host.Outcome State Fault Refusal :=
  .next (if s.atBoundary && s.working && s.listenOver then s.endListen else s)

/-! ## The tag -/

/-- TAG_LOAD_COMPLETE (R181, R192): the tag delivers bytes, while the station is LOADING. -/
def execTagLoadComplete (image : List Byte) (s : State) : Host.Outcome State Fault Refusal :=
  .next
    (match s.conf.station, judgeDelivered s.freeCount image with
      | .loading, some j => State.loadCompleted j { s with freeCount := s.freeCount + 1 }
      | _, _ => s)

/-- TAG_LOAD_TIMEOUT (R181). -/
def execTagLoadTimeout (s : State) : Host.Outcome State Fault Refusal :=
  .next (if s.atBoundary && s.loadTimedOut then s.loadCompleted .absent else s)

end Sys2Proof.Machine
end

