-- ==== Sys2Proof/Machine/Receive.lean ====
section
/-! DEFINITION. The line and the receiver of the Link Controller: silence, characters, frames (R114, R115, R127 to
R129), and the passage of link time. -/

namespace Sys2Proof.Machine

/-- The instance that is in ACCESS, if there is one. -/
def Link.waiting (l : Link) : Option Outgoing :=
  match l.slot with
  | some o => if o.sending then none else some o
  | none => none

/-- R127: the frame in reception ends as a fragment. -/
def Link.fragment (l : Link) : Link :=
  { l with
    receiver := if l.idle then .ready else .hunting
    counters := { l.counters with fragment := satSucc max16 l.counters.fragment } }

/-- A frame is in reception. -/
def LinkReceiver.inFrame : LinkReceiver → Bool
  | .receiving _ => true
  | _ => false

/-- R115, R127: the line becomes idle; a receiver that hunts may begin a frame at the next good character. -/
def Link.becomeIdle (l : Link) : Link :=
  { l with
    idle := true
    receiver := match l.receiver with
      | .hunting => .ready
      | r => r }

/-- R115: what a silence of 3 character times brings: a frame in reception has become a fragment at more than 2, and
the line is idle (log entry 15). -/
def Link.silenceReached (l : Link) : Link :=
  if l.charOn = false ∧ 3 ≤ l.silence then (if l.receiver.inFrame then l.fragment else l).becomeIdle else l

/-- `d` character times pass for the timers of the link (R115, R117, R118, R120, R124). -/
def Link.pass (working : Bool) (d : Nat) (l : Link) : Link :=
  Link.silenceReached
    { l with
      silence := if l.charOn then l.silence else l.silence + d
      periodic := if working then l.periodic + d else l.periodic
      sinceStart := l.sinceStart.map (· + d)
      sentTime := l.sentTime + d
      slot := l.slot.map fun o => if o.sending then o else { o with wait := o.wait + d } }

/-- `d` units of 100 µs pass on the link and on the panel line (log entry 1). -/
def State.pass (d : Nat) (s : State) : State :=
  { s with
    link := s.link.pass s.working d
    panel := s.panel.pass d }

/-- R131: the character on the line is the last of an attempt that RESTART cut; it ends with its character time. -/
def Link.cutting (l : Link) : Bool := l.cut && l.charOn

/-- The time to the next event of the slot that link time alone brings: while SENDING, the end of the character in hand
without its read-back (R124); in ACCESS, the start of the attempt or the end of a wait of P_b (R120); with the slot
empty, the periodic request, or the end of the hold-off that a set mark waits for (R117, R118). None where there is
none. -/
def State.slotDue (s : State) : Option Nat :=
  match s.link.slot with
  | some o =>
    if o.sending then some (1 - s.link.sentTime)
    else if s.link.charOn then some (s.periodChars - o.wait)
    else some (min (3 + o.k - s.link.silence) (s.periodChars - o.wait))
  | none =>
    if s.working then
      let periodic := s.periodChars - s.link.periodic
      some (if s.link.urgent then min periodic (holdOff - s.link.sinceStart.getD holdOff) else periodic)
    else none

/-- A moment `d` character times ahead comes before, or with, every event that link time alone brings: those of the slot
and the end of a cut attempt's last character (log entry 1). -/
def State.linkReaches (d : Nat) (s : State) : Bool :=
  (match s.slotDue with
    | some x => decide (d ≤ x)
    | none => true)
  && (!s.link.cutting || decide (d ≤ 1 - s.link.sentTime))

/-- Link time goes on by `d` and `f` acts, where nothing that falls due before stands in the way; else the moment that `f`
names has not come (log entries 1, 2). -/
def State.atMoment (d : Nat) (f : State → State) (s : State) : State :=
  if s.linkReaches d then f (s.pass d) else s

/-- R115: a start bit makes the line busy; the character that it begins is another station's (log entry 29). -/
def Link.startBit (l : Link) : Link := { l with charOn := true, cut := false, idle := false, silence := 0 }

/-- R115: the end of a character begins a new silence. -/
def Link.charEnd (l : Link) : Link := { l with charOn := false, cut := false, idle := false, silence := 0 }

def State.modLink (f : Link → Link) (s : State) : State := { s with link := f s.link }

/-- R128, check 1: a length outside 7-39. -/
def Link.badLength (l : Link) : Link :=
  { l with receiver := .hunting, counters := { l.counters with badLength := satSucc max16 l.counters.badLength } }

/-- R128, check 1. -/
def lengthOk (n : Byte) : Bool := decide (7 ≤ n.toNat) && decide (n.toNat ≤ 39)

/-- R128, R129: a complete frame is checked, counted, and handed to admission when good and the station works. -/
def State.finishFrame (n : Byte) (body check : List Byte) (s : State) : State :=
  let t := s.modLink fun l => { l with receiver := .hunting }
  match checkFrame n body check with
  | .crcFailed => t.countLink fun c => { c with crcFailed := satSucc max16 c.crcFailed }
  | .badContent => t.countLink fun c => { c with badContent := satSucc max16 c.badContent }
  | .good b =>
    let u := t.countLink fun c => { c with good := satSucc max16 c.good }
    if u.working then u.admission b else u

/-- R127: a good character of the frame in reception, `got` being the characters with it. -/
def State.frameCharacter (got : List Byte) (b : Byte) (s : State) : State :=
  match got with
  | [_] => s.modLink fun l => if b = 0x55#8 then { l with receiver := .receiving got } else l.fragment
  | [_, _] => s.modLink fun l => if b = 0xD2#8 then { l with receiver := .receiving got } else l.fragment
  | [_, _, _] => s.modLink fun l => if lengthOk b then { l with receiver := .receiving got } else l.badLength
  | _ :: _ :: n :: rest =>
    if n.toNat + 2 ≤ rest.length then s.finishFrame n (rest.take n.toNat) (rest.drop n.toNat)
    else s.modLink fun l => { l with receiver := .receiving got }
  | [] => s

/-- R127: one character at the receiver that frames. -/
def State.receive (b : Byte) (stopFound : Bool) (s : State) : State :=
  match s.link.receiver with
  | .hunting => s
  | .ready => if stopFound then s.frameCharacter [b] b else s
  | .receiving got => if stopFound then s.frameCharacter (got ++ [b]) b else s.modLink Link.fragment

/-- R124: while an attempt is still sending after a read-back, its next character follows directly. -/
def Link.driveOn (l : Link) : Link := if l.sending.isSome then { l with charOn := true, sentTime := 0 } else l

/-- R114, R124, R127: a character's stop bit has been sampled. -/
def State.character (b : Byte) (stopFound : Bool) (s : State) : State :=
  let t := s.modLink Link.charEnd
  match s.link.sending with
  | some o => (t.readBack o b stopFound).modLink Link.driveOn
  | none => t.receive b stopFound

/-- The receiver may take the characters of a frame, the first of them as given so far. -/
def Link.mayFrame (chars : List Byte) (l : Link) : Bool :=
  l.sending.isNone
    && (match l.receiver with
        | .hunting => false
        | .ready => true
        | .receiving got => got.isPrefixOf chars && decide (got.length < chars.length))

/-- R128, R129: the characters of a whole frame, from its length on, have arrived. -/
def State.wholeFrame (bytes : List Byte) (s : State) : State :=
  match bytes with
  | n :: rest =>
    if lengthOk n && decide (rest.length = n.toNat + 2) && s.link.mayFrame (lead ++ bytes) then
      (s.modLink Link.charEnd).finishFrame n (rest.take n.toNat) (rest.drop n.toNat)
    else s
  | [] => s

/-- R128, check 1: the length character of a frame lies outside 7-39. -/
def State.badLengthFrame (n : Byte) (s : State) : State :=
  if !lengthOk n && s.link.mayFrame (lead ++ [n]) then s.modLink fun l => l.charEnd.badLength else s

/-- R127: a frame in reception ends as a fragment, by its cause. A silence lets the time to it pass. -/
def State.endFragment (why : FragmentCause) (s : State) : State :=
  match why with
  | .silence =>
    if s.link.receiver.inFrame && !s.link.charOn then
      s.atMoment (2 - s.link.silence) fun t => if t.link.receiver.inFrame then t.modLink Link.fragment else t
    else s
  | .framing =>
    if s.link.receiver.inFrame && s.link.sending.isNone then s.modLink fun l => l.charEnd.fragment else s
  | .badLead =>
    match s.link.receiver with
    | .ready => if s.link.sending.isNone then s.modLink fun l => l.charEnd.fragment else s
    | .receiving [_] => if s.link.sending.isNone then s.modLink fun l => l.charEnd.fragment else s
    | _ => s

/-- R125: the attempt in hand fails: by its read-back while SENDING, by the expiry of its access wait before, which
comes only where the silence has not reached 3 + k by then (R120). -/
def State.failInHand (o : Outgoing) (s : State) : State :=
  if o.sending then (s.modLink Link.charEnd).failAttempt o
  else s.atMoment (s.periodChars - o.wait) (State.failAttempt o)

/-- R125, R126: the failure in hand would bring the consecutive drops to 8 and raise LINK_JAM. -/
def State.jams (o : Outgoing) (s : State) : Bool :=
  decide (4 ≤ o.attempt) && decide (s.link.drops = 7) && !s.faults.linkJam.present

end Sys2Proof.Machine
end

