-- ==== Sys2Proof/Machine/LinkCommands.lean ====
section
/-! DEFINITION. The meanings of the commands of the curtain link. A command that names a moment of link time lets the
time to that moment pass, where no event of link time falls due before it (log entry 1). -/

namespace Sys2Proof.Machine

/-- PERIODIC_REQUEST (R117): the periodic time reaches P_b. -/
def execPeriodicRequest (s : State) : Host.Outcome State Fault Refusal :=
  .next
    (if s.working then s.atMoment (s.periodChars - s.link.periodic) (State.modLink Link.requestPeriodic) else s)

/-- HOLD_OFF_END (R118): the hold-off that the last transmission start began ends. -/
def execHoldOffEnd (s : State) : Host.Outcome State Fault Refusal :=
  .next
    (match s.link.sinceStart with
      | some t => s.atMoment (holdOff - t) fun u => if u.working then u.modLink Link.serveUrgent else u
      | none => s)

/-- ATTEMPT_START (R120, R122, R123, R188): the silence reaches 3 + k and the attempt begins. -/
def execAttemptStart (s : State) : Host.Outcome State Fault Refusal :=
  .next
    (match s.link.waiting with
      | some o =>
        if s.link.charOn then s else s.atMoment (3 + o.k - s.link.silence) (State.beginAttempt o)
      | none => s)

/-- ACCESS_TIMEOUT (R120, R125): the access wait has lasted P_b. -/
def execAccessTimeout (s : State) : Host.Outcome State Fault Refusal :=
  .next
    (match s.link.waiting with
      | some o => s.failInHand o
      | none => s)

/-- TRANSMISSION_COMPLETE (R124): the remaining characters agree (log entry 29). -/
def execTransmissionComplete (s : State) : Host.Outcome State Fault Refusal :=
  .next
    (match s.link.sending with
      | some _ => (s.modLink Link.charEnd).completeTransmission
      | none => s)

/-- ATTEMPT_FAILED (R124 to R126): a read-back mismatch (log entry 29). -/
def execAttemptFailed (s : State) : Host.Outcome State Fault Refusal :=
  .next
    (match s.link.sending with
      | some o => s.failInHand o
      | none => s)

/-- LINK_JAM (R126): the failure that makes the consecutive drops 8. -/
def execLinkJam (s : State) : Host.Outcome State Fault Refusal :=
  .next
    (match s.link.slot with
      | some o => if s.jams o then s.failInHand o else s
      | none => s)

/-- LINE_IDLE (R115, R127): the silence reaches 3 character times. -/
def execLineIdle (s : State) : Host.Outcome State Fault Refusal :=
  .next (if s.link.idle || s.link.charOn then s else s.atMoment (3 - s.link.silence) id)

/-- FRAME_RECEIVED (R128, R129, R136 to R142): the characters of a frame from its length on. -/
def execFrameReceived (bytes : List Byte) (s : State) : Host.Outcome State Fault Refusal :=
  .next (s.wholeFrame bytes)

/-- BAD_LENGTH_FRAME (R128). -/
def execBadLengthFrame (n : Byte) (s : State) : Host.Outcome State Fault Refusal :=
  .next (s.badLengthFrame n)

/-- FRAGMENT (R127). -/
def execFragment (why : FragmentCause) (s : State) : Host.Outcome State Fault Refusal :=
  .next (s.endFragment why)

/-- START_BIT_SEEN (R115, R120). -/
def execStartBitSeen (s : State) : Host.Outcome State Fault Refusal := .next (s.modLink Link.startBit)

/-- CHARACTER_RECEIVED (R114, R124, R127). -/
def execCharacterReceived (b : Byte) (stopFound : Bool) (s : State) : Host.Outcome State Fault Refusal :=
  .next (s.character b stopFound)

end Sys2Proof.Machine
end

