-- ==== Sys2Proof/Machine/PanelCommands.lean ====
section
/-! DEFINITION. The meanings of the commands of the panel line. A row that names a console command is the completion of
a well-formed message of that command at the port (R171; log entry 31). -/

namespace Sys2Proof.Machine

/-- PANEL_MESSAGE (R170, R171): the bytes of a whole message. -/
def execPanelMessage (bytes : List Byte) (s : State) : Host.Outcome State Fault Refusal := .next (s.panelWhole bytes)

/-- PANEL_BYTE_RECEIVED (R170). -/
def execPanelByteReceived (b : Byte) (s : State) : Host.Outcome State Fault Refusal := .next (s.panelByte b)

/-- PANEL_SILENCE_TIMEOUT (R170): a silence of more than 50 ms on the receive wire; the time of that line alone passes
(log entry 1). -/
def execPanelSilenceTimeout (s : State) : Host.Outcome State Fault Refusal :=
  .next { s with panel := s.panel.pass (panelSilenceLimit + 1 - s.panel.silence) }

/-- RESPONSE_END (R171). -/
def execResponseEnd (s : State) : Host.Outcome State Fault Refusal := .next s.endResponse

/-- UNKNOWN_CODE (R172, R190). -/
def execUnknownCode (code : Byte) (args : List Byte) (s : State) : Host.Outcome State Fault Refusal :=
  .next (s.panelArrive (parseCommand code args))

/-- STATUS (R176). -/
def execStatus (s : State) : Host.Outcome State Fault Refusal := .next (s.panelArrive .status)

/-- OPEN (R18, R19). -/
def execOpenStage (top bottom : Word16) (profile test advance : Byte) (s : State) :
    Host.Outcome State Fault Refusal :=
  .next (s.panelArrive (.openStage top.toNat bottom.toNat profile test advance))

/-- START (R21). -/
def execStart (s : State) : Host.Outcome State Fault Refusal := .next (s.panelArrive .start)

/-- STEP (R64). -/
def execStepTo (n : Byte) (s : State) : Host.Outcome State Fault Refusal := .next (s.panelArrive (.stepTo n.toNat))

/-- HOLD (R29). -/
def execHold (s : State) : Host.Outcome State Fault Refusal := .next (s.panelArrive .hold)

/-- RELEASE (R30). -/
def execRelease (s : State) : Host.Outcome State Fault Refusal := .next (s.panelArrive .release)

/-- STOP (R31). -/
def execStop (s : State) : Host.Outcome State Fault Refusal := .next (s.panelArrive .stop)

/-- ABORT (R32). -/
def execAbort (s : State) : Host.Outcome State Fault Refusal := .next (s.panelArrive .abort)

/-- ACCEPT (R36, R177). -/
def execAccept (s : State) : Host.Outcome State Fault Refusal := .next (s.panelArrive .accept)

/-- READ (R46, R175). -/
def execRead (item window index : Byte) (s : State) : Host.Outcome State Fault Refusal :=
  .next (s.panelArrive (.read item window index))

/-- LOG_READ (R178). -/
def execLogRead (k : Byte) (s : State) : Host.Outcome State Fault Refusal := .next (s.panelArrive (.logRead k.toNat))

/-- LOG_TAKE (R179). -/
def execLogTake (s : State) : Host.Outcome State Fault Refusal := .next (s.panelArrive .logTake)

/-- SNAP (R111). -/
def execSnap (s : State) : Host.Outcome State Fault Refusal := .next (s.panelArrive .snap)

/-- MIX (R93). -/
def execMix (n : Byte) (s : State) : Host.Outcome State Fault Refusal := .next (s.panelArrive (.mix n.toNat))

/-- TUNE (R182). -/
def execTune (profile field : Byte) (value : BitVec 32) (s : State) : Host.Outcome State Fault Refusal :=
  .next (s.panelArrive (.tune profile field value.toNat))

/-- LOCK (R183). -/
def execLock (s : State) : Host.Outcome State Fault Refusal := .next (s.panelArrive .lock)

/-- AUTO (R110). -/
def execAuto (setting : Byte) (s : State) : Host.Outcome State Fault Refusal := .next (s.panelArrive (.auto setting))

/-- MASK (R186). -/
def execMask (kind setting : Byte) (s : State) : Host.Outcome State Fault Refusal :=
  .next (s.panelArrive (.mask kind setting))

/-- FAULT_CLEAR (R186). -/
def execFaultClear (s : State) : Host.Outcome State Fault Refusal := .next (s.panelArrive .faultClear)

/-- RESTART (R40, R184). -/
def execRestart (s : State) : Host.Outcome State Fault Refusal := .next (s.panelArrive .restart)

end Sys2Proof.Machine
end

