-- ==== Sys2Proof/Machine/ReckoningCommands.lean ====
section
/-! DEFINITION. The meanings of RECKONING_COMPLETION and of the parts of a completion that the table lists as rows of
their own: they act with the record that the reckoning in flight would store (log entry 2). -/

namespace Sys2Proof.Machine

/-- RECKONING_COMPLETION (R43 to R46). -/
def execReckoningCompletion (ord : List CompletionTask) (s : State) : Host.Outcome State Fault Refusal :=
  .next (s.complete ord)

/-- REACHED_STEP_ARRIVAL (R66). -/
def execReachedStepArrival (s : State) : Host.Outcome State Fault Refusal :=
  .next
    (match s.completing with
      | some (_, r) => if s.arrives r.pEff then s.reachStep else s
      | none => s)

/-- AUTO_ADVANCE (R68). -/
def execAutoAdvance (s : State) : Host.Outcome State Fault Refusal :=
  .next
    (match s.completing with
      | some (l, _) => if s.advances l.flow then s.advanceStep else s
      | none => s)

/-- R81: the completion in hand ends the test step: its stage record and its test state with the completion counted. -/
def State.endingStep (l : Latched) (r : ReckRecord) (s : State) : Option (StageRecord × TestState) :=
  match s.phase, s.seq.stage, s.seq.test with
  | .testing, some st, some t =>
    if t.ends s.conf.tag.tTest then some (st, t.counted s.conf.tag.tTest l.flow r.pEff) else none
  | _, _, _ => none

/-- TEST_STEP_END (R81 to R83). -/
def execTestStepEnd (s : State) : Host.Outcome State Fault Refusal :=
  .next
    (match s.completing with
      | some (l, r) =>
        match s.endingStep l r with
        | some (st, x) => s.settled (State.endTestStep x st)
        | none => s
      | none => s)

/-- R94, R98: the completion in hand closes the stage. -/
def State.closing (r : ReckRecord) (s : State) : Bool :=
  s.phase == .injecting && (((s.injectingChecks r).criteriaHeld r).outcome).isSome

/-- END_CRITERIA_CLOSE (R94, R98, R34). -/
def execEndCriteriaClose (s : State) : Host.Outcome State Fault Refusal :=
  .next
    (match s.completing with
      | some (_, r) => if s.closing r then s.settled (State.completeInjecting r) else s
      | none => s)

/-- R167: the supply evaluation of the completion in hand brings the low-allowance run to 10. -/
def State.allowanceShort (s : State) : Bool :=
  s.working && s.isOpen && decide (s.coord.lowRun < 10) && decide (s.formSupply.coord.lowRun = 10)

/-- R167: the supply evaluation of the completion in hand finds the high-allowance run at 10 and the header up. -/
def State.allowanceBack (s : State) : Bool :=
  s.working && s.isOpen && !(decide (s.coord.lowRun < 10) && decide (s.formSupply.coord.lowRun = 10))
    && decide (s.formSupply.coord.highRun = 10) && decide (s.conf.tag.hMin ≤ s.deliveredNat .header)

/-- R167: this sample set brings the header-low run to 20. -/
def State.headerShort (s : State) : Bool :=
  s.working && decide (s.deliveredNat .header < s.conf.tag.hMin) && decide (s.coord.headerRun = 19)

/-- SUPPLY_PRESENT (R167), at one of its two events. -/
def execSupplyPresent (why : SupplyCause) (s : State) : Host.Outcome State Fault Refusal :=
  .next
    (match why with
      | .allowance =>
        if s.completing.isSome && !s.seq.kept.supply && s.allowanceShort then s.supplyEvaluation else s
      | .header => if !s.seq.kept.supply && s.headerShort then s.sampleHeader else s)

/-- SUPPLY_ABSENT (R167). -/
def execSupplyAbsent (s : State) : Host.Outcome State Fault Refusal :=
  .next (if s.completing.isSome && s.seq.kept.supply && s.allowanceBack then s.supplyEvaluation else s)

end Sys2Proof.Machine
end

