-- ==== Sys2Proof/Machine/Dispatch.lean ====
section
/-! DEFINITION. One arm per command, in the order of spec/opcode_table.json. -/

namespace Sys2Proof.Machine

def exec (i : Instr) (s : State) : Host.Outcome State Fault Refusal :=
  match i with
  | .powerOnReset => Sys2Proof.Machine.execPowerOnReset s
  | .sampleSet inp ord => Sys2Proof.Machine.execSampleSet inp ord s
  | .secondBoundary ord => Sys2Proof.Machine.execSecondBoundary ord s
  | .channelFail ch code => Sys2Proof.Machine.execChannelFail ch code s
  | .channelRecover ch code => Sys2Proof.Machine.execChannelRecover ch code s
  | .inputDebounceAccept inp level => Sys2Proof.Machine.execInputDebounceAccept inp level s
  | .reckoningCompletion ord => Sys2Proof.Machine.execReckoningCompletion ord s
  | .reachedStepArrival => Sys2Proof.Machine.execReachedStepArrival s
  | .autoAdvance => Sys2Proof.Machine.execAutoAdvance s
  | .testStepEnd => Sys2Proof.Machine.execTestStepEnd s
  | .mixConfirm => Sys2Proof.Machine.execMixConfirm s
  | .mixTimeout => Sys2Proof.Machine.execMixTimeout s
  | .endCriteriaClose => Sys2Proof.Machine.execEndCriteriaClose s
  | .holdTimerExpiry => Sys2Proof.Machine.execHoldTimerExpiry s
  | .periodicRequest => Sys2Proof.Machine.execPeriodicRequest s
  | .holdOffEnd => Sys2Proof.Machine.execHoldOffEnd s
  | .attemptStart => Sys2Proof.Machine.execAttemptStart s
  | .accessTimeout => Sys2Proof.Machine.execAccessTimeout s
  | .transmissionComplete => Sys2Proof.Machine.execTransmissionComplete s
  | .attemptFailed => Sys2Proof.Machine.execAttemptFailed s
  | .linkJam => Sys2Proof.Machine.execLinkJam s
  | .lineIdle => Sys2Proof.Machine.execLineIdle s
  | .frameReceived bytes => Sys2Proof.Machine.execFrameReceived bytes s
  | .badLengthFrame n => Sys2Proof.Machine.execBadLengthFrame n s
  | .fragment why => Sys2Proof.Machine.execFragment why s
  | .duplicateClear => Sys2Proof.Machine.execDuplicateClear s
  | .entryStale id => Sys2Proof.Machine.execEntryStale id s
  | .entryRemoved id => Sys2Proof.Machine.execEntryRemoved id s
  | .supplyPresent why => Sys2Proof.Machine.execSupplyPresent why s
  | .supplyAbsent => Sys2Proof.Machine.execSupplyAbsent s
  | .listenEnd => Sys2Proof.Machine.execListenEnd s
  | .connectionReportStart => Sys2Proof.Machine.execConnectionReportStart s
  | .connectionReportClear => Sys2Proof.Machine.execConnectionReportClear s
  | .tagLoadComplete image => Sys2Proof.Machine.execTagLoadComplete image s
  | .tagLoadTimeout => Sys2Proof.Machine.execTagLoadTimeout s
  | .panelMessage bytes => Sys2Proof.Machine.execPanelMessage bytes s
  | .panelSilenceTimeout => Sys2Proof.Machine.execPanelSilenceTimeout s
  | .responseEnd => Sys2Proof.Machine.execResponseEnd s
  | .unknownCode code args => Sys2Proof.Machine.execUnknownCode code args s
  | .status => Sys2Proof.Machine.execStatus s
  | .openStage top bottom profile test advance => Sys2Proof.Machine.execOpenStage top bottom profile test advance s
  | .start => Sys2Proof.Machine.execStart s
  | .stepTo n => Sys2Proof.Machine.execStepTo n s
  | .hold => Sys2Proof.Machine.execHold s
  | .release => Sys2Proof.Machine.execRelease s
  | .stop => Sys2Proof.Machine.execStop s
  | .abort => Sys2Proof.Machine.execAbort s
  | .accept => Sys2Proof.Machine.execAccept s
  | .read item window index => Sys2Proof.Machine.execRead item window index s
  | .logRead k => Sys2Proof.Machine.execLogRead k s
  | .logTake => Sys2Proof.Machine.execLogTake s
  | .snap => Sys2Proof.Machine.execSnap s
  | .mix n => Sys2Proof.Machine.execMix n s
  | .tune profile field value => Sys2Proof.Machine.execTune profile field value s
  | .lock => Sys2Proof.Machine.execLock s
  | .auto setting => Sys2Proof.Machine.execAuto setting s
  | .mask kind setting => Sys2Proof.Machine.execMask kind setting s
  | .faultClear => Sys2Proof.Machine.execFaultClear s
  | .restart => Sys2Proof.Machine.execRestart s
  | .startBitSeen => Sys2Proof.Machine.execStartBitSeen s
  | .characterReceived b stopFound => Sys2Proof.Machine.execCharacterReceived b stopFound s
  | .panelByteReceived b => Sys2Proof.Machine.execPanelByteReceived b s

end Sys2Proof.Machine
end

