-- ==== Sys2Proof/Machine/Tick.lean ====
section
/-! DEFINITION. What the block does while no command waits: one event of link time that is due, or else the passage of
one character time, 100 µs (log entry 1). -/

namespace Sys2Proof.Machine

/-- What is due for the attempt in hand: its failure at a read-back that has not arrived when the character time ends
(R124), its first character, or the end of a wait of P_b (R120). -/
def State.attemptDue (s : State) : Option State :=
  match s.link.slot with
  | some o =>
    if o.sending then (if 1 ≤ s.link.sentTime then some (s.failInHand o) else none)
    else if s.link.waitOver o then some (s.beginAttempt o)
    else if s.periodChars ≤ o.wait then some (s.failInHand o)
    else none
  | none => none

/-- R117, R118: a request is due while the slot is empty. -/
def State.requestDue (s : State) : Bool :=
  s.working && s.link.slot.isNone
    && (decide (s.periodChars ≤ s.link.periodic) || (s.link.urgent && s.link.holdOffEnded))

/-- R131: the last character of a cut attempt is over, whether it has been read back or not. -/
def State.cutOver (s : State) : Bool := s.link.cutting && decide (1 ≤ s.link.sentTime)

/-- The idle step. -/
def State.idle (s : State) : State :=
  match s.attemptDue with
  | some t => t
  | none =>
    if s.cutOver then s.modLink Link.charEnd
    else if s.requestDue then s.modLink Link.create
    else s.pass 1

end Sys2Proof.Machine
end

