-- ==== Sys2Proof/WellFormed.lean ====
section
/-! DEFINITION. Which commands are well formed: the shape that the spec gives the operands. A command that is not well
formed runs all the same; it leaves what no such event of the spec could change. -/

namespace Sys2Proof

open Sys2Proof.Machine

/-- An identity of a hole: line A to D, chainage of 16 bits (00, Terms). -/
def Identity.wf (i : Identity) : Bool := decide (i.line ≤ 3) && decide (i.chainage ≤ 65535)

/-- The length character and the characters after it make a whole frame (R114, R128). -/
def frameShape : List Byte → Bool
  | n :: rest => lengthOk n && decide (rest.length = n.toNat + 2)
  | [] => false

/-- A message of 3 to 16 bytes that states its own length (R170). -/
def messageShape (l : List Byte) : Bool := decide (3 ≤ l.length ∧ l.length ≤ 16) && l.head? == some (byte l.length)

/-- A code that names no command, in a message of at most 16 bytes (R170, R190). -/
def namesNoCommand (code : Byte) (args : List Byte) : Bool :=
  parseCommand code args == .unknown code && decide (args.length ≤ 13)

/-- The operands of a command have the shape the spec gives them. -/
def Instr.wf : Instr → Bool
  | .powerOnReset => true
  | .sampleSet _ _ => true
  | .secondBoundary _ => true
  | .channelFail _ _ => true
  | .channelRecover _ _ => true
  | .inputDebounceAccept _ _ => true
  | .reckoningCompletion _ => true
  | .reachedStepArrival => true
  | .autoAdvance => true
  | .testStepEnd => true
  | .mixConfirm => true
  | .mixTimeout => true
  | .endCriteriaClose => true
  | .holdTimerExpiry => true
  | .periodicRequest => true
  | .holdOffEnd => true
  | .attemptStart => true
  | .accessTimeout => true
  | .transmissionComplete => true
  | .attemptFailed => true
  | .linkJam => true
  | .lineIdle => true
  | .frameReceived bytes => frameShape bytes
  | .badLengthFrame n => !lengthOk n
  | .fragment _ => true
  | .duplicateClear => true
  | .entryStale id => id.wf
  | .entryRemoved id => id.wf
  | .supplyPresent _ => true
  | .supplyAbsent => true
  | .listenEnd => true
  | .connectionReportStart => true
  | .connectionReportClear => true
  | .tagLoadComplete image => decide (2 ≤ image.length)
  | .tagLoadTimeout => true
  | .panelMessage bytes => messageShape bytes
  | .panelSilenceTimeout => true
  | .responseEnd => true
  | .unknownCode code args => namesNoCommand code args
  | .status => true
  | .openStage _ _ _ _ _ => true
  | .start => true
  | .stepTo _ => true
  | .hold => true
  | .release => true
  | .stop => true
  | .abort => true
  | .accept => true
  | .read _ _ _ => true
  | .logRead _ => true
  | .logTake => true
  | .snap => true
  | .mix _ => true
  | .tune _ _ _ => true
  | .lock => true
  | .auto _ => true
  | .mask _ _ => true
  | .faultClear => true
  | .restart => true
  | .startBitSeen => true
  | .characterReceived _ _ => true
  | .panelByteReceived _ => true

end Sys2Proof
end

