-- ==== Sys2Proof/Safety.lean ====
section
/-! DEFINITION. The terms in which claims are stated: what a command may change, what a panel command is answered, and
the invariants that every step keeps. -/

namespace Sys2Proof.Machine

/-! ## Frames -/

/-- The blocks of the state, the queue and the count of free values. -/
inductive Block where
  | time | meas | seq | env | reg | take | link | table | coord | panel | conf | faults | queue | free
deriving DecidableEq, Repr

/-- A block is the same in two states. -/
def sameBlock (s t : State) : Block → Prop
  | .time => t.time = s.time
  | .meas => t.meas = s.meas
  | .seq => t.seq = s.seq
  | .env => t.env = s.env
  | .reg => t.reg = s.reg
  | .take => t.take = s.take
  | .link => t.link = s.link
  | .table => t.table = s.table
  | .coord => t.coord = s.coord
  | .panel => t.panel = s.panel
  | .conf => t.conf = s.conf
  | .faults => t.faults = s.faults
  | .queue => t.pending = s.pending
  | .free => t.freeCount = s.freeCount

/-- Every block but those listed is unchanged from `s` to `t`. -/
def OnlyChanges (l : List Block) (s t : State) : Prop := ∀ b, b ∉ l → sameBlock s t b

/-- The blocks that a change of phase and the general evaluation it raises may touch (R20, R148): the Stage Sequencer,
the Pump Regulator, the Link Controller and the Coordination Unit. -/
def phaseBlocks : List Block := [.seq, .reg, .link, .coord]

/-- The stage record as OPEN created it: what OPEN fixed for the life of the stage (R17, R19). -/
def StageRecord.asOpened (st : StageRecord) : StageRecord :=
  { StageRecord.opened st.number st.identity st.top st.bottom st.profile st.waterTest st.autoAdvance st.openedAt with
    length := st.length }

/-- What a change of phase, with the evaluation it raises, leaves alone inside those four blocks too: the commanded and
reached steps, the number counter and the intensity run, what OPEN fixed, all of the link but the slot, the generator
and the urgent mark, and the supply, uplift and LISTEN parts of the Coordination Unit. -/
def PhaseFrame (s t : State) : Prop :=
  OnlyChanges phaseBlocks s t
    ∧ t.reg.commanded = s.reg.commanded ∧ t.reg.reached = s.reg.reached
    ∧ t.seq.counter = s.seq.counter ∧ t.seq.intensityRun = s.seq.intensityRun
    ∧ t.seq.stage.map (·.asOpened) = s.seq.stage.map (·.asOpened)
    ∧ t.link = { s.link with slot := t.link.slot, generator := t.link.generator, urgent := t.link.urgent }
    ∧ t.coord.allowance = s.coord.allowance ∧ t.coord.criticalTotal = s.coord.criticalTotal
    ∧ t.coord.participants = s.coord.participants ∧ t.coord.lowRun = s.coord.lowRun
    ∧ t.coord.highRun = s.coord.highRun ∧ t.coord.headerRun = s.coord.headerRun
    ∧ t.coord.uplift = s.coord.uplift ∧ t.coord.listenStart = s.coord.listenStart

/-- The conditions that only a sample set or a supply evaluation presents stand as they were kept (R14, R167). -/
def FieldAndSupplyKept (s t : State) : Prop :=
  t.seq.kept.sensor = s.seq.kept.sensor ∧ t.seq.kept.packer = s.seq.kept.packer
    ∧ t.seq.kept.supply = s.seq.kept.supply

/-! ## The panel -/

/-- Nothing is in process at the panel and its slot is empty. -/
def State.panelFree (s : State) : Prop := s.panel.inProcess = none ∧ s.panel.slot = none

/-- From `s` to `t` the panel has taken the command `c` and formed this response, and nothing else of it changed. -/
def Answered (s t : State) (c : PanelCmd) (st : Status) (data : List Byte) : Prop :=
  t.panel = { s.panel with inProcess := some ⟨c, some ⟨c.code, st, data⟩⟩ }

/-- The command is refused with this status and no data, and nothing but the panel's command in process changes. -/
def RefusedWith (i : Instr) (s : State) (c : PanelCmd) (st : Status) : Prop :=
  ∃ t, exec i s = .next t ∧ Answered s t c st [] ∧ OnlyChanges [.panel] s t

/-! ## Invariants -/

/-- No stage is open before the tag is accepted (R19, R181). -/
def ClosedUntilConfigured (s : State) : Prop := s.working = false → s.seq.stage = none

/-- The pump outputs follow the phase: R72 for the stroke command, R73 to R75. -/
def PumpFollowsPhase (s : State) : Prop :=
  (s.phase.pumping = false → s.reg.stroke = 0)
    ∧ s.reg.valveOpen = s.phase.pumping
    ∧ s.reg.suctionWater = decide (s.phase = .testing)
    ∧ (s.phase = .testing → s.reg.stroke ≤ s.conf.tag.sMax)
    ∧ (s.phase = .injecting → s.reg.stroke ≤ s.injectingCap)

/-- The pump invariant: R72 to R75 with the station's part of it. -/
def PumpInvariant (s : State) : Prop := ClosedUntilConfigured s ∧ PumpFollowsPhase s

/-- The neighbour table holds at most 24 entries, no identity twice and never the own identity, and each entry's
distance is that of its identity (R132 to R134, R136). -/
def TableInvariant (s : State) : Prop :=
  s.table.entries.length ≤ tableSize
    ∧ (s.table.entries.map (·.identity)).Nodup
    ∧ ∀ e ∈ s.table.entries, e.identity ≠ s.own ∧ e.distance = distance s.conf.tag.rowSpacing e.identity s.own

/-- STANDOFF as the Sequencer keeps it is what its causes give, and the restraint set of a waiting or holding stage
follows it; no pumping stage has it (R22, R149, R152). -/
def StandoffFollows (s : State) : Prop :=
  s.working = true →
    s.seq.kept.standoff = s.standoffCauses.any
      ∧ (s.phase.restrained = true → s.restraints.standoff = s.seq.kept.standoff)
      ∧ (s.phase.pumping = true → s.seq.kept.standoff = false)

/-- R152: an entry that conflicts with the own stage, is active and precedes this station. -/
def State.heldOffBy (s : State) (e : Entry) : Bool := s.conflicts e && e.phase.active && s.entryPrecedes e

/-- The stage log holds at most 16 records, and no stage number twice; the open stage's number is on none of them, and
is the counter's value (R18, R177). -/
def LogInvariant (s : State) : Prop :=
  s.panel.log.length ≤ logSize
    ∧ (s.panel.log.map (·.stage.number)).Nodup
    ∧ ∀ st, s.seq.stage = some st → st.number = s.seq.counter ∧ st.number ∉ s.panel.log.map (·.stage.number)

/-- The counters stay inside their bounds: the twelve link counters and the sets replaced at 65,535, the fault counts at
255, the six stage counters at 4,294,967,295, the remainders below 600 and 6,000 (R43, R100, R106, R130, R185). -/
def CountersBounded (s : State) : Prop :=
  s.take.remGrout < 600 ∧ s.take.remWater < 600 ∧ s.take.remStroke < 6000
    ∧ s.take.live.volume ≤ max32 ∧ s.take.live.water ≤ max32 ∧ s.take.live.strokes ≤ max32
    ∧ s.take.live.secWaiting ≤ max32 ∧ s.take.live.secInjecting ≤ max32 ∧ s.take.live.secHolding ≤ max32
    ∧ s.env.replaced ≤ max16 ∧ s.panel.badFrames ≤ max16
    ∧ s.link.counters.good ≤ max16 ∧ s.link.counters.crcFailed ≤ max16 ∧ s.link.counters.fragment ≤ max16
    ∧ s.link.counters.badLength ≤ max16 ∧ s.link.counters.badContent ≤ max16 ∧ s.link.counters.filtered ≤ max16
    ∧ s.link.counters.stale ≤ max16 ∧ s.link.counters.ownIdentity ≤ max16 ∧ s.link.counters.tableFull ≤ max16
    ∧ s.link.counters.transmitted ≤ max16 ∧ s.link.counters.abandoned ≤ max16 ∧ s.link.counters.dropped ≤ max16
    ∧ s.link.drops ≤ 255
    ∧ ∀ k, (s.faults.get k).count ≤ 255

/-! ## A station that its neighbours leave free -/

/-- RUNNING, and nothing that a general evaluation could find holds the stage, in whatever phase: no duplicate, no
conflicting entry, no report, no naming under HOLD, no uplift source in STOP (R152, R159, R160, R162). -/
def State.unhindered (s : State) : Prop :=
  s.conf.station = .running ∧ s.table.duplicate = false ∧ (∀ e ∈ s.table.entries, s.conflicts e = false)
    ∧ s.coord.report = false ∧ (s.named = true → s.profile.action = .reduce) ∧ s.upliftCondition = false

/-! ## The step limit and the supply -/

/-- R162: an uplift source reports `x`: the own state, or an entry within D_up. -/
def State.sourceReports (x : UpliftState) (s : State) : Prop :=
  s.coord.uplift.map (·.state) = some x
    ∨ ∃ e ∈ s.table.entries, e.distance ≤ s.conf.tag.dUp ∧ e.uplift.map (·.state) = some x

/-- R156: an entry that derates: INJECTING within D_dr, without a conflict. -/
def State.derates (s : State) (e : Entry) : Bool :=
  decide (e.phase = .injecting) && decide (e.distance ≤ s.conf.tag.dDr) && !s.conflicts e

/-- R156, R160, R162, R163: n, the limits and the step limit stand as the table, the own uplift and the profile of the
open stage give them. -/
def State.LimitsFormed (s : State) : Prop :=
  let top := s.profile.top
  let c := s.coord
  c.derateCount = s.table.entries.countP s.derates
    ∧ c.limitDerate = max 1 (top - min c.derateCount 2 * s.conf.tag.kDr)
    ∧ c.limitConnection =
        (if (∃ e ∈ s.table.entries, e.namesOwn = true) ∧ s.profile.action = .reduce then some s.profile.connStep
          else none)
    ∧ (s.sourceReports .stop → c.limitUplift = none)
    ∧ (¬ s.sourceReports .stop → s.sourceReports .alert → c.limitUplift = some s.profile.upliftStep)
    ∧ (¬ s.sourceReports .stop → ¬ s.sourceReports .alert → c.limitUplift = none)
    ∧ c.limit = max 1 (min (min top c.limitDerate) (min (c.limitConnection.getD top) (c.limitUplift.getD top)))

/-- R164: the supply class and the demands of `t` are those of its table for the phase and refusal timer of `s`. -/
def DemandFormed (s t : State) : Prop :=
  (∀ st, s.seq.stage = some st → st.phase = .injecting →
      t.coord.critical = decide (0 < st.refusalTimer)
        ∧ t.coord.published =
            (if 0 < st.refusalTimer then min s.profile.qmax (2 * s.profile.qref) else s.profile.qmax)
        ∧ t.coord.computation = some t.coord.published)
    ∧ (s.phase ≠ .injecting → t.coord.critical = false ∧ t.coord.published = 0
        ∧ t.coord.computation = (if s.phase = .vacant then none else some s.profile.qmax))

/-- The own station as a participant (R165). -/
def State.ownShare (s : State) : Participant :=
  ⟨s.coord.critical, s.coord.computation.getD 0, s.conf.tag.weight, s.own, true⟩

/-- R166: `a` comes no later than `b`: it asks less per unit of weight, or as much with no higher identity. -/
def Participant.NoLater (a b : Participant) : Prop :=
  a.demand * b.weight < b.demand * a.weight
    ∨ a.demand * b.weight = b.demand * a.weight ∧ identityLt b.identity a.identity = false

/-- R166: each participant comes no later than the next. -/
def InShareOrder : List Participant → Prop
  | a :: b :: rest => a.NoLater b ∧ InShareOrder (b :: rest)
  | _ => True

/-- R166, step 3: what the walk leaves of the remainder and of the weight total behind one participant. -/
def Participant.takes (left : Nat × Nat) (p : Participant) : Nat × Nat :=
  (left.1 - min p.demand (left.1 * p.weight / left.2), left.2 - p.weight)

/-! ## Saturation -/

/-- R106: an increment finds a counter at its bound or brings it there: `n` the counter, `part` the remainder with what
this event adds to it, `unit` what makes one whole unit. -/
def findsBound (n part unit : Nat) : Bool := decide (unit ≤ part) && decide (4294967295 ≤ n + part / unit)

/-- R185: an entry after `n` reports without a detail in one event. -/
def FaultEntry.afterReports (n clock : Nat) (e : FaultEntry) : FaultEntry :=
  if n = 0 ∨ e.masked = true then e
  else
    { e with
      count := max e.count (min 255 (e.count + n))
      first := if e.count = 0 then some clock else e.first
      last := some clock
      detail := none }

/-! ## Settings -/

/-- R182, 11.3: TUNE writes the value `v` to the field `f` of the profile, in the field's range, and `q` comes of it. -/
def Profile.TunedTo (p : Profile) (f v : Nat) (q : Profile) : Prop :=
  f = 1 ∧ 100 ≤ v ∧ v ≤ 12000 ∧ q = { p with pmax := v }
    ∨ f = 2 ∧ 1000 ≤ v ∧ v ≤ 1000000 ∧ q = { p with gin := v }
    ∨ f = 3 ∧ 1 ≤ v ∧ v ≤ 60000 ∧ q = { p with vmax := v }
    ∨ f = 4 ∧ 1 ≤ v ∧ v ≤ 8 ∧ q = { p with top := v }
    ∨ f = 5 ∧ 1 ≤ v ∧ v ≤ p.top ∧ q = { p with start := v }
    ∨ f = 6 ∧ v ≤ 2000 ∧ q = { p with qref := v }
    ∨ f = 7 ∧ 60 ≤ v ∧ v ≤ 3600 ∧ q = { p with tref := v }
    ∨ f = 8 ∧ 1 ≤ v ∧ v ≤ 2000 ∧ q = { p with qmax := v }
    ∨ f = 9 ∧ v ≤ 1000 ∧ q = { p with tolp := v }

/-- R182, 11.3: every field lies in its range, the start step is at most T, and p_a ≤ p_b ≤ p_c ≤ Pmax. -/
def Profile.InRange (p : Profile) : Prop :=
  (100 ≤ p.pmax ∧ p.pmax ≤ 12000) ∧ (1000 ≤ p.gin ∧ p.gin ≤ 1000000) ∧ (1 ≤ p.vmax ∧ p.vmax ≤ 60000)
    ∧ (1 ≤ p.top ∧ p.top ≤ 8) ∧ (1 ≤ p.start ∧ p.start ≤ p.top) ∧ p.qref ≤ 2000 ∧ (60 ≤ p.tref ∧ p.tref ≤ 3600)
    ∧ (1 ≤ p.qmax ∧ p.qmax ≤ 2000) ∧ p.tolp ≤ 1000
    ∧ (100 ≤ p.pa ∧ p.pa ≤ p.pb ∧ p.pb ≤ p.pc ∧ p.pc ≤ p.pmax)
    ∧ (1 ≤ p.connStep ∧ p.connStep ≤ 8) ∧ (1 ≤ p.upliftStep ∧ p.upliftStep ≤ 8)

/-! ## Moments of the timebase -/

/-- A second boundary can be taken: raised by an advance whose sample set came first, or by an advance made now (R3; log
entry 4). -/
def State.boundaryOpen (s : State) : Prop :=
  s.time.boundaryDue = true ∨ (9 ≤ s.time.tenths ∧ s.time.sampleDue = false)

/-- The state that the work of a second boundary begins from: its advance made. -/
def State.atNewSecond (s : State) : State := { s with time := s.time.forBoundary }

/-- The phase that the Take Counters find at a second boundary (R104): that after the work which the order puts before
theirs. -/
def State.phaseAtBoundary (ord : BoundaryOrder) (s : State) : Phase :=
  (((boundarySchedule ord.tasks).takeWhile (· ≠ .counters)).foldl
    (fun u task => u.boundaryTask ord.lastSilent task) s.atNewSecond).phase

/-- The state that a part of a sample set finds, and the S that the Take Counters would add (R103): those after the work
which the order puts before it. -/
def State.foundBy (task : SampleTask) (inp : SampleInput) (ord : SampleOrder) (s : State) : State × Nat :=
  let t := (({ s with time := s.time.forSample } : State).judgeInputs inp ord.channels).buildSet
  ((sampleSchedule ord.tasks).takeWhile (· ≠ task)).foldl
    (fun p earlier => State.sampleTask (t.sampleRecord s.meas.nextSeq t.time.clock t.time.tenths) earlier p)
    (t, s.reg.stroke)

/-! ## The reckoning -/

/-- R42: `l` holds the inputs of a reckoning of the sample set `set`, from the sources as they stand in `s`. -/
def LatchedFrom (set : SampleSet) (s : State) (l : Latched) : Prop :=
  l.sampleSeq = set.seq ∧ l.gauge = set.gauge ∧ l.flow = set.flow ∧ l.density = set.density ∧ l.failed = set.failed
    ∧ (∃ st, s.seq.stage = some st ∧ l.stageNumber = st.number ∧ l.phase = st.phase
        ∧ l.top = st.top ∧ l.bottom = st.bottom ∧ l.length = st.length
        ∧ l.mix = st.currentMix ∧ l.friction = (st.currentMix.bind s.conf.tag.mix?).map (·.friction)
        ∧ l.profile = s.profileAt st.profile)
    ∧ l.hg = s.conf.tag.hg ∧ l.incl = s.conf.tag.incl ∧ l.lh = s.conf.tag.lh ∧ l.wv = s.conf.tag.wv
    ∧ l.cWater = s.conf.tag.cWater ∧ l.volume = s.take.live.volume
    ∧ l.e = min s.reg.commanded s.coord.limit ∧ l.ladderE = s.conf.tag.rung l.e
    ∧ l.testPressure = s.seq.test.map (·.pressure) ∧ l.gLim = s.conf.tag.gLim

/-! ## Connection reports -/

/-- R158: of two entries the first comes no later in the list of suspects: it is nearer, or as near with no higher
identity. -/
def NoLater (a b : Entry) : Prop :=
  a.distance < b.distance ∨ a.distance = b.distance ∧ identityLt b.identity a.identity = false

/-- R158: `ids` is the list of suspects that the table gives: of the INJECTING entries within D_cn those that come first,
in their order, cut after the fourth. -/
def State.SuspectsAre (ids : List Identity) (s : State) : Prop :=
  ∃ taken left : List Entry,
    (taken ++ left).Perm (s.table.entries.filter fun e =>
      decide (e.phase = .injecting) && decide (e.distance ≤ s.conf.tag.dCn))
    ∧ ids = taken.map (·.identity) ∧ taken.length ≤ 4 ∧ (taken.length < 4 → left = [])
    ∧ taken.Pairwise NoLater ∧ ∀ a ∈ taken, ∀ b ∈ left, NoLater a b

/-! ## A completion found in INJECTING -/

/-- R91: the base pressure after its step: as it was, or the record's P_eff where there is none and no mix is pending. -/
def State.baseAfter (st : StageRecord) (r : ReckRecord) (s : State) : Option Int :=
  match s.seq.basePressure with
  | some b => some b
  | none => if st.pendingMix = none then some r.pEff else none

/-- R92: with the base pressure so taken, the stage thickens from the current mix `m`. -/
def State.thickensFrom (st : StageRecord) (r : ReckRecord) (m : Nat) (s : State) : Prop :=
  st.currentMix = some m ∧ st.pendingMix = none ∧ st.inhibited = false ∧ m < s.conf.tag.mixes.length
    ∧ st.history.length < 8
    ∧ ∃ (x : Mix) (b : Int) (newest : MixEntry), s.conf.tag.mix? m = some x ∧ s.baseAfter st r = some b
        ∧ st.history.getLast? = some newest ∧ x.allot ≤ newest.volume * 100 / st.length ∧ r.pEff < b + x.rise

/-- R97: the intensity run after its step. -/
def State.runAfter (r : ReckRecord) (s : State) : Nat :=
  if r.intensityReached then min 30 (s.seq.intensityRun + 1) else 0

/-! ## Own uplift -/

/-- R161: the own uplift state after a value, row by row of its table. -/
def upliftRow (t : Tag) (before : UpliftState) (v : Int) : UpliftState :=
  if (before = .stop ∧ (t.uStop : Int) - t.uHys ≤ v) ∨ (before ≠ .stop ∧ (t.uStop : Int) ≤ v) then .stop
  else if before = .normal then (if (t.uAlert : Int) ≤ v then .alert else .normal)
  else if v < (t.uAlert : Int) - t.uHys then .normal
  else .alert

/-! ## The link -/

/-- A new instance: attempt 1 in ACCESS, no number yet, its k drawn from the register after one step (R119, R121). -/
def newInstance (g : Word16) : Outgoing := ⟨false, 1, (generatorStep g).toNat % 8, none, 0, [], 0⟩

/-- Of the panel nothing changes but what the passage of time on its receive wire brings (R170). -/
def PanelTimePasses (s t : State) : Prop := t.panel = s.panel ∨ ∃ d, t.panel = s.panel.pass d

/-- What the passage of link time, with a request that it brings, leaves alone: all but the link and the panel's line,
and of the link the sequence counter, the FIRST count, the mark, the drops, the character on the line and every counter
but the fragments. -/
def LinkTimeFrame (s t : State) : Prop :=
  OnlyChanges [.link, .panel] s t ∧ PanelTimePasses s t
    ∧ t.link.seqCounter = s.link.seqCounter ∧ t.link.firstCount = s.link.firstCount ∧ t.link.urgent = s.link.urgent
    ∧ t.link.drops = s.link.drops ∧ t.link.charOn = s.link.charOn ∧ t.link.cut = s.link.cut
    ∧ t.link.counters = { s.link.counters with fragment := t.link.counters.fragment }

/-- The instance `o` has failed an attempt (R125, R126): the abandoned counter is up by one; below attempt 4 the next
attempt waits with a k of its own range; at attempt 4 the instance is dropped, and the eighth drop in a row raises
LINK_JAM. Of the other blocks only the panel's line, by time passing, and the LINK_JAM entry may differ. -/
def AttemptFails (o : Outgoing) (s t : State) : Prop :=
  t.link.counters.abandoned = satSucc 65535 s.link.counters.abandoned
    ∧ (o.attempt < 4 → ∀ g, s.link.generator = some g →
        t.link.generator = some (generatorStep g)
          ∧ t.link.slot = some
            ⟨false, o.attempt + 1, (generatorStep g).toNat % 2 ^ (o.attempt + 3), o.seq, 0, [], 0⟩
          ∧ t.link.drops = s.link.drops ∧ t.link.counters.dropped = s.link.counters.dropped ∧ t.faults = s.faults)
    ∧ (4 ≤ o.attempt →
        t.link.drops = satSucc 255 s.link.drops
          ∧ t.link.counters.dropped = satSucc 65535 s.link.counters.dropped ∧ t.link.periodic = 0
          ∧ (s.link.urgent = false → t.link.slot = none)
          ∧ (s.link.drops = 7 → t.faults.linkJam.present = true)
          ∧ (s.link.drops = 7 → s.faults.linkJam.present = false → s.faults.linkJam.masked = false →
              t.faults.linkJam.count = satSucc 255 s.faults.linkJam.count)
          ∧ (s.link.drops ≠ 7 → t.faults = s.faults))
    ∧ t.link.seqCounter = s.link.seqCounter ∧ t.link.firstCount = s.link.firstCount ∧ t.link.urgent = s.link.urgent
    ∧ (∀ k, k ≠ .linkJam → t.faults.get k = s.faults.get k)
    ∧ PanelTimePasses s t ∧ OnlyChanges [.link, .panel, .faults] s t

/-- The instance `o` has begun its attempt: SENDING, its number its own or the sequence counter's, the marks and timers of
R120 and R122, and the frame of a bulletin as R123 forms it. Of the other blocks only the panel's line, by time passing,
and the count of free values may differ. -/
def AttemptBegins (o : Outgoing) (s t : State) : Prop :=
  ∃ (o' : Outgoing) (b : Bulletin), t.link.slot = some o'
    ∧ o'.sending = true ∧ o'.attempt = o.attempt ∧ o'.k = o.k ∧ o'.readBack = 0 ∧ o'.frame = b.frame
    ∧ o'.seq = some (o.seq.getD s.link.seqCounter) ∧ b.seq = o.seq.getD s.link.seqCounter
    ∧ t.link.seqCounter = (if o.seq = none then (s.link.seqCounter + 1) % 256 else s.link.seqCounter)
    ∧ t.link.urgent = false ∧ t.link.periodic = 0 ∧ t.link.sinceStart = some 0 ∧ t.link.silence = 0
    ∧ t.link.idle = false ∧ t.link.charOn = true ∧ t.link.cut = false ∧ t.link.receiver = .hunting
    ∧ t.link.sentTime = 0
    ∧ t.link.firstCount = s.link.firstCount ∧ t.link.generator = s.link.generator ∧ t.link.drops = s.link.drops
    ∧ t.link.counters = { s.link.counters with fragment := t.link.counters.fragment }
    ∧ b.identity = s.own ∧ b.cls = s.conf.tag.cls ∧ b.weight = s.conf.tag.weight
    ∧ b.first = decide (0 < s.link.firstCount) ∧ b.phase = s.phase
    ∧ (s.seq.stage = none → b.stage = none)
    ∧ (∀ st, s.seq.stage = some st → ∃ x : StageSection, b.stage = some x ∧ x.top = st.top ∧ x.bottom = st.bottom
        ∧ (s.env.record.stageNumber = some st.number → x.pEff = s.env.record.pEff ∧ x.v = s.env.record.v)
        ∧ (s.env.record.stageNumber ≠ some st.number → x.pEff = 0 ∧ x.v = 0)
        ∧ x.q = s.deliveredNat .flow ∧ x.mix = st.currentMix ∧ x.critical = s.coord.critical
        ∧ x.demand = s.coord.published ∧ x.restraints = st.restraints ∧ x.reached = s.reg.reached)
    ∧ (s.upliftFitted = false → b.uplift = none)
    ∧ (s.upliftFitted = true → ∀ u, s.coord.uplift = some u →
        ∃ w : Uplift, b.uplift = some w ∧ w.state = u.state ∧ w.gaugeFailed = u.gaugeFailed
          ∧ (u.gaugeFailed = false → ∀ v, u.value = some v → w.value = some v))
    ∧ b.suspects = (if s.coord.report then some s.coord.suspects else none)
    ∧ b.frame.length = 12 + (if b.stage.isSome then 16 else 0) + (if b.uplift.isSome then 3 else 0)
        + (match b.suspects with | some l => 1 + 3 * l.length | none => 0)
    ∧ PanelTimePasses s t ∧ OnlyChanges [.link, .panel, .free] s t

/-- The line and the receiver after the last character that the receiver took: a new silence, the receiver hunting
(R115, R127). -/
def Link.afterFrame (l : Link) : Link :=
  { l with charOn := false, cut := false, idle := false, silence := 0, receiver := .hunting }

/-! ## The console -/

/-- The command that a console row puts to the panel port. -/
def consoleCommand : Instr → Option PanelCmd
  | .unknownCode code args => some (parseCommand code args)
  | .status => some .status
  | .openStage top bottom profile test advance => some (.openStage top.toNat bottom.toNat profile test advance)
  | .start => some .start
  | .stepTo n => some (.stepTo n.toNat)
  | .hold => some .hold
  | .release => some .release
  | .stop => some .stop
  | .abort => some .abort
  | .accept => some .accept
  | .read item window index => some (.read item window index)
  | .logRead k => some (.logRead k.toNat)
  | .logTake => some .logTake
  | .snap => some .snap
  | .mix n => some (.mix n.toNat)
  | .tune profile field value => some (.tune profile field value.toNat)
  | .lock => some .lock
  | .auto setting => some (.auto setting)
  | .mask kind setting => some (.mask kind setting)
  | .faultClear => some .faultClear
  | .restart => some .restart
  | _ => none

/-- The panel has nothing in process and the station is configured: an operator command passes the general checks of
R172. -/
def State.takesOperator (s : State) : Prop := s.panelFree ∧ s.working = true

/-- The same at the level ENGINEER (R172). -/
def State.takesEngineer (s : State) : Prop := s.takesOperator ∧ s.engineer = true

/-- The phase frame of a console command: the panel besides changes as `Answered` says. -/
def ConsolePhaseFrame (s t : State) : Prop :=
  PhaseFrame s { t with panel := s.panel } ∧ FieldAndSupplyKept s t

/-! ## Bulletins a station may send (R123, R128) -/

def StageSection.wf (x : StageSection) : Prop :=
  x.bottom ≤ 20000 ∧ x.top ≤ x.bottom ∧ -32768 ≤ x.pEff ∧ x.pEff ≤ 32767 ∧ x.q ≤ 65535 ∧ x.v ≤ 65535
    ∧ (∀ m, x.mix = some m → 1 ≤ m ∧ m ≤ 6) ∧ x.demand ≤ 65535 ∧ x.reached ≤ 8

def Uplift.wf (u : Uplift) : Prop :=
  match u.value with
  | none => u.gaugeFailed = true
  | some v => u.gaugeFailed = false ∧ -32768 ≤ v ∧ v ≤ 32767

/-- Every field of a bulletin lies in the range its encoding gives it. -/
def Bulletin.wf (b : Bulletin) : Prop :=
  b.identity.wf = true ∧ 1 ≤ b.cls ∧ b.cls ≤ 4 ∧ 1 ≤ b.weight ∧ b.weight ≤ 15 ∧ b.seq ≤ 255
    ∧ b.stage.isSome = decide (b.phase ≠ .vacant)
    ∧ (∀ x, b.stage = some x → x.wf) ∧ (∀ u, b.uplift = some u → u.wf)
    ∧ (∀ l, b.suspects = some l → l.length ≤ 4 ∧ ∀ i ∈ l, i.wf = true)

/-- The number that two bytes of a body spell, the first high (12). -/
def wordAt (l : List Byte) (i : Nat) : Nat := 256 * byteAt l i + byteAt l (i + 1)

/-- 12.1: a bit of the flags byte of a body: STAGE 1, UPLIFT 2, CONNECTION 3. -/
def bodyFlag (l : List Byte) (n : Nat) : Bool := (byteAt l 5).testBit n

/-- 12.1: where the uplift section of a body begins, counted from the line byte: behind the header and a stage section. -/
def upliftAt (l : List Byte) : Nat := if bodyFlag l 1 then 7 + 16 else 7

/-- 12.1: where the connection section of a body begins. -/
def connectionAt (l : List Byte) : Nat := if bodyFlag l 2 then upliftAt l + 3 else upliftAt l

/-- R128, R188: the N bytes after the length are meaningful: the header's codes, the STAGE flag as the phase asks, each
section that its flag announces, and a length that is the sum of the parts. -/
def BodyMeaningful (l : List Byte) : Prop :=
  byteAt l 0 ≤ 3 ∧ 1 ≤ byteAt l 3 / 16 ∧ byteAt l 3 / 16 ≤ 4 ∧ byteAt l 3 % 16 ≠ 0 ∧ byteAt l 6 ≤ 6
    ∧ (bodyFlag l 1 = true ↔ byteAt l 6 ≠ 0)
    ∧ (bodyFlag l 1 = true →
        wordAt l 9 ≤ 20000 ∧ wordAt l 7 ≤ wordAt l 9 ∧ byteAt l 17 ≤ 6 ∧ byteAt l 18 ≤ 1 ∧ byteAt l 22 ≤ 8)
    ∧ (bodyFlag l 2 = true → byteAt l (upliftAt l) % 4 ≤ 2)
    ∧ (bodyFlag l 3 = true → byteAt l (connectionAt l) ≤ 4
        ∧ ∀ i < byteAt l (connectionAt l), byteAt l (connectionAt l + 1 + 3 * i) ≤ 3)
    ∧ l.length =
        (if bodyFlag l 3 then connectionAt l + 1 + 3 * byteAt l (connectionAt l) else connectionAt l)

end Sys2Proof.Machine
end

