-- ==== Sys2Proof/Certificates/Slice0/Obligations.lean ====
section
/-! DEFINITION. The statements for the provers, in the order of the spec's chapters: one proposition each, with the rules
of spec/ that it formalises. -/

open Sys2Proof Sys2Proof.Machine

/-- For every command c and state whose queue is c followed by rest, step is exec of c on the state with the queue's rest.
(spec/95_what_each_step_holds.md.) -/
def Obligations.StepRunsFrontOfQueue : Prop :=
  ∀ (c : Instr) (rest : List Instr) (s : State), s.pending = c :: rest →
    step s = exec c { s with pending := rest }

/-- On an empty queue step answers a next state in which only the link, the panel, the fault record and the count of free
values may differ; of the panel the command in process, the slot and the stage log stand, and of the fault record
every kind but LINK_JAM stands. That the idle step is the passage of link and panel time is the model's choice (log
entry 1). (spec/07_the_curtain_link.md, spec/10_panel_port_and_stage_log.md.) -/
def Obligations.IdleStepTouchesLinkAndPanelOnly : Prop :=
  ∀ s : State, s.pending = [] →
    ∃ t, step s = .next t ∧ OnlyChanges [.link, .panel, .faults, .free] s t
      ∧ t.panel.inProcess = s.panel.inProcess ∧ t.panel.slot = s.panel.slot ∧ t.panel.log = s.panel.log
      ∧ ∀ k, k ≠ .linkJam → t.faults.get k = s.faults.get k

/-- For every command and every state, exec answers a next state, never a fault or a refusal, with the same queue of
waiting commands. That no command stops is the model's reading of a spec that gives every row an effect and no stop
(log entry 33, DEDUCED), and so is it that a row whose condition does not stand answers the state as it was (log entry
2, DEDUCED). (spec/95_what_each_step_holds.md, spec/10_panel_port_and_stage_log.md.) -/
def Obligations.CommandsLeaveTheQueue : Prop :=
  ∀ (i : Instr) (s : State), ∃ t, exec i s = .next t ∧ t.pending = s.pending

/-- POWER_ON_RESET answers a next state: station LOADING with no settings in force and the lock clear (R183); clock and
tenths 0; every channel VALID without a cause, delivering 0 (DENSITY 1,000, UPLIFT nothing) with that last good value,
its last code and runs 0; every input deasserted with run 0; the next sample set number 0; no stage record, test, base
pressure, number counter or runs; commanded step 1, reached step 0, runs 0, stroke command 0, valve closed, suction
GROUT; no reckoning, no set waiting or replaced, the reckoning record of R48; the counters, remainders and window
restarted, AUTO on, no copy taken; the pending slot empty, sequence counter 0, FIRST count 3, no mark, drops 0, the
link counters 0, the periodic time held as 0 (R131 says only that it does not count: the 0 is the model's choice, log
entry 9), the line busy with silence 0 and the receiver hunting; an empty table; step limit 8, allowance 0, supply
class NORMAL, published demand 0, runs 0, no uplift state, report, baseline or LISTEN start; conditions absent but
PACKER; the panel hunting with nothing in process, an empty log; the fault record clear and unmasked (R185), the alarm
relay open; the queue stands. (R1, R16, R39, R48, R78, R99, R113, R131, R147, R169, R180, R181.) -/
def Obligations.PowerOnReset : Prop :=
  ∀ s : State, ∃ t, exec .powerOnReset s = .next t
    ∧ t.conf.station = .loading ∧ t.conf.inForce = false ∧ t.conf.lock = false ∧ t.conf.load = none
    ∧ t.time.clock = 0 ∧ t.time.tenths = 0
    ∧ (∀ ch,
        let v : Option Int := match ch with
          | .gauge | .flow | .hole | .header => some 0
          | .density => some 1000
          | .uplift => none
        t.meas.channels.get ch
          = { failed := false, cause := none, lastRaw := 0#12, delivered := v, lastGood := v, lowRun := 0, fullRun := 0
              stuckRun := 0, goodRun := 0, stuckRef := none })
    ∧ (∀ i, t.meas.input i = ⟨false, 0⟩) ∧ t.meas.nextSeq = 0
    ∧ t.seq.stage = none ∧ t.seq.counter = 0 ∧ t.seq.test = none ∧ t.seq.basePressure = none
    ∧ t.seq.confirmRun = 0 ∧ t.seq.intensityRun = 0
    ∧ t.seq.kept = ⟨false, true, false, false, false, false⟩
    ∧ t.reg = ⟨1, 0, 0, 0, 0, false, false⟩ ∧ t.mixRequest = none
    ∧ t.env.inFlight = none ∧ t.env.slot = none ∧ t.env.replaced = 0 ∧ t.env.record = .powerOn
    ∧ t.take.autoCopy = true ∧ t.take.held.time = none ∧ t.take.live = .zero none
    ∧ t.take.remGrout = 0 ∧ t.take.remWater = 0 ∧ t.take.remStroke = 0
    ∧ t.take.window = ⟨0, 0, 0, none, none, true⟩ ∧ t.take.second = ⟨none, none, none, false⟩
    ∧ t.link.slot = none ∧ t.link.seqCounter = 0 ∧ t.link.firstCount = 3 ∧ t.link.urgent = false
    ∧ t.link.periodic = 0 ∧ t.link.sinceStart = none ∧ t.link.drops = 0 ∧ t.link.counters = .zero
    ∧ t.link.silence = 0 ∧ t.link.idle = false ∧ t.link.receiver = .hunting ∧ t.link.generator = none
    ∧ t.table.entries = [] ∧ t.table.duplicate = false ∧ t.table.ownHeard = none
    ∧ t.coord.limit = 8 ∧ t.coord.allowance = 0 ∧ t.coord.critical = false ∧ t.coord.published = 0
    ∧ t.coord.lowRun = 0 ∧ t.coord.highRun = 0 ∧ t.coord.headerRun = 0 ∧ t.coord.uplift = none
    ∧ t.coord.report = false ∧ t.coord.suspects = [] ∧ t.coord.riseRun = 0 ∧ t.coord.quietRun = 0
    ∧ t.coord.baseline = none ∧ t.coord.listenStart = none
    ∧ t.panel.receiver = .hunting ∧ t.panel.inProcess = none ∧ t.panel.slot = none ∧ t.panel.badFrames = 0
    ∧ t.panel.log = []
    ∧ t.faults = .clear ∧ t.relayClosed = false ∧ t.pending = s.pending

/-- For every input and order, where no second boundary is overdue, SAMPLE_SET answers a next state: the tenths go up by
one, from 9 to 0 with the clock (modulo 2^32) and a boundary raised; where the boundary of this advance was taken
first nothing of the time moves (the marks sampleDue and boundaryDue are the model's choice, log entry 4); every
channel and every input is what one sample makes of it, the stuck tests with the S that the set finds (after such a
boundary S as that left it, log entry 36); the latest sample set carries the next sequence number, the
new time, the delivered values, the validity set and the accepted levels; the sequence number goes up modulo 65,536;
SENSOR stands presented exactly while GAUGE or FLOW is FAILED and PACKER while SEAL is deasserted; on a working station
with the gauge fitted the own uplift is ALERT without a value and with the gauge-failed flag while UPLIFT is FAILED,
else the delivered value with the flag clear and the state that R161's table gives from the state before, and a change
of state marks an urgent request, while on any other station it stands; the commanded and reached steps, the number
counter and what OPEN fixed stand; settings, table, panel, queue and free values stand. (R1, R2, R3, R13, R14,
R161.) -/
def Obligations.SampleSetAdvancesAndJudges : Prop :=
  ∀ (inp : SampleInput) (ord : SampleOrder) (s : State), s.time.boundaryDue = false →
    ∃ t, exec (.sampleSet inp ord) s = .next t
      ∧ t.time =
        (if s.time.sampleDue then ⟨s.time.clock, s.time.tenths, false, false⟩
          else if s.time.tenths < 9 then ⟨s.time.clock, s.time.tenths + 1, false, false⟩
          else ⟨(s.time.clock + 1) % 4294967296, 0, false, true⟩)
      ∧ (∀ ch, t.meas.channels.get ch = s.channelAfter ch (inp.codes.get ch))
      ∧ t.meas.sealIn = s.meas.sealIn.sample .sealIn inp.sealIn
      ∧ t.meas.leakIn = s.meas.leakIn.sample .leakIn inp.leakIn
      ∧ t.meas.keyIn = s.meas.keyIn.sample .keyIn inp.keyIn
      ∧ t.meas.latest = some
          { seq := s.meas.nextSeq, clock := t.time.clock, tenths := t.time.tenths
            gauge := t.deliveredNat .gauge, flow := t.deliveredNat .flow, density := t.deliveredNat .density
            hole := t.deliveredNat .hole, header := t.deliveredNat .header
            uplift := t.meas.channels.uplift.delivered
            failed := ⟨t.failed .gauge, t.failed .flow, t.failed .density, t.failed .hole, t.failed .header,
              t.failed .uplift⟩
            sealIn := t.meas.sealIn.accepted, leakIn := t.meas.leakIn.accepted, keyIn := t.meas.keyIn.accepted }
      ∧ t.meas.nextSeq = (s.meas.nextSeq + 1) % 65536
      ∧ t.seq.kept.sensor = (t.failed .gauge || t.failed .flow) ∧ t.seq.kept.packer = !t.meas.sealIn.accepted
      ∧ (∀ u, s.working = true → s.upliftFitted = true → s.coord.uplift = some u →
          (t.failed .uplift = true → t.coord.uplift = some ⟨.alert, none, true⟩)
          ∧ (∀ v, t.failed .uplift = false → t.meas.channels.uplift.delivered = some v →
              t.coord.uplift = some ⟨upliftRow s.conf.tag u.state v, some v, false⟩)
          ∧ (t.coord.uplift.map (·.state) ≠ some u.state → t.link.urgent = true))
      ∧ ((s.working = false ∨ s.upliftFitted = false) → t.coord.uplift = s.coord.uplift)
      ∧ t.reg.commanded = s.reg.commanded ∧ t.reg.reached = s.reg.reached ∧ t.seq.counter = s.seq.counter
      ∧ t.seq.stage.map (·.asOpened) = s.seq.stage.map (·.asOpened)
      ∧ OnlyChanges [.time, .meas, .seq, .env, .reg, .take, .link, .coord, .faults] s t

/-- For every channel and code: from 819 the value is the channel's zero plus floor((code - 819) x span / 3,276), from 700
to 818 it is the zero, below 700 there is none; the zeros and spans are those of R4's table. (R4.) -/
def Obligations.ConversionOfCodes : Prop :=
  ∀ (ch : Channel) (code : RawCode),
    let z : Int := match ch with
      | .gauge | .flow | .hole | .header => 0
      | .density => 1000
      | .uplift => -500
    let span : Int := match ch with
      | .gauge | .hole => 12000
      | .flow | .header => 2000
      | .density => 1200
      | .uplift => 4000
    convert ch code =
      (if code.toNat < 700 then none
        else if code.toNat < 819 then some z
        else some (z + ((code.toNat : Int) - 819) * span / 3276))

/-- For every channel state that is VALID and whose sample completes no test: a good code (700 to 4,094) is delivered as
its conversion, which becomes the last good value; the full code is delivered as its conversion with the last good
value unchanged; a low code delivers the last good value, unchanged. (R5.) -/
def Obligations.DeliveredWhileValid : Prop :=
  ∀ (ch : Channel) (code : RawCode) (stroke : Nat) (cond : Option Int → Option Int) (c : ChannelState),
    c.failed = false → (c.sample ch code stroke cond).failed = false →
      (700 ≤ code.toNat → code.toNat ≤ 4094 →
        (c.sample ch code stroke cond).delivered = convert ch code
          ∧ (c.sample ch code stroke cond).lastGood = convert ch code)
      ∧ (code.toNat = 4095 →
        (c.sample ch code stroke cond).delivered = convert ch code
          ∧ (c.sample ch code stroke cond).lastGood = c.lastGood)
      ∧ (code.toNat < 700 →
        (c.sample ch code stroke cond).delivered = c.lastGood
          ∧ (c.sample ch code stroke cond).lastGood = c.lastGood)

/-- For every VALID channel (UPLIFT only while fitted), a third low code in a row, a tenth full code in a row, or a 600th
equal good code of GAUGE or FLOW under a running pump makes CHANNEL_FAIL answer a next state in which the channel is
FAILED with that cause, all runs 0, delivering the conditioning value of its last good value; SENSOR is present and,
unmasked, counted with the channel as detail and the clock as last-seen time; SENSOR and PACKER stand presented as the
channels and SEAL are; every other channel, the clock, the settings, the panel, the table, the counters, the reckoning
and the queue stand. (R6, R7, R8, R9, R14.) -/
def Obligations.CompletedTestFailsChannel : Prop :=
  ∀ (ch : Channel) (code : RawCode) (s : State) (cause : FailCause),
    s.failed ch = false → (ch = .uplift → s.upliftFitted = true) →
    (cause = .openLoop ∧ code.toNat < 700 ∧ (s.meas.channels.get ch).lowRun = 2
      ∨ cause = .overRange ∧ code.toNat = 4095 ∧ (s.meas.channels.get ch).fullRun = 9
      ∨ cause = .stuck ∧ 700 ≤ code.toNat ∧ code.toNat ≤ 4094 ∧ (ch = .gauge ∨ ch = .flow) ∧ 0 < s.reg.stroke
        ∧ (s.meas.channels.get ch).stuckRun = 599 ∧ (s.meas.channels.get ch).stuckRef = some code) →
    ∃ t c, exec (.channelFail ch code) s = .next t ∧ t.meas.channels.get ch = c
      ∧ c.failed = true ∧ c.cause = some cause ∧ c.lowRun = 0 ∧ c.fullRun = 0 ∧ c.stuckRun = 0 ∧ c.goodRun = 0
      ∧ c.delivered = s.conditioning ch c.lastGood
      ∧ (∀ o, o ≠ ch → t.meas.channels.get o = s.meas.channels.get o)
      ∧ t.faults.sensor.present = true
      ∧ (s.faults.sensor.masked = false →
        t.faults.sensor.count = satSucc 255 s.faults.sensor.count
          ∧ t.faults.sensor.detail = some (.channel ch) ∧ t.faults.sensor.last = some s.time.clock)
      ∧ (∀ k, k ≠ .sensor → t.faults.get k = s.faults.get k)
      ∧ t.seq.kept.sensor = (t.failed .gauge || t.failed .flow)
      ∧ t.seq.kept.packer = !t.meas.sealIn.accepted
      ∧ t.seq.kept.supply = s.seq.kept.supply
      ∧ PhaseFrame { s with meas := t.meas, faults := t.faults } t

/-- For every FAILED channel (UPLIFT only while fitted) with a good run of 19, a good code, other than the stuck reference
code when the cause is STUCK, makes CHANNEL_RECOVER answer a next state in which the channel is VALID, its cause
absent, its runs 0 (the good run too, by log entry 35), and its delivered and last good values the conversion of the
code; SENSOR and PACKER stand presented as the channels and SEAL are; every other channel and every block away from
the measurement, the phase and the fault record stand. (R8, R10, R14.) -/
def Obligations.TwentiethGoodSampleRecovers : Prop :=
  ∀ (ch : Channel) (code : RawCode) (s : State),
    s.failed ch = true → (ch = .uplift → s.upliftFitted = true) → (s.meas.channels.get ch).goodRun = 19 →
    700 ≤ code.toNat → code.toNat ≤ 4094 →
    ((s.meas.channels.get ch).cause = some .stuck → (s.meas.channels.get ch).stuckRef ≠ some code) →
    ∃ t c, exec (.channelRecover ch code) s = .next t ∧ t.meas.channels.get ch = c
      ∧ c.failed = false ∧ c.cause = none ∧ c.lowRun = 0 ∧ c.fullRun = 0 ∧ c.stuckRun = 0 ∧ c.goodRun = 0
      ∧ c.delivered = convert ch code ∧ c.lastGood = convert ch code
      ∧ (∀ o, o ≠ ch → t.meas.channels.get o = s.meas.channels.get o)
      ∧ t.faults.sensor.present = t.meas.anyFailed
      ∧ t.seq.kept.sensor = (t.failed .gauge || t.failed .flow)
      ∧ t.seq.kept.packer = !t.meas.sealIn.accepted
      ∧ t.seq.kept.supply = s.seq.kept.supply
      ∧ t.faults = { s.faults with sensor := { s.faults.sensor with present := t.meas.anyFailed } }
      ∧ PhaseFrame { s with meas := t.meas, faults := t.faults } t

/-- For every input whose run stands one short of its length (SEAL and KEY 5, LEAK 10), a contact level that differs from
the accepted one makes INPUT_DEBOUNCE_ACCEPT answer a next state with that level accepted and the run 0; the other two
inputs and all channels stand; SENSOR and PACKER stand presented; the level of the panel follows KEY. (R12, R14.) -/
def Obligations.DebouncedInputIsAccepted : Prop :=
  ∀ (i : Input) (level : Bool) (s : State),
    (s.meas.input i).accepted ≠ level →
    (s.meas.input i).run + 1 = (match i with | .leakIn => 10 | .sealIn => 5 | .keyIn => 5) →
    ∃ t, exec (.inputDebounceAccept i level) s = .next t
      ∧ t.meas.input i = ⟨level, 0⟩
      ∧ (∀ j, j ≠ i → t.meas.input j = s.meas.input j)
      ∧ t.meas.channels = s.meas.channels
      ∧ t.seq.kept.sensor = (t.failed .gauge || t.failed .flow)
      ∧ t.seq.kept.packer = !t.meas.sealIn.accepted
      ∧ (i = .keyIn → t.engineer = level)
      ∧ t.seq.kept.supply = s.seq.kept.supply
      ∧ PhaseFrame { s with meas := t.meas } t

/-- At a sample set (no boundary overdue) that finds TESTING or INJECTING with settings in force, a GAUGE that the sample
leaves VALID and a delivered value at or above G_trip, and in no other case, OVERPRESSURE is reported: then S is 0,
the valve closed, TRIP in the set, the phase WAITING with the test abandoned (from TESTING) or HOLDING (from
INJECTING), and OVERPRESSURE, unmasked, has GAUGE as detail and the clock as last-seen time; else the OVERPRESSURE
entry stands. That the trip is judged before SENSOR, PACKER and the other parts of the same sample set, on which "in no
other case" rests, is the model's reading (log entry 5, DEDUCED). (R15, R23, R26, R27, R187.) -/
def Obligations.OverpressureTrips : Prop :=
  ∀ (inp : SampleInput) (ord : SampleOrder) (s : State), s.time.boundaryDue = false →
    ∃ t, exec (.sampleSet inp ord) s = .next t
      ∧ (if s.phase.pumping = true ∧ s.conf.inForce = true ∧ t.failed .gauge = false
            ∧ s.conf.tag.gTrip ≤ t.deliveredNat .gauge then
          t.reg.stroke = 0 ∧ t.reg.valveOpen = false ∧ t.restraints.trip = true
            ∧ (s.phase = .testing → t.phase = .waiting ∧ t.seq.stage.map (·.results) = some .abandoned)
            ∧ (s.phase = .injecting → t.phase = .holding)
            ∧ (s.faults.overpressure.masked = false →
              t.faults.overpressure.detail = some (.channel .gauge)
                ∧ t.faults.overpressure.last = some t.time.clock)
            ∧ t.relayClosed = true
        else t.faults.overpressure = s.faults.overpressure)

/-- At a sample set with no boundary overdue: in VACANT the Envelope Unit is untouched; with a stage open and a reckoning
in flight the set enters or replaces the waiting slot, a replaced one counted, saturating; with a stage open and none
in flight it begins a reckoning that latches every input of R42 as the Envelope Unit finds it: of the set its sequence
number, GAUGE, FLOW, DENSITY and validity set, the stage's number, phase, bounds and length, the tag's geometry and
G_lim, the current mix with its friction, V with the set's own increments, the stage's profile, the effective step with
its rung, and the test pressure. Where the order names the Envelope Unit first it finds the phase, mix, steps and test
as they stood before the set. (The order of the parts is log entry 3.) (R41, R42, R43.) -/
def Obligations.SampleSetBeginsOrWaits : Prop :=
  ∀ (inp : SampleInput) (ord : SampleOrder) (s : State), s.time.boundaryDue = false →
    ∃ t, exec (.sampleSet inp ord) s = .next t
      ∧ (s.phase = .vacant → t.env = s.env)
      ∧ (s.phase ≠ .vacant → ∀ l, s.env.inFlight = some l →
          t.env = { s.env with
            slot := t.meas.latest
            replaced := if s.env.slot.isSome then satSucc 65535 s.env.replaced else s.env.replaced })
      ∧ (s.phase ≠ .vacant → s.env.inFlight = none →
          let u := (s.foundBy .envelope inp ord).1
          ∃ l set, t.env = { s.env with inFlight := some l } ∧ t.meas.latest = some set ∧ LatchedFrom set u l
            ∧ l.sampleSeq = s.meas.nextSeq ∧ l.gauge = t.deliveredNat .gauge ∧ l.flow = t.deliveredNat .flow
            ∧ l.density = t.deliveredNat .density ∧ (∀ ch, l.failed.get ch = t.failed ch)
            ∧ l.volume = t.take.live.volume ∧ l.e = u.effective
            ∧ (∀ st, s.seq.stage = some st →
                l.stageNumber = st.number ∧ l.top = st.top ∧ l.bottom = st.bottom ∧ l.length = st.length
                  ∧ l.profile = s.profileAt st.profile
                  ∧ (ord.tasks.head? = some .envelope → l.phase = st.phase ∧ l.mix = st.currentMix))
            ∧ l.hg = s.conf.tag.hg ∧ l.incl = s.conf.tag.incl ∧ l.lh = s.conf.tag.lh ∧ l.wv = s.conf.tag.wv
            ∧ l.cWater = s.conf.tag.cWater ∧ l.gLim = s.conf.tag.gLim
            ∧ (ord.tasks.head? = some .envelope →
                l.e = s.effective ∧ l.testPressure = s.seq.test.map (·.pressure)))

/-- RECKONING_COMPLETION with a reckoning in flight answers a next state: where the stage latched is still open the
record is replaced whole by the new one and, when the slot held a set, that set is in flight and the slot empty, its
inputs latched as the blocks' work on the completion leaves them (R43 says only that they are latched at that moment:
that the next reckoning begins last is the model's reading, log entry 21), else nothing is in flight; where it is not,
the record stands. With nothing in flight nothing changes. At a stored completion of a record the second window gathers
the latched flow and P_eff, whatever the order of the blocks. The block that the order names first finds the stage as
it was: the Take Counters raise peak P_eff in TESTING and INJECTING alone; the Regulator takes the reached step to e at
the third agreement from below or the first from above, with an urgent request, and, where the phase stays, moves S by
the change of R71 (the gauge error times K over 1,024, rounded toward zero, within the slews) between 0 and the cap of
R72; the Sequencer counts one reckoning of a test step that does not end; the Coordination Unit forms the allowance.
The clock, the channels, the table, the settings, the fault record and the queue stand in every case. (R43, R44, R45,
R66, R67, R70, R71, R72, R81, R105, R107, R165.) -/
def Obligations.CompletionStoresOrDiscards : Prop :=
  ∀ (ord : List CompletionTask) (s : State),
    ∃ t, exec (.reckoningCompletion ord) s = .next t
      ∧ (s.env.inFlight = none → t = s)
      ∧ (∀ l, s.env.inFlight = some l → s.seq.stage.map (·.number) ≠ some l.stageNumber →
          t.env.record = s.env.record ∧ OnlyChanges [.env, .panel, .free] s t)
      ∧ (∀ l, s.env.inFlight = some l → s.seq.stage.map (·.number) = some l.stageNumber →
          let r := l.record s.env.replaced
          let rung := (s.conf.tag.rung s.effective : Int)
          let change := max (-(s.conf.tag.slewDn : Int)) (min (s.conf.tag.slewUp : Int)
            ((((r.gSet : Int) - (s.deliveredNat .gauge : Int)) * (s.conf.tag.gain : Int)).tdiv 1024))
          let moved := ((s.reg.stroke : Int) + change).toNat
          (t.env.record = r ∧ t.env.replaced = s.env.replaced
            ∧ t.env.slot = none ∧ t.env.inFlight.map (·.sampleSeq) = s.env.slot.map (·.seq))
          ∧ (∀ set, s.env.slot = some set → t.seq.stage.isSome = true →
              ∃ next, t.env.inFlight = some next ∧ LatchedFrom set t next)
          ∧ t.take.window = { s.take.window with
              flowSum := s.take.window.flowSum + l.flow, pressSum := s.take.window.pressSum + r.pEff
              count := s.take.window.count + 1 }
          ∧ (ord.head? = some .counters →
              t.take.live.peakP = (if s.phase = .testing ∨ s.phase = .injecting then
                some (match s.take.live.peakP with | some m => max m r.pEff | none => r.pEff)
              else s.take.live.peakP))
          ∧ (ord.head? = some .regulator → s.phase = .injecting →
              (s.reg.reached < s.effective →
                t.reg.reached = (if rung - s.profile.tolp ≤ r.pEff ∧ 2 ≤ s.reg.arrivalRun then s.effective
                  else s.reg.reached))
              ∧ (s.effective < s.reg.reached →
                t.reg.reached = (if r.pEff ≤ rung + s.profile.tolp then s.effective else s.reg.reached))
              ∧ (s.reg.reached = s.effective → t.reg.reached = s.reg.reached)
              ∧ (t.reg.reached ≠ s.reg.reached → s.working = true → t.link.urgent = true)
              ∧ (t.phase = .injecting → t.reg.stroke = min t.injectingCap (min s.injectingCap moved)))
          ∧ (ord.head? = some .regulator → s.phase = .testing → t.phase = .testing →
              t.reg.stroke = min s.conf.tag.sMax moved)
          ∧ (∀ x, ord.head? = some .sequencer → s.phase = .testing → t.phase = .testing → s.seq.test = some x →
              x.count + 1 < 10 * s.conf.tag.tTest →
              t.seq.test = some (if 5 * s.conf.tag.tTest < x.count + 1 then
                  { x with count := x.count + 1, flowSum := x.flowSum + l.flow, pressSum := x.pressSum + r.pEff
                           half := x.half + 1 }
                else { x with count := x.count + 1 }))
          ∧ (ord.head? = some .supply → s.working = true → s.phase ≠ .vacant →
              t.coord.allowance = s.formDemand.allowanceNow))
      ∧ OnlyChanges [.env, .seq, .reg, .take, .link, .coord, .panel, .free] s t

/-- A READ RECKONING in the LIVE window taken while a reckoning is in flight is held without a response;
RECKONING_COMPLETION then answers it OK with the live header and the reckoning record as the completion leaves it.
(R46.) -/
def Obligations.HeldReadIsAnsweredAtCompletion : Prop :=
  (∀ (index : Byte) (s : State), s.panelFree → s.working = true → s.env.inFlight.isSome = true →
    ∃ t, exec (.read 2#8 0#8 index) s = .next t
      ∧ t.panel = { s.panel with inProcess := some ⟨.read 2#8 0#8 index, none⟩ } ∧ OnlyChanges [.panel] s t)
  ∧ (∀ (index : Byte) (ord : List CompletionTask) (s : State), s.env.inFlight.isSome = true →
    s.panel.inProcess = some ⟨.read 2#8 0#8 index, none⟩ →
    ∃ t, exec (.reckoningCompletion ord) s = .next t
      ∧ t.panel = { s.panel with
          inProcess := some ⟨.read 2#8 0#8 index,
            some ⟨0x0A#8, .ok, [0#8, 0#8, 0#8, 0#8, 0#8, 0#8, 0#8] ++ t.env.record.bytes⟩⟩ })

/-- For every latched reckoning: the depths mv and hv of the midpoint are floored as R49 forms them; rho is 1,000 in
TESTING and else the density within 1,000 to 2,200; c_f is the mix's coefficient outside TESTING where there is one,
else that of water. P_head is the nearest whole number to rho x hv x 981 / 10,000,000, P_water to (mv - wv) x 981 /
10,000 below the water table and 0 above it, an exact half going upward; P_fric is the nearest whole number to c_f x
q^2 x (Lh + top) / 1,000,000,000, at most 5,000. I is the floor of P_eff, or 0 below 0, times v over 10. The record
that the reckoning stores holds these, with the five flags as R60 forms them, and the sets replaced. (R49, R50, R51,
R52, R53, R56, R60, R61.) -/
def Obligations.PressuresOfAReckoning : Prop :=
  ∀ l : Latched,
    (l.mv = (l.top + l.bottom) / 2 * l.incl / 1000 ∧ l.hv = l.hg + l.mv)
    ∧ l.rho = (if l.phase = .testing then 1000 else max 1000 (min 2200 l.density))
    ∧ ((l.phase = .testing ∨ l.friction = none) → l.cf = l.cWater)
    ∧ (∀ f, l.phase ≠ .testing → l.friction = some f → l.cf = f)
    ∧ (2 * (l.rho * l.hv * 981) < 10000000 * (2 * l.pHead + 1)
      ∧ 10000000 * (2 * l.pHead) ≤ 2 * (l.rho * l.hv * 981) + 10000000)
    ∧ (l.mv ≤ l.wv → l.pWater = 0)
    ∧ (l.wv < l.mv → 2 * ((l.mv - l.wv) * 981) < 10000 * (2 * l.pWater + 1)
      ∧ 10000 * (2 * l.pWater) ≤ 2 * ((l.mv - l.wv) * 981) + 10000)
    ∧ l.pFric ≤ 5000
    ∧ (l.pFric < 5000 → 2 * (l.cf * (l.flow * l.flow) * (l.lh + l.top)) < 1000000000 * (2 * l.pFric + 1))
    ∧ 1000000000 * (2 * l.pFric) ≤ 2 * (l.cf * (l.flow * l.flow) * (l.lh + l.top)) + 1000000000
    ∧ (l.pEff ≤ 0 → l.intensity = 0)
    ∧ (0 ≤ l.pEff → 10 * (l.intensity : Int) ≤ l.pEff * l.take ∧ l.pEff * l.take < 10 * ((l.intensity : Int) + 1))
    ∧ ∀ n,
      let r := l.record n
      r.stageNumber = some l.stageNumber ∧ r.sampleSeq = l.sampleSeq ∧ r.phase = l.phase ∧ r.e = l.e
        ∧ r.pHead = l.pHead ∧ r.pFric = l.pFric ∧ r.pWater = l.pWater ∧ r.pEff = l.pEff ∧ r.v = l.take
        ∧ r.i = l.intensity ∧ r.pEnv = l.pEnv ∧ r.pTgt = l.pTgt ∧ r.gSet = l.gSet ∧ r.replaced = n
        ∧ (r.volumeReached = true ↔ l.profile.vmax ≤ r.v) ∧ (r.intensityReached = true ↔ l.profile.gin ≤ r.i)
        ∧ (r.refusalPressureOk = true ↔ (r.pTgt : Int) - l.profile.tolp ≤ r.pEff)
        ∧ (r.refusalFlowOk = true ↔ l.flow ≤ l.profile.qref)
        ∧ (r.binding = true ↔ r.e = l.profile.top ∨ r.pEnv < l.ladderE)

/-- For every latched reckoning: P_eff is GAUGE and the head less the friction and the groundwater, within -2,000 to
16,000; v is V x 100 over the length, floored, at most 65,535; P_env is Pmax where v is 0 and else the lesser of Pmax
and GIN x 10 over v, floored, so that P_env x v is at most 10 x GIN; P_tgt is the lesser of the ladder entry and P_env
in WAITING, INJECTING and HOLDING, of the test pressure and Pmax in TESTING, and 0 in PACKED and CLOSED, never above
Pmax; G_set is P_tgt less the head plus the losses, within 0 to G_lim. (R54, R55, R57, R58, R59.) -/
def Obligations.EnvelopeRespectsGin : Prop :=
  ∀ l : Latched,
    (-2000 ≤ l.pEff ∧ l.pEff ≤ 16000
      ∧ l.pEff = max (-2000) (min 16000 ((l.gauge : Int) + l.pHead - l.pFric - l.pWater)))
    ∧ l.take = min 65535 (l.volume * 100 / l.length)
    ∧ l.pEnv ≤ l.profile.pmax ∧ (0 < l.take → l.pEnv * l.take ≤ 10 * l.profile.gin)
    ∧ (l.take = 0 → l.pEnv = l.profile.pmax)
    ∧ (0 < l.take → l.pEnv = min l.profile.pmax (l.profile.gin * 10 / l.take))
    ∧ l.pTgt ≤ l.profile.pmax
    ∧ (l.phase = .waiting ∨ l.phase = .injecting ∨ l.phase = .holding → l.pTgt = min l.ladderE l.pEnv)
    ∧ (∀ p, l.phase = .testing → l.testPressure = some p → l.pTgt = min p l.profile.pmax)
    ∧ (l.phase = .packed ∨ l.phase = .closed → l.pTgt = 0)
    ∧ l.gSet ≤ l.gLim
    ∧ (l.gSet : Int) = max 0 (min (l.gLim : Int) ((l.pTgt : Int) - l.pHead + l.pFric + l.pWater))

/-- With a reckoning in flight for the open stage and INJECTING: where r is below e, P_eff at or above L[e] - tol_p and
the arrival run 2, REACHED_STEP_ARRIVAL answers a next state with r equal to e and the run 0, an urgent request marked
while the station works, and nothing else changed but the link; where auto-advance is on, r = c = e, c below T, the
latched flow at or below q_adv and the advance count one short of 10 x t_adv, AUTO_ADVANCE answers a next state with c
one higher and the count 0; where the step limit lets e rise the arrival run and the refusal timer are 0, else both
stand; nothing else changes. (R65, R66, R68, R96.) -/
def Obligations.StepsClimbAtCompletions : Prop :=
  (∀ (s : State) (l : Latched) (r : ReckRecord), s.completing = some (l, r) → s.phase = .injecting →
    s.reg.reached < s.effective → (s.conf.tag.rung s.effective : Int) - s.profile.tolp ≤ r.pEff →
    s.reg.arrivalRun = 2 →
    ∃ t, exec .reachedStepArrival s = .next t
      ∧ t.reg = { s.reg with reached := s.effective, arrivalRun := 0 }
      ∧ (s.working = true → t.link.urgent = true) ∧ t.link.counters = s.link.counters ∧ OnlyChanges [.reg, .link] s t)
  ∧ (∀ (s : State) (l : Latched) (r : ReckRecord) (st : StageRecord), s.completing = some (l, r) →
    s.seq.stage = some st → st.phase = .injecting → st.autoAdvance = true →
    s.reg.reached = s.reg.commanded → s.reg.commanded = s.effective → s.reg.commanded < s.profile.top →
    l.flow ≤ s.conf.tag.qAdv → s.reg.advanceCount + 1 = 10 * s.conf.tag.tAdv →
    ∃ t, exec .autoAdvance s = .next t
      ∧ (if s.reg.commanded < s.coord.limit then
          t.reg = { s.reg with commanded := s.reg.commanded + 1, advanceCount := 0, arrivalRun := 0 }
            ∧ t.seq = { s.seq with stage := some { st with refusalTimer := 0 } }
        else t.reg = { s.reg with commanded := s.reg.commanded + 1, advanceCount := 0 } ∧ t.seq = s.seq)
      ∧ OnlyChanges [.reg, .seq] s t)

/-- With a reckoning in flight for the open stage, TESTING and a step count one short of 10 x t_test, TEST_STEP_END
answers a next state: the step record is the floored mean flow and mean P_eff of the second half with this completion
in it and the Lugeon value; below step 5 the next step begins at its pressure with counts and sums 0 and the record
appended; at step 5 the test state is absent, the results are the records with this one, the suction is GROUT and S 0.
On a working station the phase is then WAITING, the valve closed and the baseline captured, with exactly the conditions
that stand, where a condition was kept and one stands (SENSOR, PACKER or SUPPLY kept, or STANDOFF, CONNECTION or UPLIFT
by its causes as the evaluation that WAITING raises finds them, log entry 7); and INJECTING through WAITING where none
was kept or none of those stands, and none holds the INJECTING stage: the set empty, the valve open, start and current
mix those of the step 3 record by R85, that mix pending with its history entry, injection-began-at the clock.
(R25, R81, R82, R83, R85, R149.) -/
def Obligations.TestStepEndFormsRecord : Prop :=
  ∀ (s : State) (l : Latched) (r : ReckRecord) (st : StageRecord) (x : TestState), s.completing = some (l, r) →
    s.seq.stage = some st → st.phase = .testing → s.seq.test = some x → x.count + 1 = 10 * s.conf.tag.tTest →
    let meanQ := (x.flowSum + l.flow) / (x.half + 1)
    let meanP := (x.pressSum + r.pEff) / ((x.half : Int) + 1)
    let done : StepRecord :=
      ⟨meanQ, meanP, if 0 < meanP then some (min 9999 (meanQ * 100000 / (st.length * meanP.toNat))) else none⟩
    ∃ t, exec .testStepEnd s = .next t
      ∧ (x.step < 5 →
          t.seq.test = some ⟨x.step + 1, 0, (s.profileAt st.profile).testPressure (x.step + 1), 0, 0, 0,
            x.records ++ [done]⟩ ∧ OnlyChanges [.seq] s t ∧ t.seq.stage = s.seq.stage)
      ∧ (5 ≤ x.step →
          t.seq.test = none ∧ t.seq.stage.map (·.results) = some (.complete (x.records ++ [done]))
            ∧ t.phase ≠ .testing ∧ t.reg.suctionWater = false ∧ t.reg.stroke = 0
            ∧ FieldAndSupplyKept s t ∧ PhaseFrame s t)
      ∧ (5 ≤ x.step → s.working = true →
          let kept := s.seq.kept
          let found (p : Phase) : State := s.modStage fun u => { u with phase := p }
          let standoff := (found .waiting).standoffCauses.any
          let connection := (found .waiting).connectionCondition
          let stands := kept.sensor = true ∨ kept.packer = true ∨ kept.supply = true ∨ standoff = true
            ∨ connection = true ∨ s.upliftCondition = true
          (kept.any = true → stands →
            ∃ st', t.seq.stage = some st' ∧ st'.phase = .waiting
              ∧ st'.restraints = ⟨false, false, kept.sensor, kept.packer, standoff, connection, s.upliftCondition,
                  kept.supply⟩
              ∧ t.seq.kept = ⟨kept.sensor, kept.packer, standoff, connection, s.upliftCondition, kept.supply⟩
              ∧ t.reg.valveOpen = false ∧ t.coord.baseline = some (s.deliveredNat .hole) ∧ t.link.urgent = true)
          ∧ ((kept.any = false ∨ ¬ stands) → (found .injecting).standoffCauses.any = false →
            (found .injecting).connectionCondition = false → s.upliftCondition = false →
            ∃ st' m, t.seq.stage = some st' ∧ st'.phase = .injecting ∧ st'.restraints = .none
              ∧ m = startMixOf s.conf.tag (.complete (x.records ++ [done]))
              ∧ st'.startMix = some m ∧ st'.currentMix = some m ∧ st'.pendingMix = some ⟨m, s.stageSecond, 0⟩
              ∧ st'.history = st.history ++ [⟨m, 0, s.stageSecond, false⟩] ∧ st'.injectionAt = some s.time.clock
              ∧ t.seq.basePressure = none ∧ t.seq.confirmRun = 0 ∧ t.reg.valveOpen = true ∧ t.mixRequest = some m
              ∧ t.link.urgent = true))

/-- For every tag with at least one mix and a default start mix from 1 to M, the start mix chosen from any test results
lies from 1 to M; with five records whose third has a Lugeon value it is min(M, 1 + N), N the thresholds at or below
it. (R85.) -/
def Obligations.StartMixWithinTable : Prop :=
  ∀ (t : Tag) (results : TestResults), 1 ≤ t.mixes.length → 1 ≤ t.defaultMix → t.defaultMix ≤ t.mixes.length →
    1 ≤ startMixOf t results ∧ startMixOf t results ≤ t.mixes.length
      ∧ (∀ a b c d e x, results = .complete [a, b, c, d, e] → c.lugeon = some x →
          startMixOf t results = min t.mixes.length (1 + (t.thresholds.filter fun th => decide (th ≤ x)).length))

/-- INJECTING with a mix pending that the table holds, DENSITY VALID and within tol_rho of its nominal density, bounds
included, and a run of 9, MIX_CONFIRM answers a next state: current mix the pending one, no mix pending, the newest
history entry confirmed and the others as they were, run 0, base pressure absent, the agitator asked for that mix; a
change of index marks an urgent request while the station works; only the Sequencer and the link change. (R76, R88,
R89.) -/
def Obligations.MixConfirmMakesCurrent : Prop :=
  ∀ (s : State) (st : StageRecord) (p : MixPending) (x : Mix) (older : List MixEntry) (newest : MixEntry),
    s.seq.stage = some st → st.phase = .injecting → st.pendingMix = some p → s.conf.tag.mix? p.mix = some x →
    st.history = older ++ [newest] →
    s.failed .density = false → s.deliveredNat .density ≤ x.density + s.conf.tag.tolRho →
    x.density ≤ s.deliveredNat .density + s.conf.tag.tolRho → s.seq.confirmRun = 9 →
    ∃ t, exec .mixConfirm s = .next t
      ∧ t.seq = { s.seq with
          stage := some { st with
            currentMix := some p.mix, pendingMix := none, history := older ++ [{ newest with confirmed := true }] }
          confirmRun := 0, basePressure := none }
      ∧ t.mixRequest = some p.mix
      ∧ (s.working = true → st.currentMix ≠ some p.mix → t.link.urgent = true)
      ∧ (st.currentMix = some p.mix → t.link = s.link)
      ∧ OnlyChanges [.seq, .link] s t

/-- At a second boundary not taken yet, INJECTING with a mix pending whose elapsed time is one short of t_mix, MIX_TIMEOUT
answers a next state: MIX_TIMEOUT reported with DENSITY as the detail unless masked, the pending mix current and no
mix pending, the history as it was, thickening inhibited, run 0, base pressure absent; only the Sequencer, the link
and the fault record change. SECOND_BOUNDARY with the Sequencer first in its order, whether its sample set was taken
before it or not (log entry 4), does the same at t_mix, and below it only counts the pending mix's second.
(R87, R90, R185, R186.) -/
def Obligations.MixTimeoutInhibitsThickening : Prop :=
  (∀ (s : State) (st : StageRecord) (p : MixPending), s.time.boundaryDue = true →
    s.seq.stage = some st → st.phase = .injecting → st.pendingMix = some p → p.elapsed + 1 = s.conf.tag.tMix →
    ∃ t, exec .mixTimeout s = .next t
      ∧ t.seq = { s.seq with
          stage := some { st with currentMix := some p.mix, pendingMix := none, inhibited := true }
          confirmRun := 0, basePressure := none }
      ∧ (s.faults.mixTimeout.masked = false →
          t.faults.mixTimeout.count = satSucc 255 s.faults.mixTimeout.count
            ∧ t.faults.mixTimeout.detail = some (.channel .density)
            ∧ t.faults.mixTimeout.last = some s.time.clock)
      ∧ (s.faults.mixTimeout.masked = true → t.faults = s.faults)
      ∧ OnlyChanges [.seq, .link, .faults] s t)
  ∧ (∀ (ord : BoundaryOrder) (s : State) (st : StageRecord) (p : MixPending), s.boundaryOpen →
    ord.tasks.head? = some .sequencer → s.seq.stage = some st → st.phase = .injecting → st.pendingMix = some p →
    ∃ t st', exec (.secondBoundary ord) s = .next t ∧ t.seq.stage = some st' ∧ st'.history = st.history
      ∧ (p.elapsed + 1 < s.conf.tag.tMix →
          st'.pendingMix = some { p with elapsed := p.elapsed + 1 } ∧ st'.currentMix = st.currentMix
            ∧ st'.inhibited = st.inhibited ∧ t.faults.mixTimeout = s.faults.mixTimeout)
      ∧ (s.conf.tag.tMix ≤ p.elapsed + 1 →
          st'.pendingMix = none ∧ st'.currentMix = some p.mix ∧ st'.inhibited = true ∧ t.seq.basePressure = none
            ∧ (s.faults.mixTimeout.masked = false →
              t.faults.mixTimeout.count = satSucc 255 s.faults.mixTimeout.count
                ∧ t.faults.mixTimeout.detail = some (.channel .density)
                ∧ t.faults.mixTimeout.last = some t.time.clock)
            ∧ (s.faults.mixTimeout.masked = true → t.faults.mixTimeout = s.faults.mixTimeout)))

/-- For every goal, record and stage: a pending mix holds the timer; else a flow above q_ref makes it 0; else pressure,
flow and binding all true raise it by one, not past the goal; else it holds. (R95.) -/
def Obligations.RefusalTimerTable : Prop :=
  ∀ (goal : Nat) (r : ReckRecord) (st : StageRecord),
    (st.pendingMix.isSome = true → refusalAfter goal r st = st.refusalTimer)
      ∧ (st.pendingMix = none → r.refusalFlowOk = false → refusalAfter goal r st = 0)
      ∧ (st.pendingMix = none → r.refusalFlowOk = true → r.refusalPressureOk = true → r.binding = true →
          refusalAfter goal r st = min goal (st.refusalTimer + 1))
      ∧ (st.pendingMix = none → r.refusalFlowOk = true → (r.refusalPressureOk && r.binding) = false →
          refusalAfter goal r st = st.refusalTimer)

/-- With a reckoning in flight for the open stage, INJECTING, whose checks leave at least one of the three criteria
holding, END_CRITERIA_CLOSE answers a next state that is CLOSED with those criteria as the criteria-met set, the
outcome the first of REFUSAL, INTENSITY_LIMIT, VOLUME_LIMIT that holds, closed-at the clock, the final values those of
the completing record, the commanded and reached steps copied, no mix pending, the set empty, S 0 and the valve
closed. The checks, in their order: the base pressure becomes the record's P_eff where it is absent and no mix is
pending; under the conditions of R92 the next mix is requested, with its history entry and the confirmation run 0, else
no mix is; the refusal timer holds while a mix is then pending, and else goes to 0, up by one to its goal, or holds; the
intensity run goes up by one to 30, or to 0; the criteria are the timer at its goal, the run at 30 and the record's
volume flag. RECKONING_COMPLETION with the Sequencer first in its order leaves that base pressure, that run, and that
history and pending mix, but that a stage it closes has no mix pending. (R33, R34, R35, R91, R92, R94, R95, R97,
R98.) -/
def Obligations.EndCriteriaClose : Prop :=
  (∀ (s : State) (l : Latched) (r : ReckRecord) (st : StageRecord), s.completing = some (l, r) →
    s.seq.stage = some st → st.phase = .injecting →
    let met := (s.injectingChecks r).criteriaHeld r
    (met.refusal = true ∨ met.intensity = true ∨ met.volume = true) →
    ∃ t st', exec .endCriteriaClose s = .next t ∧ t.seq.stage = some st' ∧ st'.phase = .closed
      ∧ st'.criteria = met
      ∧ st'.outcome = some (if met.refusal then .refusal else if met.intensity then .intensityLimit else .volumeLimit)
      ∧ st'.closedAt = some s.time.clock ∧ st'.finals = some ⟨r.pEff, r.v, r.i⟩
      ∧ st'.stepsAtClose = some (s.reg.commanded, s.reg.reached) ∧ st'.pendingMix = none
      ∧ st'.restraints = .none ∧ t.reg.stroke = 0 ∧ t.reg.valveOpen = false ∧ FieldAndSupplyKept s t
      ∧ PhaseFrame { s with seq := { s.seq with intensityRun := t.seq.intensityRun } } t)
  ∧ (∀ (s : State) (r : ReckRecord) (st : StageRecord), s.seq.stage = some st → st.phase = .injecting →
    let goal := 10 * (s.profileAt st.profile).tref
    let timer :=
      if st.pendingMix.isSome then st.refusalTimer
      else if r.refusalFlowOk = false then 0
      else if r.refusalPressureOk = true ∧ r.binding = true then min goal (st.refusalTimer + 1)
      else st.refusalTimer
    ∃ st', (s.injectingChecks r).seq.stage = some st'
      ∧ (s.injectingChecks r).seq = { s.seq with
          stage := some st', basePressure := s.baseAfter st r, intensityRun := s.runAfter r
          confirmRun := (s.injectingChecks r).seq.confirmRun }
      ∧ (∀ m, s.thickensFrom st r m →
          (s.injectingChecks r).seq.confirmRun = 0
            ∧ st' = { st with
                history := st.history ++ [⟨m + 1, 0, s.stageSecond, false⟩]
                pendingMix := some ⟨m + 1, s.stageSecond, 0⟩ })
      ∧ ((∀ m, ¬ s.thickensFrom st r m) →
          (s.injectingChecks r).seq.confirmRun = s.seq.confirmRun ∧ st' = { st with refusalTimer := timer })
      ∧ (s.injectingChecks r).criteriaHeld r
          = ⟨decide (goal ≤ st'.refusalTimer), decide (30 ≤ s.runAfter r), r.volumeReached⟩
      ∧ OnlyChanges [.seq] s (s.injectingChecks r))
  ∧ (∀ (ord : List CompletionTask) (s : State) (l : Latched) (r : ReckRecord) (st : StageRecord),
    s.completing = some (l, r) → ord.head? = some .sequencer → s.seq.stage = some st → st.phase = .injecting →
    ∃ t st', exec (.reckoningCompletion ord) s = .next t ∧ t.seq.stage = some st'
      ∧ t.seq.basePressure = s.baseAfter st r ∧ t.seq.intensityRun = s.runAfter r ∧ st'.currentMix = st.currentMix
      ∧ (∀ m, s.thickensFrom st r m →
          st'.history = st.history ++ [⟨m + 1, 0, s.stageSecond, false⟩]
            ∧ (st'.phase ≠ .closed → st'.pendingMix = some ⟨m + 1, s.stageSecond, 0⟩ ∧ t.seq.confirmRun = 0))
      ∧ ((∀ m, ¬ s.thickensFrom st r m) →
          st'.history = st.history ∧ (st'.phase ≠ .closed → st'.pendingMix = st.pendingMix))
      ∧ (st'.phase = .closed → st'.pendingMix = none))

/-- SUPPLY absent: with a reckoning in flight for the open stage of a working station, a low-allowance run of 9 and an
allowance reckoned below q_min, SUPPLY_PRESENT for the allowance answers a next state with SUPPLY presented as present
and that run 10; with the station working, a header-low run of 19 and HEADER below h_min, SUPPLY_PRESENT for the
header answers one with SUPPLY present and that run 20; neither leaves the stage INJECTING. SUPPLY present: with a
reckoning in flight, a high-allowance run of 9 or 10, an allowance at q_min + q_hys or more and HEADER at h_min or
more, SUPPLY_ABSENT answers a next state with SUPPLY absent, that run 10 and the low-allowance run 0. (R165, R167.) -/
def Obligations.SupplyFollowsItsRuns : Prop :=
  (∀ (s : State) (p : Latched × ReckRecord), s.completing = some p → s.working = true → s.phase ≠ .vacant →
    s.seq.kept.supply = false → s.coord.lowRun = 9 → s.formDemand.allowanceNow < s.conf.tag.qMin →
    ∃ t, exec (.supplyPresent .allowance) s = .next t ∧ t.seq.kept.supply = true ∧ t.coord.lowRun = 10
      ∧ t.coord.allowance = s.formDemand.allowanceNow ∧ t.phase ≠ .injecting
      ∧ t.seq.kept.sensor = s.seq.kept.sensor ∧ t.seq.kept.packer = s.seq.kept.packer
      ∧ PhaseFrame { s with coord := t.coord } t)
  ∧ (∀ s : State, s.working = true → s.seq.kept.supply = false → s.coord.headerRun = 19 →
    s.deliveredNat .header < s.conf.tag.hMin →
    ∃ t, exec (.supplyPresent .header) s = .next t ∧ t.seq.kept.supply = true ∧ t.phase ≠ .injecting
      ∧ t.seq.kept.sensor = s.seq.kept.sensor ∧ t.seq.kept.packer = s.seq.kept.packer
      ∧ PhaseFrame { s with coord := { s.coord with headerRun := 20 } } t)
  ∧ (∀ (s : State) (p : Latched × ReckRecord), s.completing = some p → s.working = true → s.phase ≠ .vacant →
    s.seq.kept.supply = true → 9 ≤ s.coord.highRun → s.coord.highRun ≤ 10 →
    s.conf.tag.qMin + s.conf.tag.qHys ≤ s.formDemand.allowanceNow →
    s.conf.tag.hMin ≤ s.deliveredNat .header →
    ∃ t, exec .supplyAbsent s = .next t ∧ t.seq.kept.supply = false ∧ t.coord.highRun = 10 ∧ t.coord.lowRun = 0
      ∧ t.seq.kept.sensor = s.seq.kept.sensor ∧ t.seq.kept.packer = s.seq.kept.packer
      ∧ PhaseFrame { s with coord := t.coord } t)

/-- Where a second boundary can be taken, SECOND_BOUNDARY answers a next state in every order: the clock advances (modulo
2^32, tenths 0) unless its advance was made already; the last second's values are the floored means, the gauge swing
and the pumping flag of the window, each absent where the window held none; the window restarts; the second is counted
in the phase that the Take Counters find, WAITING, INJECTING or HOLDING, saturating; a window that pumped throughout
raises the stage's p-p peak to its swing where that phase is neither VACANT nor CLOSED; a second that finds its counter
at 4,294,967,295 or brings it there sets that counter's saturated flag, and where the flag was clear COUNT_SATURATED is
reported, unless masked, without a detail; the other live counters and flags, and else that fault entry, stand; counters
first in the order find the phase as it was; with AUTO on the HELD copy is of this boundary with cause AUTO,
with AUTO off it stands; the channels and inputs, the reckoning, the panel and the queue stand. Where none can be taken
nothing changes. That this row makes the advance itself where its sample set was not taken first, and leaves a mark
for that set, is the model's choice (log entry 4), and that no peak moves in CLOSED its reading (log entry 28).
(R1, R3, R100, R104, R106, R107, R108, R109, R110.) -/
def Obligations.SecondBoundaryClosesWindow : Prop :=
  (∀ (ord : BoundaryOrder) (s : State), s.boundaryOpen →
    ∃ t, exec (.secondBoundary ord) s = .next t
      ∧ t.time = (if s.time.boundaryDue then ⟨s.time.clock, s.time.tenths, s.time.sampleDue, false⟩
          else ⟨(s.time.clock + 1) % 4294967296, 0, true, s.time.boundaryDue⟩)
      ∧ t.take.second.meanQ =
          (if s.take.window.count = 0 then none else some (s.take.window.flowSum / s.take.window.count))
      ∧ t.take.second.meanP =
          (if s.take.window.count = 0 then none else some (s.take.window.pressSum / (s.take.window.count : Int)))
      ∧ (∀ a b, s.take.window.gaugeMin = some a → s.take.window.gaugeMax = some b →
          t.take.second.pp = some (b - a))
      ∧ ((s.take.window.gaugeMin = none ∨ s.take.window.gaugeMax = none) → t.take.second.pp = none)
      ∧ t.take.second.pumping = s.take.window.pumping ∧ t.take.window = .fresh
      ∧ (let p := s.phaseAtBoundary ord
        let l := s.take.live
        t.take.live = { l with
            secWaiting := if p = .waiting then min 4294967295 (l.secWaiting + 1) else l.secWaiting
            secInjecting := if p = .injecting then min 4294967295 (l.secInjecting + 1) else l.secInjecting
            secHolding := if p = .holding then min 4294967295 (l.secHolding + 1) else l.secHolding
            ppPeak :=
              if p ≠ .vacant ∧ p ≠ .closed ∧ s.take.window.pumping = true then
                max l.ppPeak (t.take.second.pp.getD 0)
              else l.ppPeak
            saturated := { l.saturated with
              waiting := l.saturated.waiting || (decide (p = .waiting) && decide (4294967295 ≤ l.secWaiting + 1))
              injecting :=
                l.saturated.injecting || (decide (p = .injecting) && decide (4294967295 ≤ l.secInjecting + 1))
              holding := l.saturated.holding || (decide (p = .holding) && decide (4294967295 ≤ l.secHolding + 1)) } }
          ∧ t.faults.countSaturated = s.faults.countSaturated.afterReports
              (if t.take.live.saturated = l.saturated then 0 else 1) t.time.clock
          ∧ (ord.tasks.head? = some .counters → p = s.phase))
      ∧ (s.take.autoCopy = true → t.take.held.time = some (t.time.clock, t.time.tenths) ∧ t.take.held.cause = .auto
          ∧ t.take.held.second = t.take.second ∧ t.take.held.record = s.env.record)
      ∧ (s.take.autoCopy = false → t.take.held = s.take.held)
      ∧ t.meas = s.meas ∧ t.env = s.env ∧ t.panel = s.panel ∧ t.pending = s.pending)
  ∧ (∀ (ord : BoundaryOrder) (s : State), s.time.boundaryDue = false →
      (s.time.tenths < 9 ∨ s.time.sampleDue = true) → exec (.secondBoundary ord) s = .next s)

/-- At a second boundary not taken yet, HOLDING with a hold timer one short of t_hold, HOLD_TIMER_EXPIRY answers a next
state: CLOSED, outcome INTERRUPTED, criteria-met set empty, closed-at the clock, hold timer t_hold, the refusal timer
as it stood, the set empty, no mix pending, final values from the latest record of this stage or absent.
SECOND_BOUNDARY with the Sequencer first in its order, whether its sample set was taken before it or not (log entry
4), raises the timer by one: at t_hold it closes the stage in the same way, and below it a stage with OPERATOR or TRIP
in its set stays HOLDING. (R28, R34, R35, R96.) -/
def Obligations.HoldTimerExpires : Prop :=
  (∀ (s : State) (st : StageRecord), s.time.boundaryDue = true → s.seq.stage = some st → st.phase = .holding →
    st.holdTimer + 1 = s.conf.tag.tHold →
    ∃ t st', exec .holdTimerExpiry s = .next t ∧ t.seq.stage = some st' ∧ st'.phase = .closed
      ∧ st'.outcome = some .interrupted ∧ st'.criteria = .none ∧ st'.closedAt = some s.time.clock
      ∧ st'.holdTimer = s.conf.tag.tHold ∧ st'.refusalTimer = st.refusalTimer ∧ st'.restraints = .none
      ∧ st'.pendingMix = none ∧ st'.history = st.history
      ∧ st'.finals = (if s.env.record.stageNumber = some st.number then
          some ⟨s.env.record.pEff, s.env.record.v, s.env.record.i⟩ else none)
      ∧ t.reg.stroke = 0 ∧ t.reg.valveOpen = false ∧ FieldAndSupplyKept s t ∧ PhaseFrame s t)
  ∧ (∀ (ord : BoundaryOrder) (s : State) (st : StageRecord), s.boundaryOpen → ord.tasks.head? = some .sequencer →
    s.seq.stage = some st → st.phase = .holding →
    ∃ t st', exec (.secondBoundary ord) s = .next t ∧ t.seq.stage = some st'
      ∧ (s.conf.tag.tHold ≤ st.holdTimer + 1 →
          st'.phase = .closed ∧ st'.outcome = some .interrupted ∧ st'.criteria = .none
            ∧ st'.closedAt = some t.time.clock ∧ st'.holdTimer = st.holdTimer + 1
            ∧ st'.refusalTimer = st.refusalTimer ∧ st'.restraints = .none ∧ st'.pendingMix = none
            ∧ st'.history = st.history
            ∧ st'.finals = (if s.env.record.stageNumber = some st.number then
                some ⟨s.env.record.pEff, s.env.record.v, s.env.record.i⟩ else none)
            ∧ t.reg.stroke = 0 ∧ t.reg.valveOpen = false)
      ∧ (st.holdTimer + 1 < s.conf.tag.tHold → (st.restraints.operator = true ∨ st.restraints.trip = true) →
          st'.phase = .holding ∧ st'.holdTimer = st.holdTimer + 1
            ∧ st'.restraints.operator = st.restraints.operator ∧ st'.restraints.trip = st.restraints.trip))

/-- At one sample set's grout, with V and the newest entry unsaturated after it, 600 x V plus the remainder grows by
exactly the flow, the remainder stays below 600, the newest history entry grows as V does and no other entry changes.
SAMPLE_SET, with no boundary overdue, counts by the phase that the Take Counters find: FLOW as delivered to the grout
in INJECTING and HOLDING and to the test water in TESTING, S to the strokes from PACKED to HOLDING, each by its
remainder while unsaturated, and to nothing else; peak q rises in TESTING and INJECTING. An increment that finds one of
the three at 4,294,967,295 or brings it there leaves it there and sets its saturated flag; for each flag that was clear
COUNT_SATURATED is reported, unless masked, without a detail, and else its entry and the flags stand. That S is the one
the set found (where the boundary of the same advance was taken first, S as that left it, log entry 36), or 0 after its
own trip, and the phase is that found by the set where the counters come first in the order. (The order of the parts,
and the trip before them, are log entries 3 and 5.) (R86, R101, R102, R103, R105, R106.) -/
def Obligations.VolumesCountedByRemainder : Prop :=
  (∀ (q : Nat) (s : State) (st : StageRecord) (older : List MixEntry) (newest : MixEntry),
    s.seq.stage = some st → st.history = older ++ [newest] →
    s.take.live.volume + (s.take.remGrout + q) / 600 ≤ 4294967295 →
    newest.volume + (s.take.remGrout + q) / 600 ≤ 4294967295 →
    600 * (s.countGrout q).take.live.volume + (s.countGrout q).take.remGrout
        = 600 * s.take.live.volume + s.take.remGrout + q
      ∧ (s.countGrout q).take.remGrout < 600
      ∧ ∃ n, (s.countGrout q).seq.stage = some { st with history := older ++ [{ newest with volume := n }] }
        ∧ n + s.take.live.volume = newest.volume + (s.countGrout q).take.live.volume)
  ∧ (∀ (inp : SampleInput) (ord : SampleOrder) (s : State), s.time.boundaryDue = false →
    ∃ t, exec (.sampleSet inp ord) s = .next t
      ∧ (let p := (s.foundBy .counters inp ord).1.phase
        let x := (s.foundBy .counters inp ord).2
        let q := t.deliveredNat .flow
        (if p = .injecting ∨ p = .holding then
          t.take.remGrout = (s.take.remGrout + q) % 600 ∧ (s.take.live.volume + (s.take.remGrout + q) / 600 ≤ 4294967295 →
            600 * t.take.live.volume + t.take.remGrout = 600 * s.take.live.volume + s.take.remGrout + q)
        else t.take.live.volume = s.take.live.volume ∧ t.take.remGrout = s.take.remGrout)
        ∧ (if p = .testing then
          t.take.remWater = (s.take.remWater + q) % 600 ∧ (s.take.live.water + (s.take.remWater + q) / 600 ≤ 4294967295 →
            600 * t.take.live.water + t.take.remWater = 600 * s.take.live.water + s.take.remWater + q)
        else t.take.live.water = s.take.live.water ∧ t.take.remWater = s.take.remWater)
        ∧ (if p ≠ .vacant ∧ p ≠ .closed then
          t.take.remStroke = (s.take.remStroke + x) % 6000 ∧ (s.take.live.strokes + (s.take.remStroke + x) / 6000 ≤ 4294967295 →
            6000 * t.take.live.strokes + t.take.remStroke = 6000 * s.take.live.strokes + s.take.remStroke + x)
        else t.take.live.strokes = s.take.live.strokes ∧ t.take.remStroke = s.take.remStroke)
        ∧ (let sat := s.take.live.saturated
          let v := decide (p = .injecting ∨ p = .holding) && findsBound s.take.live.volume (s.take.remGrout + q) 600
          let w := decide (p = .testing) && findsBound s.take.live.water (s.take.remWater + q) 600
          let k := decide (p ≠ .vacant ∧ p ≠ .closed) && findsBound s.take.live.strokes (s.take.remStroke + x) 6000
          t.take.live.saturated =
              { sat with volume := sat.volume || v, water := sat.water || w, strokes := sat.strokes || k }
            ∧ t.faults.countSaturated = s.faults.countSaturated.afterReports
                ((v && !sat.volume).toNat + (w && !sat.water).toNat + (k && !sat.strokes).toNat) t.time.clock
            ∧ (v = true → t.take.live.volume = 4294967295) ∧ (w = true → t.take.live.water = 4294967295)
            ∧ (k = true → t.take.live.strokes = 4294967295))
        ∧ t.take.live.peakQ =
            (if p = .testing ∨ p = .injecting then max s.take.live.peakQ q else s.take.live.peakQ)
        ∧ (x = s.reg.stroke ∨ x = 0 ∧ t.restraints.trip = true ∧ t.reg.stroke = 0)
        ∧ (ord.tasks.head? = some .counters → p = s.phase ∧ x = s.reg.stroke)))

/-- Link time goes on to a moment that a row names only where nothing that link time alone brings falls due before it: the
end of the character being sent, the start of a waiting attempt or the end of its P_b, the periodic request, the end of
a hold-off that the mark waits for, the end of the last character of an attempt that RESTART cut; else the row finds
its moment not come and changes nothing (log entries 1 and 2).
So, while the station works: PERIODIC_REQUEST with the slot empty answers a next state whose slot holds a new
instance, attempt 1 in ACCESS without a number, k the generator's register after one step modulo 8, the periodic time
at P_b or above; with the slot occupied it leaves the instance and the generator (only its wait may grow).
HOLD_OFF_END after a transmission start creates the same way where the mark is set and the slot empty, else leaves slot
and generator; the mark stands. While the station does not work PERIODIC_REQUEST changes nothing. A step of the
generator never gives 0 from a register that is not 0, nor is a seed 0. (R116, R117, R118, R119, R121.) -/
def Obligations.RequestsCreateOneInstance : Prop :=
  (∀ (s : State) (d : Nat),
    let cutEnds := s.link.cut = true → s.link.charOn = true → d ≤ 1 - s.link.sentTime
    (∀ o, s.link.slot = some o → o.sending = true → (s.linkReaches d = true ↔ d ≤ 1 - s.link.sentTime))
    ∧ (∀ o, s.link.slot = some o → o.sending = false →
        (s.linkReaches d = true
          ↔ d ≤ 10 * s.conf.tag.pB - o.wait ∧ (s.link.charOn = false → d ≤ 3 + o.k - s.link.silence) ∧ cutEnds))
    ∧ (s.link.slot = none → s.working = true →
        (s.linkReaches d = true
          ↔ d ≤ 10 * s.conf.tag.pB - s.link.periodic
            ∧ (s.link.urgent = true → d ≤ (match s.link.sinceStart with | some x => 1000 - x | none => 0))
            ∧ cutEnds))
    ∧ (s.link.slot = none → s.working = false → (s.linkReaches d = true ↔ cutEnds)))
  ∧ (∀ (s : State) (g : Word16), s.working = true → s.link.slot = none → s.link.generator = some g →
    s.linkReaches (10 * s.conf.tag.pB - s.link.periodic) = true →
    ∃ t, exec .periodicRequest s = .next t ∧ t.link.slot = some (newInstance g)
      ∧ t.link.generator = some (generatorStep g)
      ∧ t.link.periodic = max s.link.periodic (10 * s.conf.tag.pB) ∧ LinkTimeFrame s t)
  ∧ (∀ (s : State) (o : Outgoing), s.working = true → s.link.slot = some o →
    ∃ t w, exec .periodicRequest s = .next t ∧ t.link.slot = some { o with wait := w }
      ∧ t.link.generator = s.link.generator ∧ LinkTimeFrame s t)
  ∧ (∀ s : State,
    (s.working = false ∨ s.linkReaches (10 * s.conf.tag.pB - s.link.periodic) = false) →
    exec .periodicRequest s = .next s)
  ∧ (∀ (s : State) (g : Word16) (x : Nat), s.working = true → s.link.slot = none → s.link.urgent = true →
    s.link.generator = some g → s.link.sinceStart = some x → s.linkReaches (1000 - x) = true →
    ∃ t, exec .holdOffEnd s = .next t ∧ t.link.slot = some (newInstance g)
      ∧ t.link.generator = some (generatorStep g) ∧ t.link.sinceStart = some (max x 1000) ∧ LinkTimeFrame s t)
  ∧ (∀ s : State, (s.link.urgent = false ∨ s.link.slot.isSome = true) →
    ∃ t, exec .holdOffEnd s = .next t ∧ t.link.slot.map (·.k) = s.link.slot.map (·.k)
      ∧ t.link.slot.map (·.attempt) = s.link.slot.map (·.attempt)
      ∧ t.link.slot.map (·.seq) = s.link.slot.map (·.seq) ∧ t.link.generator = s.link.generator ∧ LinkTimeFrame s t)
  ∧ (∀ g : Word16, generatorStep g = (if g.toNat % 2 = 1 then g >>> 1 ^^^ 46080#16 else g >>> 1))
  ∧ (∀ g : Word16, g ≠ 0 → generatorStep g ≠ 0) ∧ ∀ own : Identity, seedOf own ≠ 0

/-- With an instance in ACCESS, no character on the line and a silence that reaches 3 + k no later than the wait reaches
P_b, ATTEMPT_START answers a next state: SENDING its own attempt, the number its own or, where absent, the sequence
counter's, which then goes up modulo 256; the mark clear, the periodic time 0, the last start now, the line busy and
the receiver hunting; the frame is that of a bulletin with the own header, FIRST while the FIRST count is above 0, the
phase, the stage section of the open stage (P_eff and v of the record where it is of this stage, else 0), no uplift
section while no gauge is fitted, and the suspected list of an active report; its length is 12 characters plus its
sections. Only the link, the panel's line and the count of free values change. With a character on the line, or P_b
sooner, it changes nothing. On an empty queue the attempt begins in the same way at a silence of 3 + k. That the row
lets the time to 3 + k pass, and the idle step, are the model's choice (log entry 1). (R114, R120, R122, R123, R188.) -/
def Obligations.AttemptStartsTheBulletin : Prop :=
  (∀ (s : State) (o : Outgoing), s.link.slot = some o → o.sending = false → s.link.charOn = false →
    3 + o.k - s.link.silence ≤ 10 * s.conf.tag.pB - o.wait →
    ∃ t, exec .attemptStart s = .next t ∧ AttemptBegins o s t)
  ∧ (∀ (s : State) (o : Outgoing), s.link.slot = some o → o.sending = false →
    (s.link.charOn = true ∨ 10 * s.conf.tag.pB - o.wait < 3 + o.k - s.link.silence) →
    exec .attemptStart s = .next s)
  ∧ (∀ (s : State) (o : Outgoing), s.pending = [] → s.link.slot = some o → o.sending = false →
    s.link.charOn = false → 3 + o.k ≤ s.link.silence →
    ∃ t, step s = .next t ∧ AttemptBegins o s t)

/-- With an instance in ACCESS whose wait reaches P_b no later than the silence reaches 3 + k, or with a character on the
line (not one of an attempt that RESTART cut, which ends by itself before), ACCESS_TIMEOUT (which lets that time pass,
log entry 1); with one SENDING, ATTEMPT_FAILED (which stands for any mismatch of the remaining characters, log entry
29); with one at attempt 4 after seven drops in a row and LINK_JAM absent, LINK_JAM under the same premise; and on an
empty queue (log entry 1) a read-back that has not arrived when its character time ends, or a wait at P_b with no start
due, each answer a next state in which the attempt has failed: abandoned up by one; below attempt 4 the next attempt
waits with a fresh draw from twice the range, else the instance is dropped, the drops count up and the eighth makes
LINK_JAM present and counted. ACCESS_TIMEOUT where the silence reaches 3 + k, or such a character ends, first changes
nothing. (R120, R124, R125, R126.) -/
def Obligations.FailedAttemptRetriesOrDrops : Prop :=
  let expires (s : State) (o : Outgoing) : Prop :=
    (s.link.charOn = true ∨ 10 * s.conf.tag.pB - o.wait ≤ 3 + o.k - s.link.silence)
      ∧ (s.link.cut = true → s.link.charOn = true → 10 * s.conf.tag.pB - o.wait ≤ 1 - s.link.sentTime)
  (∀ (s : State) (o : Outgoing), s.link.slot = some o → o.sending = false → expires s o →
    ∃ t, exec .accessTimeout s = .next t ∧ AttemptFails o s t)
  ∧ (∀ (s : State) (o : Outgoing), s.link.slot = some o → o.sending = false → ¬ expires s o →
    exec .accessTimeout s = .next s)
  ∧ (∀ (s : State) (o : Outgoing), s.link.slot = some o → o.sending = true →
    ∃ t, exec .attemptFailed s = .next t ∧ AttemptFails o s t ∧ t.panel = s.panel)
  ∧ (∀ (s : State) (o : Outgoing), s.link.slot = some o → 4 ≤ o.attempt → s.link.drops = 7 →
    s.faults.linkJam.present = false → (o.sending = false → expires s o) →
    ∃ t, exec .linkJam s = .next t ∧ AttemptFails o s t ∧ t.link.drops = 8 ∧ t.faults.linkJam.present = true)
  ∧ (∀ (s : State) (o : Outgoing), s.pending = [] → s.link.slot = some o →
    (o.sending = true ∧ 1 ≤ s.link.sentTime
      ∨ o.sending = false ∧ 10 * s.conf.tag.pB ≤ o.wait ∧ (s.link.charOn = true ∨ s.link.silence < 3 + o.k)) →
    ∃ t, step s = .next t ∧ AttemptFails o s t)

/-- With an instance SENDING, TRANSMISSION_COMPLETE answers a next state: transmitted up by one, saturating; the FIRST
count down by one unless 0; the drops 0; LINK_JAM not present, its count and the other kinds as they were; the slot
empty, unless the mark is set and the hold-off has ended, when a new instance takes it. That the row stands for the
agreement of the remaining characters is the model's reading (log entry 29). (R118, R124, R126.) -/
def Obligations.TransmissionCompletes : Prop :=
  ∀ (s : State) (o : Outgoing), s.link.slot = some o → o.sending = true →
    ∃ t, exec .transmissionComplete s = .next t
      ∧ t.link.counters = { s.link.counters with transmitted := satSucc 65535 s.link.counters.transmitted }
      ∧ t.link.firstCount = s.link.firstCount - 1 ∧ t.link.drops = 0
      ∧ t.faults = { s.faults with linkJam := { s.faults.linkJam with present := false } }
      ∧ (s.link.urgent = false → t.link.slot = none ∧ t.link.generator = s.link.generator)
      ∧ (∀ x, s.link.sinceStart = some x → x < 1000 → t.link.slot = none)
      ∧ (∀ x g, s.link.urgent = true → s.link.sinceStart = some x → 1000 ≤ x → s.link.generator = some g →
          t.link.slot = some (newInstance g))
      ∧ t.link.urgent = s.link.urgent ∧ t.link.seqCounter = s.link.seqCounter
      ∧ t.link.periodic = s.link.periodic ∧ t.link.sinceStart = s.link.sinceStart
      ∧ OnlyChanges [.link, .faults] s t

/-- LINE_IDLE on a busy line without a character, whose silence reaches 3 before anything else falls due (it lets that time
pass, log entry 1), answers a next state that is idle with a silence of 3 or more and the receiver ready, a frame in
reception counted as a fragment; else it changes nothing. START_BIT_SEEN makes the line busy with silence 0 and changes
nothing else. CHARACTER_RECEIVED while no attempt is sending begins a new silence; a hunting receiver, or a ready one
whose character lacks its stop bit (log entry 14), takes nothing; a ready one takes 0x55 as a frame's first character
and counts any other as a fragment; in a frame the second must be 0xD2, else a fragment, the third a length of 7 to 39,
else a bad length, and the later ones are gathered; a framing failure ends the frame as a fragment. A whole frame
delivered character by character to a ready receiver leaves what FRAME_RECEIVED of it leaves. While sending, an
agreeing character by the end of its time steps the read-back, the last completes the transmission, and a late or
different one fails the attempt. On an empty queue the last character of an attempt that RESTART cut ends with its
character time, read back or not, and a new silence begins (log entry 29). (R114, R115, R124, R125, R127, R128.) -/
def Obligations.LineAndCharacters : Prop :=
  (∀ s : State, s.link.idle = false → s.link.charOn = false → s.linkReaches (3 - s.link.silence) = true →
    ∃ t, exec .lineIdle s = .next t ∧ t.link.idle = true ∧ t.link.silence = max s.link.silence 3
      ∧ t.link.receiver = .ready
      ∧ t.link.counters.fragment =
          (if s.link.receiver.inFrame then satSucc 65535 s.link.counters.fragment else s.link.counters.fragment)
      ∧ t.link.generator = s.link.generator ∧ LinkTimeFrame s t)
  ∧ (∀ s : State,
    (s.link.idle = true ∨ s.link.charOn = true ∨ s.linkReaches (3 - s.link.silence) = false) →
    exec .lineIdle s = .next s)
  ∧ (∀ s : State, exec .startBitSeen s
      = .next { s with link := { s.link with charOn := true, cut := false, idle := false, silence := 0 } })
  ∧ (∀ (s : State) (b : Byte) (stop : Bool), s.link.sending = none →
    (s.link.receiver = .hunting ∨ s.link.receiver = .ready ∧ stop = false) →
    exec (.characterReceived b stop) s
      = .next { s with link := { s.link with charOn := false, cut := false, idle := false, silence := 0 } })
  ∧ (∀ (s : State) (b : Byte), s.link.sending = none → s.link.receiver = .ready →
    exec (.characterReceived b true) s
      = .next { s with link :=
          if b = 0x55#8 then
            { s.link with charOn := false, cut := false, idle := false, silence := 0, receiver := .receiving [b] }
          else
            { s.link.afterFrame with
              counters := { s.link.counters with fragment := satSucc 65535 s.link.counters.fragment } } })
  ∧ (∀ (s : State) (b x : Byte), s.link.sending = none → s.link.receiver = .receiving [x] →
    exec (.characterReceived b true) s
      = .next { s with link :=
          if b = 0xD2#8 then
            { s.link with charOn := false, cut := false, idle := false, silence := 0, receiver := .receiving [x, b] }
          else
            { s.link.afterFrame with
              counters := { s.link.counters with fragment := satSucc 65535 s.link.counters.fragment } } })
  ∧ (∀ (s : State) (b x y : Byte), s.link.sending = none → s.link.receiver = .receiving [x, y] →
    exec (.characterReceived b true) s
      = .next { s with link :=
          if 7 ≤ b.toNat ∧ b.toNat ≤ 39 then
            { s.link with charOn := false, cut := false, idle := false, silence := 0, receiver := .receiving [x, y, b] }
          else
            { s.link.afterFrame with
              counters := { s.link.counters with badLength := satSucc 65535 s.link.counters.badLength } } })
  ∧ (∀ (s : State) (b x y n : Byte) (rest : List Byte), s.link.sending = none →
    s.link.receiver = .receiving (x :: y :: n :: rest) → rest.length + 1 < n.toNat + 2 →
    exec (.characterReceived b true) s
      = .next { s with link := { s.link with
          charOn := false, cut := false, idle := false, silence := 0
          receiver := .receiving (x :: y :: n :: (rest ++ [b])) } })
  ∧ (∀ (s : State) (b : Byte) (got : List Byte), s.link.sending = none → s.link.receiver = .receiving got →
    exec (.characterReceived b false) s
      = .next { s with link := { s.link.afterFrame with
          counters := { s.link.counters with fragment := satSucc 65535 s.link.counters.fragment } } })
  ∧ (∀ (s : State) (n : Byte) (rest : List Byte), s.link.sending = none → s.link.receiver = .ready →
    7 ≤ n.toNat → n.toNat ≤ 39 → rest.length = n.toNat + 2 →
    exec (.frameReceived (n :: rest)) s
      = .next ((0x55#8 :: 0xD2#8 :: n :: rest).foldl (fun u b => u.character b true) s))
  ∧ (∀ (s : State) (b : Byte) (stop : Bool), exec (.characterReceived b stop) s = .next (s.character b stop))
  ∧ (∀ (s : State) (o : Outgoing) (b : Byte), s.link.slot = some o → o.sending = true →
    o.frame[o.readBack]? = some b → s.link.sentTime ≤ 1 →
    (o.readBack + 1 < o.frame.length →
      exec (.characterReceived b true) s
        = .next { s with link := { s.link with
            charOn := true, cut := false, idle := false, silence := 0, sentTime := 0
            slot := some { o with readBack := o.readBack + 1 } } })
    ∧ (o.readBack + 1 = o.frame.length → exec (.characterReceived b true) s = exec .transmissionComplete s))
  ∧ (∀ (s : State) (o : Outgoing) (b : Byte) (stop : Bool), s.link.slot = some o → o.sending = true →
    (stop = false ∨ o.frame[o.readBack]? ≠ some b ∨ 1 < s.link.sentTime) →
    ∃ t, exec (.characterReceived b stop) s = .next t ∧ AttemptFails o s t ∧ t.panel = s.panel)
  ∧ (∀ s : State, s.pending = [] → s.link.cut = true → s.link.charOn = true → 1 ≤ s.link.sentTime →
    (∀ o, s.link.slot = some o → o.sending = false ∧ o.wait < 10 * s.conf.tag.pB) →
    step s = .next { s with link := { s.link with charOn := false, cut := false, idle := false, silence := 0 } })

/-- FRAGMENT for a framing failure or a bad lead of a frame in reception while no attempt is sending counts one
fragment; FRAGMENT by a silence, which stands for the moment just past 2 character times (log entry 15) and lets the
time to it pass (log entry 1), counts one where the silence has not passed 2 and nothing else falls due first, and
changes nothing where no frame is in reception, a character is on the line or something is due first. BAD_LENGTH_FRAME
with a length below 7 or above 39 that the receiver may take counts one bad length. FRAME_RECEIVED of a whole frame
that the receiver may take counts one CRC failure where the check value differs, else one bad content where its body is
not meaningful (a code outside its range in the header or a section, a STAGE flag that the phase does not ask for, a
length that is not the sum of the sections), else one good frame, which leaves no more trace while the station does not
work. Nothing but the counter, the silence and the receiver changes (and, at a silence, link and panel time). (R127,
R128, R129, R130, R188.) -/
def Obligations.DiscardedFramesAreCountedOnce : Prop :=
  (∀ s : State, s.link.receiver.inFrame = true → s.link.charOn = false → s.link.silence ≤ 2 →
    s.linkReaches (2 - s.link.silence) = true →
    ∃ t, exec (.fragment .silence) s = .next t
      ∧ t.link.counters = { s.link.counters with fragment := satSucc 65535 s.link.counters.fragment }
      ∧ t.link.receiver = (if s.link.idle then .ready else .hunting) ∧ LinkTimeFrame s t)
  ∧ (∀ s : State,
    (s.link.receiver.inFrame = false ∨ s.link.charOn = true ∨ s.linkReaches (2 - s.link.silence) = false) →
    exec (.fragment .silence) s = .next s)
  ∧ (∀ (s : State) (why : FragmentCause), s.link.sending = none →
    (why = .framing ∧ s.link.receiver.inFrame = true
      ∨ why = .badLead ∧ (s.link.receiver = .ready ∨ ∃ x, s.link.receiver = .receiving [x])) →
    exec (.fragment why) s = .next { s with link := { s.link.afterFrame with
      counters := { s.link.counters with fragment := satSucc 65535 s.link.counters.fragment } } })
  ∧ (∀ (s : State) (n : Byte), (n.toNat < 7 ∨ 39 < n.toNat) → s.link.mayFrame [0x55#8, 0xD2#8, n] = true →
    exec (.badLengthFrame n) s = .next { s with link := { s.link.afterFrame with
      counters := { s.link.counters with badLength := satSucc 65535 s.link.counters.badLength } } })
  ∧ (∀ (s : State) (n : Byte) (rest : List Byte), 7 ≤ n.toNat → n.toNat ≤ 39 → rest.length = n.toNat + 2 →
    s.link.mayFrame (0x55#8 :: 0xD2#8 :: n :: rest) = true →
    let body := rest.take n.toNat
    let check := rest.drop n.toNat
    (be16 (crc16 (n :: body)).toNat ≠ check →
      exec (.frameReceived (n :: rest)) s = .next { s with link := { s.link.afterFrame with
        counters := { s.link.counters with crcFailed := satSucc 65535 s.link.counters.crcFailed } } })
    ∧ (be16 (crc16 (n :: body)).toNat = check → ¬ BodyMeaningful body →
      exec (.frameReceived (n :: rest)) s = .next { s with link := { s.link.afterFrame with
        counters := { s.link.counters with badContent := satSucc 65535 s.link.counters.badContent } } })
    ∧ (be16 (crc16 (n :: body)).toNat = check → BodyMeaningful body → s.working = false →
      exec (.frameReceived (n :: rest)) s = .next { s with link := { s.link.afterFrame with
        counters := { s.link.counters with good := satSucc 65535 s.link.counters.good } } }))

/-- A whole good frame that the receiver may take, on a working station, answers a next state that counts it good and
admits its bulletin: the own identity sets the duplicate flag and its time; where the flag was clear it presents
DUPLICATE_ID and, unmasked, counts it with the own identity and the clock as last-seen time; where the flag was set
that time alone becomes the clock, unless the kind is masked or its count is 0 (log entry 27), and the fault record
stands else; a bulletin the filters refuse is counted filtered;
one of a held identity rewrites its entry, at the distance it had, or is counted stale; one of a new identity is
appended while fewer than 24 are held, else takes the place of the farthest replaceable entry it comes before, else is
counted table-full and, unmasked, reported. Every other entry stands. Discarded bulletins change the link alone (and
the fault record where reported). The filters pass an identity exactly where none is enabled or an enabled one has its
line in the set and its chainage equal to the base under the mask. A number s is accepted after o exactly where FIRST
is set or s is o plus 1 to 127, modulo 256. The candidate is a replaceable entry, that is one that is not active and
does not name this station, of greatest distance and among those of highest identity; there is none exactly where no
entry is replaceable. (R129, R135, R136, R138, R139, R140, R141, R142.) -/
def Obligations.AdmissionOfBulletins : Prop :=
  (∀ (fs : List Filter) (id : Identity),
    filtersPass fs id = true
      ↔ (∀ f ∈ fs, f.enabled = false)
        ∨ ∃ f ∈ fs, f.enabled = true ∧ f.lines.getLsbD id.line = true
            ∧ BitVec.ofNat 16 id.chainage &&& f.mask = f.base &&& f.mask)
  ∧ (∀ (first : Bool) (x o : Nat), x ≤ 255 → o ≤ 255 →
    (seqAccepted first x o = true ↔ first = true ∨ ∃ k, 1 ≤ k ∧ k ≤ 127 ∧ x = (o + k) % 256))
  ∧ (∀ l : List Entry,
    (candidate l = none ↔ ∀ e ∈ l, e.phase.active = true ∨ e.namesOwn = true)
    ∧ ∀ c, candidate l = some c → c ∈ l ∧ c.phase.active = false ∧ c.namesOwn = false
        ∧ ∀ e ∈ l, e.phase.active = false → e.namesOwn = false →
            e.distance < c.distance ∨ e.distance = c.distance ∧ identityLt c.identity e.identity = false)
  ∧ ∀ (s : State) (n : Byte) (rest : List Byte) (b : Bulletin), 7 ≤ n.toNat → n.toNat ≤ 39 →
    rest.length = n.toNat + 2 → s.link.mayFrame (0x55#8 :: 0xD2#8 :: n :: rest) = true → s.working = true →
    checkFrame n (rest.take n.toNat) (rest.drop n.toNat) = .good b →
    ∃ t, exec (.frameReceived (n :: rest)) s = .next t
      ∧ t.link.counters.good = satSucc 65535 s.link.counters.good
      ∧ OnlyChanges (phaseBlocks ++ [.table, .faults]) s t
      ∧ (b.identity = s.own →
          t.table = ⟨s.table.entries, true, some s.time.clock⟩
            ∧ t.link.counters.ownIdentity = satSucc 65535 s.link.counters.ownIdentity
            ∧ (s.table.duplicate = false → t.faults.duplicateId.present = true
              ∧ (s.faults.duplicateId.masked = false →
                t.faults.duplicateId.count = satSucc 255 s.faults.duplicateId.count
                  ∧ t.faults.duplicateId.last = some s.time.clock
                  ∧ (s.faults.duplicateId.count = 0 → t.faults.duplicateId.first = some s.time.clock)
                  ∧ t.faults.duplicateId.detail = some (.identity s.own)))
            ∧ (s.table.duplicate = true →
              (s.faults.duplicateId.masked = false → 0 < s.faults.duplicateId.count →
                t.faults = { s.faults with duplicateId := { s.faults.duplicateId with last := some s.time.clock } })
              ∧ ((s.faults.duplicateId.masked = true ∨ s.faults.duplicateId.count = 0) → t.faults = s.faults)))
      ∧ (b.identity ≠ s.own → filtersPass s.conf.tag.filters b.identity = false →
          t.link.counters.filtered = satSucc 65535 s.link.counters.filtered ∧ OnlyChanges [.link] s t)
      ∧ (b.identity ≠ s.own → filtersPass s.conf.tag.filters b.identity = true →
          (∀ e, s.table.entries.find? (·.identity = b.identity) = some e →
            (seqAccepted b.first b.seq e.lastSeq = true →
              t.table = { s.table with entries := s.table.entries.map fun x =>
                if x.identity = b.identity then entryOf b x.distance s.time.clock s.own else x }
                ∧ t.faults = s.faults)
            ∧ (seqAccepted b.first b.seq e.lastSeq = false →
              t.link.counters.stale = satSucc 65535 s.link.counters.stale ∧ OnlyChanges [.link] s t))
          ∧ (s.table.entries.find? (·.identity = b.identity) = none →
            let d := distance s.conf.tag.rowSpacing b.identity s.own
            (s.table.entries.length < 24 →
              t.table = { s.table with
                entries := s.table.entries ++ [entryOf b d s.time.clock s.own] } ∧ t.faults = s.faults)
            ∧ (24 ≤ s.table.entries.length → ∀ c, candidate s.table.entries = some c →
                (d < c.distance ∨ d = c.distance ∧ identityLt b.identity c.identity = true) →
                t.table = { s.table with entries := s.table.entries.map fun x =>
                  if x.identity = c.identity then entryOf b d s.time.clock s.own else x } ∧ t.faults = s.faults)
            ∧ (24 ≤ s.table.entries.length →
                (∀ c, candidate s.table.entries = some c →
                  ¬ (d < c.distance ∨ d = c.distance ∧ identityLt b.identity c.identity = true)) →
                t.link.counters.tableFull = satSucc 65535 s.link.counters.tableFull
                  ∧ (s.faults.tableFull.masked = false →
                    t.faults.tableFull.count = satSucc 255 s.faults.tableFull.count
                      ∧ t.faults.tableFull.detail = some (.identity b.identity))
                  ∧ OnlyChanges [.link, .faults] s t)))

/-- At a second boundary not taken yet: ENTRY_STALE of a FRESH entry aged A_stale or more and below 3 x A_stale marks it
STALE; ENTRY_REMOVED of one aged 3 x A_stale or more removes it and, where it was active and the kind unmasked, counts
LINK_SILENT with its identity; DUPLICATE_CLEAR with the flag set and the own identity last heard 3 x A_stale or more
ago clears the flag and DUPLICATE_ID's presence; LISTEN_END in LISTEN with 3 x P_b elapsed makes the station RUNNING.
Each answers a next state after a general evaluation, and on a working station STANDOFF then stands as its causes
give. SECOND_BOUNDARY does these in every order at the clock of its second, whether its sample set was taken before it
or not (log entry 4): the entries left are those below 3 x A_stale, STALE from A_stale on, in their order; the
duplicate flag is as that rule leaves it, and so is the station in LISTEN. On a working station the list of a report
that stays active is that of R158 for the table as the aging leaves it where the order names the aging first, as the
boundary finds it where the Coordination Unit comes first, and for one of the two in every order; a change of it marks
an urgent request. Every unmasked condition kind present before and after, with a count above 0, was last seen at this
second, and a masked one or one absent throughout stands. That the time since the own identity was heard and the time
in LISTEN are formed modulo 2^32, as R143 forms the age, is the model's reading (log entry 26), and so is the count
above 0 (log entry 27). (R137, R143, R145, R148, R152, R154, R155, R158, R185.) -/
def Obligations.BoundaryAgesTheTable : Prop :=
  (∀ (s : State) (e : Entry), s.time.boundaryDue = true → s.entryAt e.identity = some e → e.fresh = true →
    s.conf.tag.aStale ≤ s.ageOf e → s.ageOf e < 3 * s.conf.tag.aStale →
    ∃ t, exec (.entryStale e.identity) s = .next t
      ∧ t.table = { s.table with entries := s.table.entries.map fun x =>
          if x.identity = e.identity then { x with fresh := false } else x }
      ∧ (s.working = true → t.seq.kept.standoff = t.standoffCauses.any)
      ∧ FieldAndSupplyKept s t ∧ PhaseFrame { s with table := t.table } t)
  ∧ (∀ (s : State) (e : Entry), s.time.boundaryDue = true → s.entryAt e.identity = some e →
    3 * s.conf.tag.aStale ≤ s.ageOf e →
    ∃ t, exec (.entryRemoved e.identity) s = .next t
      ∧ t.table = { s.table with entries := s.table.entries.filter fun x => x.identity ≠ e.identity }
      ∧ (e.phase.active = true → s.faults.linkSilent.masked = false →
          t.faults.linkSilent.count = satSucc 255 s.faults.linkSilent.count
            ∧ t.faults.linkSilent.detail = some (.identity e.identity))
      ∧ (e.phase.active = false → t.faults = s.faults)
      ∧ (∀ k, k ≠ .linkSilent → t.faults.get k = s.faults.get k)
      ∧ (s.working = true → t.seq.kept.standoff = t.standoffCauses.any)
      ∧ FieldAndSupplyKept s t ∧ PhaseFrame { s with table := t.table, faults := t.faults } t)
  ∧ (∀ (s : State) (h : Nat), s.time.boundaryDue = true → s.table.duplicate = true → s.table.ownHeard = some h →
    3 * s.conf.tag.aStale ≤ (s.time.clock + 4294967296 - h) % 4294967296 →
    ∃ t, exec .duplicateClear s = .next t ∧ t.table = { s.table with duplicate := false }
      ∧ t.faults = { s.faults with duplicateId := { s.faults.duplicateId with present := false } }
      ∧ (s.working = true → t.seq.kept.standoff = t.standoffCauses.any)
      ∧ FieldAndSupplyKept s t ∧ PhaseFrame { s with table := t.table, faults := t.faults } t)
  ∧ (∀ (s : State) (p : Nat × Nat), s.time.boundaryDue = true → s.conf.station = .listen →
    s.coord.listenStart = some p → 3 * s.conf.tag.pB ≤ 100 * s.listenTenths p →
    ∃ t, exec .listenEnd s = .next t ∧ t.conf = { s.conf with station := .running }
      ∧ t.seq.kept.standoff = t.standoffCauses.any
      ∧ FieldAndSupplyKept s t ∧ PhaseFrame { s with conf := t.conf } t)
  ∧ (∀ (ord : BoundaryOrder) (s : State), s.boundaryOpen →
    let u := s.atNewSecond
    ∃ t, exec (.secondBoundary ord) s = .next t ∧ t.time.clock = u.time.clock
      ∧ t.table.entries = ((s.table.entries.filter fun e => decide (u.ageOf e < 3 * s.conf.tag.aStale)).map fun e =>
          if s.conf.tag.aStale ≤ u.ageOf e then { e with fresh := false } else e)
      ∧ (t.table.duplicate = true ↔ s.table.duplicate = true ∧ ∀ h, s.table.ownHeard = some h →
          (u.time.clock + 4294967296 - h) % 4294967296 < 3 * s.conf.tag.aStale)
      ∧ (∀ p, s.conf.station = .listen → s.coord.listenStart = some p →
          t.conf.station = (if 3 * s.conf.tag.pB ≤ 100 * u.listenTenths p then .running else .listen))
      ∧ (s.working = true → s.coord.report = true → t.coord.report = true →
          (s.SuspectsAre t.coord.suspects ∨ t.SuspectsAre t.coord.suspects)
            ∧ (ord.tasks.head? = some .aging → t.SuspectsAre t.coord.suspects)
            ∧ (ord.tasks.head? = some .coordination → s.SuspectsAre t.coord.suspects)
            ∧ (t.coord.suspects ≠ s.coord.suspects → t.link.urgent = true))
      ∧ (s.coord.report = false → t.coord.report = false)
      ∧ (∀ k, k.isCondition = true →
          ((s.faults.get k).masked = false → (s.faults.get k).present = true → (t.faults.get k).present = true →
              0 < (s.faults.get k).count → (t.faults.get k).last = some t.time.clock)
            ∧ ((s.faults.get k).masked = true → (t.faults.get k).last = (s.faults.get k).last)
            ∧ ((s.faults.get k).present = false → (t.faults.get k).present = false →
                t.faults.get k = s.faults.get k)))

/-- On a working station, PACKED or WAITING, HOLE VALID: with the report inactive and LEAK asserted, or HOLE at or above
baseline + dP_conn with a rise run of 49, CONNECTION_REPORT_START answers a next state with the report active, the
suspected list formed (of the INJECTING entries within D_cn the nearest first, equal ones by lower identity, cut after
the fourth), both runs 0, an urgent request
marked, CONNECTION presented as present and the phase as it was. With the report active, HOLE below baseline +
floor(dP_conn / 2), LEAK deasserted and a quiet run of 99, CONNECTION_REPORT_CLEAR answers one with the report
inactive, the list empty, both runs 0, an urgent request marked, and CONNECTION as the named side alone makes it. The
baseline stands in both. (R157, R158, R159.) -/
def Obligations.ConnectionReportStartsAndClears : Prop :=
  (∀ s : State, s.working = true → (s.phase = .packed ∨ s.phase = .waiting) → s.failed .hole = false →
    s.coord.report = false →
    (s.meas.leakIn.accepted = true
      ∨ ∃ b, s.coord.baseline = some b ∧ b + s.conf.tag.dpConn ≤ s.deliveredNat .hole ∧ s.coord.riseRun = 49) →
    ∃ t, exec .connectionReportStart s = .next t ∧ t.coord.report = true ∧ s.SuspectsAre t.coord.suspects
      ∧ t.coord.suspects = s.suspectedNow ∧ t.coord.suspects.length ≤ 4 ∧ t.coord.riseRun = 0 ∧ t.coord.quietRun = 0
      ∧ t.coord.baseline = s.coord.baseline ∧ t.link.urgent = true ∧ t.seq.kept.connection = true
      ∧ t.phase = s.phase ∧ FieldAndSupplyKept s t ∧ PhaseFrame s t)
  ∧ (∀ (s : State) (b : Nat), s.working = true → (s.phase = .packed ∨ s.phase = .waiting) → s.failed .hole = false →
    s.coord.report = true → s.coord.baseline = some b → s.deliveredNat .hole < b + s.conf.tag.dpConn / 2 →
    s.meas.leakIn.accepted = false → s.coord.quietRun = 99 →
    ∃ t, exec .connectionReportClear s = .next t ∧ t.coord.report = false ∧ t.coord.suspects = []
      ∧ t.coord.riseRun = 0 ∧ t.coord.quietRun = 0 ∧ t.coord.baseline = some b ∧ t.link.urgent = true
      ∧ t.seq.kept.connection = (s.isOpen && s.named && s.profile.action == .hold)
      ∧ FieldAndSupplyKept s t ∧ PhaseFrame s t)

/-- While LOADING with no stage open: an image judged accepted makes TAG_LOAD_COMPLETE answer a next state that is LISTEN
with the settings and profiles in force, the load result ACCEPTED, the link's counter 0, FIRST count 3, drops 0, mark
clear and its first instance drawn from the seed, the table empty, the LISTEN start now, the step limit 8, the
allowance 0, the own uplift NORMAL exactly where the gauge is fitted (with no value yet, log entry 39), and STANDOFF
present; an image judged otherwise makes the station UNCONFIGURED with that load result and CONFIG_BAD present and,
unmasked, counted. At a second boundary not taken yet with the clock at 5 or more, TAG_LOAD_TIMEOUT does so as ABSENT,
and so does SECOND_BOUNDARY in every order that brings the clock to 5 or more, whether its sample set was taken before
it or not (log entry 4); below 5 the load goes on. A stated length above 512 or below 4 is judged ABSENT, a check value
that differs CRC_FAILED. (R131, R147, R169, R181, R192.) -/
def Obligations.TagLoadConfiguresOrRefuses : Prop :=
  (∀ (s : State) (image : List Byte) (tag : Tag) (ps : List Profile), s.conf.station = .loading → s.seq.stage = none →
    judgeDelivered s.freeCount image = some (.accepted tag ps) →
    ∃ t, exec (.tagLoadComplete image) s = .next t
      ∧ t.conf = { s.conf with
          station := .listen, inForce := true, tag := tag, profiles := ps, load := some .accepted }
      ∧ t.link = { s.link with
          slot := some (newInstance (seedOf ⟨tag.line, tag.chainage⟩))
          generator := some (generatorStep (seedOf ⟨tag.line, tag.chainage⟩))
          seqCounter := 0, firstCount := 3, urgent := false, periodic := 0, sinceStart := none, drops := 0 }
      ∧ t.table = ⟨[], false, none⟩ ∧ t.coord.listenStart = some (s.time.clock, s.time.tenths)
      ∧ t.coord.limit = 8 ∧ t.coord.allowance = 0
      ∧ t.coord.uplift = (if tag.upliftFitted then some ⟨.normal, none, false⟩ else none)
      ∧ t.seq.kept.standoff = true ∧ OnlyChanges [.conf, .link, .table, .coord, .meas, .seq, .free] s t)
  ∧ (∀ (s : State) (image : List Byte) (j : Judgement) (r : LoadResult), s.conf.station = .loading →
    judgeDelivered s.freeCount image = some j →
    (j = .absent ∧ r = .absent ∨ j = .crcFailed ∧ r = .crcFailed ∨ ∃ o, j = .outOfRange o ∧ r = .outOfRange o) →
    ∃ t, exec (.tagLoadComplete image) s = .next t
      ∧ t.conf = { s.conf with station := .unconfigured, load := some r } ∧ t.faults.configBad.present = true
      ∧ (s.faults.configBad.masked = false →
          t.faults.configBad.count = satSucc 255 s.faults.configBad.count ∧ t.relayClosed = true)
      ∧ (∀ k, k ≠ .configBad → t.faults.get k = s.faults.get k) ∧ OnlyChanges [.conf, .faults, .free] s t)
  ∧ (∀ s : State, s.time.boundaryDue = true → s.conf.station = .loading → 5 ≤ s.time.clock →
    ∃ t, exec .tagLoadTimeout s = .next t
      ∧ t.conf = { s.conf with station := .unconfigured, load := some .absent } ∧ t.faults.configBad.present = true
      ∧ OnlyChanges [.conf, .faults] s t)
  ∧ (∀ (ord : BoundaryOrder) (s : State), s.boundaryOpen → s.conf.station = .loading →
    ∃ t, exec (.secondBoundary ord) s = .next t
      ∧ (5 ≤ t.time.clock →
          t.conf = { s.conf with station := .unconfigured, load := some .absent }
            ∧ t.faults.configBad.present = true)
      ∧ (t.time.clock < 5 → t.conf = s.conf))
  ∧ (∀ (n : Nat) (image : List Byte), 2 ≤ image.length →
    (512 < ofBytes (image.take 2) ∨ ofBytes (image.take 2) < 4) → judgeDelivered n image = some .absent)
  ∧ (∀ (n : Nat) (covered check : List Byte), 2 ≤ covered.length → check.length = 2 →
    ofBytes (covered.take 2) = covered.length + 2 → covered.length ≤ 510 → be16 (crc16 covered).toNat ≠ check →
    judgeDelivered n (covered ++ check) = some .crcFailed)

/-- Taken at a free panel of a configured station: OPEN in VACANT with its arguments in range, a valid profile and SEAL
asserted answers a next state answered OK with the new stage number n: n is the counter's value and, with at most 16
log records, carried by none of them; it is the counter plus one where no record carries that. The record is as R19
gives it, PACKED; the steps, S, valve and suction, the counters, the sets replaced, the allowance, the supply and
connection runs and the baseline are as their owners' rules give at OPEN; the lock is set; lambda lies from 1 to T.
Otherwise REFUSED_STATE, BAD_ARG (a flag byte above 1 too, by log entry 41) or REFUSED_SEAL, in that order, and nothing
but the panel's answer changes. (R18,
R19, R63, R78, R113, R169, R183.) -/
def Obligations.OpenCreatesTheStage : Prop :=
  ∀ (s : State) (top bottom : Word16) (p w a : Byte), s.takesOperator →
    let c : PanelCmd := .openStage top.toNat bottom.toNat p w a
    let bad := 20000 < bottom.toNat ∨ bottom.toNat < top.toNat + 100 ∨ top.toNat + 1000 < bottom.toNat
      ∨ 3 < p.toNat ∨ (s.profileAt p.toNat).valid = false ∨ 1 < w.toNat ∨ 1 < a.toNat
    (s.phase = .vacant → ¬ bad → s.meas.sealIn.accepted = true →
      ∃ t n, exec (.openStage top bottom p w a) s = .next t ∧ Answered s t c .ok (be16 n)
        ∧ (s.panel.log.length ≤ 16 → n ∉ s.panel.log.map (·.stage.number))
        ∧ ((s.seq.counter + 1) % 65536 ∉ s.panel.log.map (·.stage.number) → n = (s.seq.counter + 1) % 65536)
        ∧ t.seq.counter = n
        ∧ t.seq.stage = some (.opened n s.own top.toNat bottom.toNat p.toNat (w == 1#8) (a == 1#8) s.time.clock)
        ∧ t.seq.test = none ∧ t.seq.basePressure = none ∧ t.seq.confirmRun = 0 ∧ t.seq.intensityRun = 0
        ∧ t.reg = ⟨(s.profileAt p.toNat).start, 0, 0, 0, 0, false, false⟩
        ∧ t.take = { s.take with live := .zero (some n), remGrout := 0, remWater := 0, remStroke := 0 }
        ∧ t.env = { s.env with replaced := 0 } ∧ t.conf = { s.conf with lock := true }
        ∧ t.coord.allowance = 0 ∧ t.coord.lowRun = 0 ∧ t.coord.highRun = 0 ∧ t.coord.report = false
        ∧ t.coord.suspects = [] ∧ t.coord.riseRun = 0 ∧ t.coord.quietRun = 0
        ∧ t.coord.baseline = some (s.deliveredNat .hole)
        ∧ 1 ≤ t.coord.limit ∧ t.coord.limit ≤ max 1 (s.profileAt p.toNat).top
        ∧ t.link.urgent = true ∧ FieldAndSupplyKept s t
        ∧ OnlyChanges [.seq, .take, .reg, .coord, .env, .conf, .link, .panel] s t)
    ∧ (s.phase ≠ .vacant → RefusedWith (.openStage top bottom p w a) s c .refusedState)
    ∧ (s.phase = .vacant → bad → RefusedWith (.openStage top bottom p w a) s c .badArg)
    ∧ (s.phase = .vacant → ¬ bad → s.meas.sealIn.accepted = false →
        RefusedWith (.openStage top bottom p w a) s c .refusedSeal)

/-- Taken at a free panel of a configured station: in PACKED with a test wanted and none held complete, no condition kept
and no neighbour hindering, START answers OK in TESTING, results absent, step 1 at p_a with nothing counted, S 0,
valve open, suction WATER. With a condition kept, and at least one that stands (SENSOR, PACKER or SUPPLY kept, or
STANDOFF, CONNECTION or UPLIFT by its causes as the evaluation that WAITING raises finds them, log entry 7), it answers
OK in WAITING with exactly those conditions in the set, the results abandoned where a test was wanted, else as they
were, S 0, the valve closed and the baseline captured; so in LISTEN or beside a stage that holds this one off. Not
wanted, or held complete, with none kept and no neighbour hindering, INJECTING through WAITING: start and current mix
chosen from the results, that mix pending and its history entry begun at this stage second, injection-began-at the
clock, S 0, valve open, suction GROUT. In every other phase REFUSED_STATE. (R21, R25, R80, R85, R149, R173.) -/
def Obligations.StartTakesItsTable : Prop :=
  ∀ s : State, s.takesOperator →
    (∀ st, s.seq.stage = some st → st.phase = .packed →
      let wanted := st.waterTest = true ∧ ∀ l, st.results ≠ .complete l
      let kept := s.seq.kept
      let standoff := s.standoffCauses.any
      (wanted → s.seq.kept.any = false → s.unhindered →
        ∃ t st', exec .start s = .next t ∧ Answered s t .start .ok t.phaseData ∧ t.seq.stage = some st'
          ∧ st'.phase = .testing ∧ st'.restraints = .none ∧ st'.results = .absent
          ∧ t.seq.test = some ⟨1, 0, (s.profileAt st.profile).pa, 0, 0, 0, []⟩
          ∧ t.reg.stroke = 0 ∧ t.reg.valveOpen = true ∧ t.reg.suctionWater = true
          ∧ t.link.urgent = true ∧ ConsolePhaseFrame s t)
      ∧ (kept.any = true →
        (kept.sensor = true ∨ kept.packer = true ∨ kept.supply = true ∨ standoff = true
          ∨ s.connectionCondition = true ∨ s.upliftCondition = true) →
        ∃ t st', exec .start s = .next t ∧ Answered s t .start .ok t.phaseData ∧ t.seq.stage = some st'
          ∧ st'.phase = .waiting
          ∧ st'.restraints = ⟨false, false, kept.sensor, kept.packer, standoff, s.connectionCondition,
              s.upliftCondition, kept.supply⟩
          ∧ t.seq.kept = ⟨kept.sensor, kept.packer, standoff, s.connectionCondition, s.upliftCondition, kept.supply⟩
          ∧ (wanted → st'.results = .abandoned) ∧ (¬ wanted → st'.results = st.results)
          ∧ t.reg.stroke = 0 ∧ t.reg.valveOpen = false ∧ t.coord.baseline = some (s.deliveredNat .hole)
          ∧ t.link.urgent = true ∧ ConsolePhaseFrame s t)
      ∧ (¬ wanted → s.seq.kept.any = false → s.unhindered →
        ∃ t st' m, exec .start s = .next t ∧ Answered s t .start .ok t.phaseData ∧ t.seq.stage = some st'
          ∧ m = startMixOf s.conf.tag st.results ∧ st'.phase = .injecting ∧ st'.restraints = .none
          ∧ st'.results = st.results ∧ st'.startMix = some m ∧ st'.currentMix = some m
          ∧ st'.pendingMix = some ⟨m, s.stageSecond, 0⟩ ∧ st'.history = st.history ++ [⟨m, 0, s.stageSecond, false⟩]
          ∧ st'.injectionAt = some s.time.clock ∧ t.seq.basePressure = none ∧ t.seq.confirmRun = 0
          ∧ t.reg.stroke = 0 ∧ t.reg.valveOpen = true ∧ t.reg.suctionWater = false ∧ t.mixRequest = some m
          ∧ t.link.urgent = true ∧ ConsolePhaseFrame s t))
    ∧ (s.phase ≠ .packed → RefusedWith .start s .start .refusedState)

/-- Taken at a free panel of a configured station: HOLD answers OK with OPERATOR in the set, in WAITING from TESTING (test
abandoned) and WAITING, in HOLDING from INJECTING (hold timer 0) and HOLDING (hold timer as it was), S 0 and the valve
closed; elsewhere REFUSED_STATE. RELEASE with TRIP in the set and GAUGE at or above G_lim leaves TRIP, takes OPERATOR
out and answers REFUSED_STATE with the set (log entry 34); else with a condition in the set it takes both out, stays,
and answers OK; else with only OPERATOR or TRIP in the set and no neighbour hindering, the stage is INJECTING and the
answer OK, the history, start mix and injection-began-at as they were from HOLDING. In TESTING and INJECTING, whose
set is empty, it answers OK and changes nothing; elsewhere REFUSED_STATE with the set, sent as one byte (log entry 17).
(R22, R26, R27, R29, R30, R173.) -/
def Obligations.HoldAndRelease : Prop :=
  ∀ s : State, s.takesOperator →
    (∀ st, s.seq.stage = some st → st.phase.started = true →
      ∃ t st', exec .hold s = .next t ∧ Answered s t .hold .ok t.phaseData ∧ t.seq.stage = some st'
        ∧ st'.restraints.operator = true
        ∧ (st.phase = .testing → st'.phase = .waiting ∧ st'.results = .abandoned ∧ t.seq.test = none)
        ∧ (st.phase = .waiting → st'.phase = .waiting ∧ st'.restraints = { st.restraints with operator := true })
        ∧ (st.phase = .injecting → st'.phase = .holding ∧ st'.holdTimer = 0)
        ∧ (st.phase = .holding → st' = { st with restraints := { st.restraints with operator := true } })
        ∧ (st.phase.pumping = true → t.reg.stroke = 0 ∧ t.reg.valveOpen = false) ∧ ConsolePhaseFrame s t)
    ∧ (s.phase.started = false → RefusedWith .hold s .hold .refusedState)
    ∧ (∀ st, s.seq.stage = some st → st.phase.restrained = true →
      let stays := st.restraints.trip = true ∧ s.conf.tag.gLim ≤ s.deliveredNat .gauge
      let remains := st.restraints.sensor = true ∨ st.restraints.packer = true ∨ st.restraints.standoff = true
        ∨ st.restraints.connection = true ∨ st.restraints.uplift = true ∨ st.restraints.supply = true
      (stays → ∃ t, exec .release s = .next t
        ∧ Answered s t .release .refusedState [t.restraints.summary]
        ∧ t.seq.stage = some { st with restraints := { st.restraints with operator := false } }
        ∧ ConsolePhaseFrame s t)
      ∧ (¬ stays → remains → ∃ t, exec .release s = .next t ∧ Answered s t .release .ok t.phaseData
        ∧ t.seq.stage = some { st with restraints := { st.restraints with operator := false, trip := false } }
        ∧ ConsolePhaseFrame s t)
      ∧ (¬ stays → ¬ remains → (st.restraints.operator = true ∨ st.restraints.trip = true) → s.unhindered →
        ∃ t st', exec .release s = .next t ∧ Answered s t .release .ok t.phaseData ∧ t.seq.stage = some st'
          ∧ st'.phase = .injecting ∧ st'.restraints = .none ∧ t.reg.stroke = 0 ∧ t.reg.valveOpen = true
          ∧ (st.phase = .holding → st'.history = st.history ∧ st'.startMix = st.startMix
            ∧ st'.pendingMix = st.pendingMix ∧ st'.injectionAt = st.injectionAt ∧ st'.holdTimer = st.holdTimer)
          ∧ (st.phase = .waiting → st'.injectionAt = some s.time.clock
            ∧ st'.startMix = some (startMixOf s.conf.tag st.results))
          ∧ ConsolePhaseFrame s t))
    ∧ (s.phase.pumping = true → s.restraints = .none →
        ∃ t, exec .release s = .next t ∧ Answered s t .release .ok t.phaseData ∧ OnlyChanges [.panel] s t)
    ∧ (s.phase.started = false → ∃ t, exec .release s = .next t
        ∧ Answered s t .release .refusedState [s.restraints.summary] ∧ OnlyChanges [.panel] s t)

/-- Taken at a free panel of a configured station: STOP in TESTING and WAITING answers OK in PACKED with the set empty and
the HOLE baseline captured, the test abandoned from TESTING and the results as they were from WAITING; STOP in
INJECTING and HOLDING, and ABORT in those, TESTING and WAITING, answer OK in CLOSED with OPERATOR_STOP or ABORTED, the
criteria-met set empty, closed-at the clock, the final values of this stage's latest record or absent, the steps
copied, no mix pending, the set empty and all else of the record as it was but a test abandoned; ABORT in PACKED
answers OK in VACANT with no record, the number counter, counters and reckoning record as they were and the waiting
slot empty. Elsewhere REFUSED_STATE. (R31, R32, R34, R35.) -/
def Obligations.StopAndAbort : Prop :=
  ∀ s : State, s.takesOperator →
    (∀ st, s.seq.stage = some st → (st.phase = .testing ∨ st.phase = .waiting) →
      ∃ t st', exec .stop s = .next t ∧ Answered s t .stop .ok t.phaseData ∧ t.seq.stage = some st'
        ∧ st'.phase = .packed ∧ st'.restraints = .none ∧ t.seq.test = none
        ∧ st'.results = (if st.phase = .testing then .abandoned else st.results)
        ∧ t.reg.stroke = 0 ∧ t.reg.valveOpen = false ∧ t.coord.baseline = some (s.deliveredNat .hole)
        ∧ t.link.urgent = true ∧ ConsolePhaseFrame s t)
    ∧ (∀ st i c o, s.seq.stage = some st →
      (i = .stop ∧ c = .stop ∧ o = .operatorStop ∧ (st.phase = .injecting ∨ st.phase = .holding)
        ∨ i = .abort ∧ c = .abort ∧ o = .aborted ∧ st.phase.started = true) →
      ∃ t, exec i s = .next t ∧ Answered s t c .ok t.phaseData
        ∧ t.seq.stage = some { st with
            phase := .closed, outcome := some o, criteria := .none, closedAt := some s.time.clock
            finals := if s.env.record.stageNumber = some st.number then
              some ⟨s.env.record.pEff, s.env.record.v, s.env.record.i⟩ else none
            stepsAtClose := some (s.reg.commanded, s.reg.reached), pendingMix := none, restraints := .none
            results := if st.phase = .testing then .abandoned else st.results }
        ∧ t.seq.test = none ∧ t.reg.stroke = 0 ∧ t.reg.valveOpen = false ∧ t.link.urgent = true
        ∧ ConsolePhaseFrame s t)
    ∧ (∀ st, s.seq.stage = some st → st.phase = .packed →
      ∃ t, exec .abort s = .next t ∧ Answered s t .abort .ok t.phaseData ∧ t.seq.stage = none
        ∧ t.seq.counter = s.seq.counter ∧ t.env = { s.env with slot := none } ∧ t.reg.stroke = 0
        ∧ t.reg.commanded = s.reg.commanded ∧ t.reg.reached = s.reg.reached ∧ FieldAndSupplyKept s t
        ∧ t.link.urgent = true ∧ OnlyChanges [.seq, .reg, .link, .coord, .env, .panel] s t)
    ∧ (s.phase.started = false → RefusedWith .stop s .stop .refusedState)
    ∧ (s.phase = .vacant ∨ s.phase = .closed → RefusedWith .abort s .abort .refusedState)

/-- Taken at a free panel of a configured station: ACCEPT in CLOSED with fewer than 16 records answers OK in VACANT, the
stage record with the live counters appended as the newest, no stage record left, the counters and the reckoning
record as they stood; with 16 records REFUSED_FULL, in other phases REFUSED_STATE, and nothing changes. LOG_READ k
below the count returns the count and the record at k, else BAD_ARG. LOG_TAKE removes the oldest record and returns
its number and the count left; on an empty log REFUSED_STATE. (R36, R177, R178, R179.) -/
def Obligations.StageLogCommands : Prop :=
  ∀ s : State, s.takesOperator →
    (∀ st, s.seq.stage = some st → st.phase = .closed → s.panel.log.length < 16 →
      ∃ t, exec .accept s = .next t
        ∧ t.panel = { s.panel with
            log := s.panel.log ++ [⟨st, s.take.live⟩]
            inProcess := some ⟨.accept, some ⟨0x09#8, .ok, [0#8, 0#8]⟩⟩ }
        ∧ t.seq.stage = none ∧ t.seq.counter = s.seq.counter ∧ t.env = { s.env with slot := none }
        ∧ t.reg.commanded = s.reg.commanded ∧ t.reg.reached = s.reg.reached ∧ t.link.urgent = true
        ∧ FieldAndSupplyKept s t ∧ OnlyChanges [.seq, .reg, .link, .coord, .env, .panel] s t)
    ∧ (s.phase = .closed → 16 ≤ s.panel.log.length → RefusedWith .accept s .accept .refusedFull)
    ∧ (s.phase ≠ .closed → RefusedWith .accept s .accept .refusedState)
    ∧ (∀ (k : Byte) (r : LogRecord), s.panel.log[k.toNat]? = some r →
      ∃ t, exec (.logRead k) s = .next t
        ∧ Answered s t (.logRead k.toNat) .ok (byte s.panel.log.length :: r.bytes) ∧ OnlyChanges [.panel] s t)
    ∧ (∀ k : Byte, s.panel.log.length ≤ k.toNat → RefusedWith (.logRead k) s (.logRead k.toNat) .badArg)
    ∧ (∀ (r : LogRecord) (rest : List LogRecord), s.panel.log = r :: rest →
      ∃ t, exec .logTake s = .next t
        ∧ t.panel = { s.panel with
            log := rest
            inProcess := some ⟨.logTake, some ⟨0x0C#8, .ok, be16 r.stage.number ++ [byte rest.length]⟩⟩ }
        ∧ OnlyChanges [.panel] s t)
    ∧ (s.panel.log = [] → RefusedWith .logTake s .logTake .refusedState)

/-- Taken at a free panel of a configured station: STEP n in VACANT, TESTING or CLOSED is answered REFUSED_STATE, else
with n 0 or above 8 BAD_ARG, and neither changes any state; else c becomes n, or T where n is above it (OK_CLAMPED,
otherwise OK), the arrival run and the advance count become 0, e is min(c, lambda), a rise of e zeroes the refusal
timer, and the response carries c then e. (R64.) -/
def Obligations.StepIsTakenOrRefused : Prop :=
  ∀ (s : State) (n : Byte), s.takesOperator →
    (s.phase = .vacant ∨ s.phase = .testing ∨ s.phase = .closed →
      RefusedWith (.stepTo n) s (.stepTo n.toNat) .refusedState)
    ∧ (s.phase ≠ .vacant → s.phase ≠ .testing → s.phase ≠ .closed → (n = 0#8 ∨ 8 < n.toNat) →
      RefusedWith (.stepTo n) s (.stepTo n.toNat) .badArg)
    ∧ (s.phase ≠ .vacant → s.phase ≠ .testing → s.phase ≠ .closed → 1 ≤ n.toNat → n.toNat ≤ 8 →
      let c := min n.toNat s.profile.top
      let e := min c s.coord.limit
      ∃ t, exec (.stepTo n) s = .next t
        ∧ Answered s t (.stepTo n.toNat) (if s.profile.top < n.toNat then .okClamped else .ok) [byte c, byte e]
        ∧ t.reg = { s.reg with commanded := c, arrivalRun := 0, advanceCount := 0 } ∧ t.effective = e
        ∧ t.seq = (if s.effective < e then
            { s.seq with stage := s.seq.stage.map fun st => { st with refusalTimer := 0 } } else s.seq)
        ∧ OnlyChanges [.reg, .seq, .panel] s t)

/-- Taken at a free panel of a configured station: MIX at operator level is answered REFUSED_LEVEL; at engineer level
outside INJECTING and HOLDING REFUSED_STATE, else with n outside 1 to M BAD_ARG, else with 8 history entries
REFUSED_FULL, and none of these changes any state; else it is answered OK: a history entry of n with volume 0 begun at
the stage second, unconfirmed, is appended, the mix pending is n requested at that second with elapsed 0, the
confirmation run is 0, thickening is no longer inhibited, and the agitator is asked for n. (R93.) -/
def Obligations.MixIsForcedOrRefused : Prop :=
  ∀ (s : State) (n : Byte), s.takesOperator →
    (s.engineer = false → RefusedWith (.mix n) s (.mix n.toNat) .refusedLevel)
    ∧ (s.engineer = true → s.phase ≠ .injecting → s.phase ≠ .holding →
      RefusedWith (.mix n) s (.mix n.toNat) .refusedState)
    ∧ (∀ st, s.engineer = true → s.seq.stage = some st → (st.phase = .injecting ∨ st.phase = .holding) →
      (n = 0#8 ∨ s.conf.tag.mixes.length < n.toNat → RefusedWith (.mix n) s (.mix n.toNat) .badArg)
      ∧ (1 ≤ n.toNat → n.toNat ≤ s.conf.tag.mixes.length → 8 ≤ st.history.length →
        RefusedWith (.mix n) s (.mix n.toNat) .refusedFull)
      ∧ (1 ≤ n.toNat → n.toNat ≤ s.conf.tag.mixes.length → st.history.length < 8 →
        ∃ t, exec (.mix n) s = .next t ∧ Answered s t (.mix n.toNat) .ok []
          ∧ t.seq = { s.seq with
              stage := some { st with
                history := st.history ++ [⟨n.toNat, 0, s.stageSecond, false⟩]
                pendingMix := some ⟨n.toNat, s.stageSecond, 0⟩, inhibited := false }
              confirmRun := 0 }
          ∧ t.mixRequest = some n.toNat ∧ OnlyChanges [.seq, .panel] s t))

/-- At a free panel: READ of an item that R172 allows in the station state, not a READ RECKONING LIVE with a reckoning in
flight, is answered OK with its record and changes nothing else, or BAD_ARG; a record exists exactly for items 1 to 11
in the LIVE window, with an index below the count of entries for NEIGHBOUR and of 0 to 3 for PROFILE, and for items 1
to 5 in the HELD window. STATUS is answered OK with its record in every station state. On a configured station SNAP is
answered OK and the HELD copy is of this moment with cause SNAP, and at engineer level AUTO 0 or 1 sets AUTO, any
other argument is BAD_ARG. (R109, R110, R111, R172, R175, R176.) -/
def Obligations.ReadsStatusAndCopies : Prop :=
  ∀ s : State, s.panelFree →
    (∀ item window index : Byte, (s.working = true ∨ item = 7#8 ∨ item = 8#8 ∨ item = 11#8) →
      ¬ (item = 2#8 ∧ window = 0#8 ∧ s.env.inFlight.isSome = true) →
      (∀ d, s.readData item window index = some d →
        ∃ t, exec (.read item window index) s = .next t ∧ Answered s t (.read item window index) .ok d
          ∧ OnlyChanges [.panel, .free] s t)
      ∧ (s.readData item window index = none →
        RefusedWith (.read item window index) s (.read item window index) .badArg))
    ∧ (∀ item window index : Byte,
      (s.readData item window index).isSome = true
        ↔ window = 0#8 ∧ 1 ≤ item.toNat ∧ item.toNat ≤ 11 ∧ (item = 6#8 → index.toNat < s.table.entries.length)
            ∧ (item = 10#8 → index.toNat ≤ 3)
          ∨ window = 1#8 ∧ 1 ≤ item.toNat ∧ item.toNat ≤ 5)
    ∧ (∃ t, exec .status s = .next t ∧ Answered s t .status .ok s.statusBytes ∧ OnlyChanges [.panel] s t)
    ∧ (s.working = true →
      ∃ t, exec .snap s = .next t ∧ Answered s t .snap .ok []
        ∧ t.take = { s.take with held :=
            { stage := s.stageView, record := s.env.record, live := s.take.live, second := s.take.second
              steps := s.stepsView, coord := s.coordView, time := some (s.time.clock, s.time.tenths), cause := .snap } }
        ∧ OnlyChanges [.take, .panel] s t)
    ∧ (∀ x : Byte, s.takesEngineer →
      (x.toNat ≤ 1 → ∃ t, exec (.auto x) s = .next t ∧ Answered s t (.auto x) .ok []
        ∧ t.take = { s.take with autoCopy := decide (x = 1#8) } ∧ OnlyChanges [.take, .panel] s t)
      ∧ (1 < x.toNat → RefusedWith (.auto x) s (.auto x) .badArg))

/-- Taken at a free panel of a configured station at engineer level: TUNE with the lock set is REFUSED_LOCKED, else
with a profile above 3, a field outside 1 to 9 or a value outside that field's range (11.3; a start step's range ends at
the profile's T) BAD_ARG, else with a new T below the start step or a Pmax below p_c BAD_ARG (checked only where T, or
Pmax, is the field written, log entry 22); else it is answered OK and that profile alone changes, that field holding the
value and the valid flag set exactly where every field then lies in its range, the start step is at most T and p_a <=
p_b <= p_c <= Pmax. LOCK sets the
lock. MASK with a kind of 1 to 10 and 0 or 1 sets that kind's mask alone, else BAD_ARG. FAULT_CLEAR zeroes every count
with its times and detail, and enters each present, unmasked condition kind again with count 1, both times the clock
and the detail it held. (R182, R183, R186.) -/
def Obligations.EngineerSettings : Prop :=
  ∀ s : State, s.takesEngineer →
    (∀ (p f : Byte) (v : BitVec 32),
      (s.conf.lock = true → RefusedWith (.tune p f v) s (.tune p f v.toNat) .refusedLocked)
      ∧ (s.conf.lock = false → (3 < p.toNat ∨ f.toNat = 0 ∨ 9 < f.toNat
          ∨ ∀ q, ¬ (s.profileAt p.toNat).TunedTo f.toNat v.toNat q) →
        RefusedWith (.tune p f v) s (.tune p f v.toNat) .badArg)
      ∧ (∀ q, s.conf.lock = false → p.toNat ≤ 3 → (s.profileAt p.toNat).TunedTo f.toNat v.toNat q →
        ((q.top < q.start ∧ f.toNat = 4 ∨ q.pmax < q.pc ∧ f.toNat = 1) →
          RefusedWith (.tune p f v) s (.tune p f v.toNat) .badArg)
        ∧ (¬ (q.top < q.start ∧ f.toNat = 4 ∨ q.pmax < q.pc ∧ f.toNat = 1) →
          ∃ t b, exec (.tune p f v) s = .next t ∧ Answered s t (.tune p f v.toNat) .ok []
            ∧ t.conf = { s.conf with profiles := s.conf.profiles.set p.toNat { q with valid := b } }
            ∧ (b = true ↔ q.InRange)
            ∧ OnlyChanges [.conf, .panel] s t)))
    ∧ (∃ t, exec .lock s = .next t ∧ Answered s t .lock .ok [] ∧ t.conf = { s.conf with lock := true }
        ∧ OnlyChanges [.conf, .panel] s t)
    ∧ (∀ (k x : Byte) (kind : FaultKind), 1 ≤ k.toNat → FaultKind.all[k.toNat - 1]? = some kind → x.toNat ≤ 1 →
      ∃ t, exec (.mask k x) s = .next t ∧ Answered s t (.mask k x) .ok []
        ∧ t.faults = s.faults.set kind { s.faults.get kind with masked := decide (x = 1#8) }
        ∧ OnlyChanges [.faults, .panel] s t)
    ∧ (∀ k x : Byte, (k.toNat = 0 ∨ 10 < k.toNat ∨ 1 < x.toNat) → RefusedWith (.mask k x) s (.mask k x) .badArg)
    ∧ (∃ t, exec .faultClear s = .next t ∧ Answered s t .faultClear .ok []
        ∧ (∀ k, (t.faults.get k).present = (s.faults.get k).present ∧ (t.faults.get k).masked = (s.faults.get k).masked
          ∧ ((k.isCondition = true ∧ (s.faults.get k).present = true ∧ (s.faults.get k).masked = false) →
              (t.faults.get k).count = 1 ∧ (t.faults.get k).first = some s.time.clock
                ∧ (t.faults.get k).last = some s.time.clock ∧ (t.faults.get k).detail = (s.faults.get k).detail)
          ∧ (¬ (k.isCondition = true ∧ (s.faults.get k).present = true ∧ (s.faults.get k).masked = false) →
              (t.faults.get k).count = 0 ∧ (t.faults.get k).first = none ∧ (t.faults.get k).last = none
                ∧ (t.faults.get k).detail = none))
        ∧ OnlyChanges [.faults, .panel] s t)

/-- Taken at a free panel of a configured station at engineer level, RESTART is answered OK: the station is LISTEN with
the LISTEN start now, S 0 and the valve closed, every entry gone and the duplicate flag kept; TESTING has become PACKED
with the test abandoned, INJECTING HOLDING with the hold timer 0, and HOLDING, as WAITING, has OPERATOR and STANDOFF in
its set; other phases stand; the sequence counter is 0, the FIRST count 3, a first instance waits, and an attempt that
was sending is cut after its character in progress; the last start, drops and link counters are kept. The clock,
channels, reckoning, counters, log, slot, settings, lock and fault record are kept. (R40, R78, R131, R147, R154, R169,
R184.) -/
def Obligations.RestartKeepsTheStage : Prop :=
  ∀ s : State, s.takesEngineer →
    ∃ t, exec .restart s = .next t ∧ Answered s t .restart .ok []
      ∧ t.conf = { s.conf with station := .listen } ∧ t.coord.listenStart = some (s.time.clock, s.time.tenths)
      ∧ t.reg.stroke = 0 ∧ t.reg.valveOpen = false
      ∧ t.reg.commanded = s.reg.commanded ∧ t.reg.reached = s.reg.reached
      ∧ t.table = { s.table with entries := [] }
      ∧ t.phase = (match s.phase with | .testing => .packed | .injecting => .holding | p => p)
      ∧ t.seq.stage.map (·.asOpened) = s.seq.stage.map (·.asOpened) ∧ t.seq.counter = s.seq.counter
      ∧ (s.phase = .testing → t.seq.stage.map (·.results) = some .abandoned)
      ∧ (s.phase = .injecting → t.seq.stage.map (·.holdTimer) = some 0)
      ∧ (s.phase = .waiting ∨ s.phase = .injecting ∨ s.phase = .holding →
          t.restraints.operator = true ∧ t.restraints.standoff = true
            ∧ t.seq.stage.map (·.pendingMix) = s.seq.stage.map (·.pendingMix)
            ∧ t.seq.stage.map (·.history) = s.seq.stage.map (·.history))
      ∧ t.seq.kept.standoff = true ∧ FieldAndSupplyKept s t
      ∧ t.link.seqCounter = 0 ∧ t.link.firstCount = 3
      ∧ (∃ k, t.link.slot = some ⟨false, 1, k, none, 0, [], 0⟩)
      ∧ t.link.sinceStart = s.link.sinceStart ∧ t.link.drops = s.link.drops ∧ t.link.counters = s.link.counters
      ∧ t.link.silence = s.link.silence ∧ t.link.receiver = s.link.receiver
      ∧ t.link.charOn = s.link.charOn ∧ t.link.sentTime = s.link.sentTime
      ∧ t.link.cut = (s.link.cut || s.link.sending.isSome)
      ∧ OnlyChanges [.conf, .coord, .reg, .table, .seq, .link, .panel] s t

/-- Every console row puts its command to the panel port (the model's choice, log entry 31). At a free panel, in every
station state, a code that names no command (the row UNKNOWN_CODE, with any argument bytes) is answered BAD_CODE; any
other command on a station that is LOADING or UNCONFIGURED is answered REFUSED_UNCONFIGURED, but STATUS and READ of
LINK, CHANNELS or STATION (a READ of a wrong length by its first argument, log entry 18); then an engineer command at
operator level REFUSED_LEVEL; then one of a wrong length BAD_ARG. A command so answered changes nothing but the panel's
command in process. (R172, R173.) -/
def Obligations.GeneralChecksInOrder : Prop :=
  ∀ (i : Instr) (c : PanelCmd) (s : State), consoleCommand i = some c →
    exec i s = .next (s.panelArrive c)
    ∧ (s.panelFree →
      (∀ x, c = .unknown x → RefusedWith i s c .badCode)
      ∧ ((∀ x, c ≠ .unknown x) → s.working = false → c.unconfiguredToo = false →
          RefusedWith i s c .refusedUnconfigured)
      ∧ ((∀ x, c ≠ .unknown x) → s.working = true → 16 ≤ c.code.toNat → s.engineer = false →
          RefusedWith i s c .refusedLevel)
      ∧ (∀ x l, c = .badLength x l → s.working = true → (16 ≤ x.toNat → s.engineer = true) →
          RefusedWith i s c .badArg))
    ∧ (∀ (code : Byte) (args : List Byte), i = .unknownCode code args → s.panelFree →
        code.toNat = 0 ∨ code.toNat = 14 ∨ code.toNat = 15 ∨ 23 ≤ code.toNat →
        ∃ t, exec (.unknownCode code args) s = .next t ∧ Answered s t (.unknown code) .badCode []
          ∧ OnlyChanges [.panel] s t)

/-- A console command that completes while the slot is occupied is discarded and PANEL_OVERRUN reported, counted unless
masked, and nothing else changes; while one is in process and the slot empty it enters the slot; at a free panel it is
in process afterwards. RESPONSE_END of a formed response leaves nothing in process where the slot is empty, and else
takes the slot's command into process and empties the slot; it leaves a command whose response is not formed. (R171.) -/
def Obligations.OneCommandInProcessOneWaiting : Prop :=
  (∀ (i : Instr) (c d : PanelCmd) (s : State), consoleCommand i = some c → s.panel.slot = some d →
    ∃ t, exec i s = .next t ∧ OnlyChanges [.faults] s t
      ∧ (∀ k, k ≠ .panelOverrun → t.faults.get k = s.faults.get k)
      ∧ (s.faults.panelOverrun.masked = false →
          t.faults.panelOverrun.count = satSucc 255 s.faults.panelOverrun.count
            ∧ t.faults.panelOverrun.last = some s.time.clock ∧ t.faults.panelOverrun.detail = none))
  ∧ (∀ (i : Instr) (c : PanelCmd) (p : InProcess) (s : State), consoleCommand i = some c →
    s.panel.slot = none → s.panel.inProcess = some p →
    exec i s = .next { s with panel := { s.panel with slot := some c } })
  ∧ (∀ (i : Instr) (c : PanelCmd) (s : State), consoleCommand i = some c → s.panelFree →
    ∃ t r, exec i s = .next t ∧ t.panel.inProcess = some ⟨c, r⟩ ∧ t.panel.slot = none)
  ∧ (∀ (s : State) (c : PanelCmd) (r : Response), s.panel.inProcess = some ⟨c, some r⟩ → s.panel.slot = none →
    exec .responseEnd s = .next { s with panel := { s.panel with inProcess := none } })
  ∧ (∀ (s : State) (c d : PanelCmd) (r : Response), s.panel.inProcess = some ⟨c, some r⟩ →
    s.panel.slot = some d →
    ∃ t x, exec .responseEnd s = .next t ∧ t.panel.inProcess = some ⟨d, x⟩ ∧ t.panel.slot = none
      ∧ exec .responseEnd s
          = .next (({ s with panel := { s.panel with inProcess := none, slot := none } } : State).takeCommand d))
  ∧ (∀ (s : State) (c : PanelCmd), s.panel.inProcess = some ⟨c, none⟩ → exec .responseEnd s = .next s)

/-- Hunting, a byte of 3 to 16 starts a message of that length and any other counts a bad frame and starts skipping. After
at most 500 units of silence: receiving, a byte before the last is added; a last byte that leaves the sum other than 0
discards the message and counts a bad frame; skipping, a byte is ignored. After more, a byte finds the receiver hunting,
a message begun discarded and counted as a bad frame. PANEL_SILENCE_TIMEOUT, a silence of more than 50 ms, discards a
message begun, counting a bad frame, and ends skipping; hunting it changes nothing but the silence. That the silence is
counted in units of 100 us, more than 50 ms being 501 of them, is log entries 1 and 15, and that the row lets that time
pass is log entry 1. (R170.) -/
def Obligations.PanelReceiverStates : Prop :=
  (∀ (s : State) (b : Byte), s.panel.receiver = .hunting →
    exec (.panelByteReceived b) s = .next { s with panel :=
      if 3 ≤ b.toNat ∧ b.toNat ≤ 16 then { s.panel with silence := 0, receiver := .receiving b.toNat [b] }
      else { s.panel with
        silence := 0, receiver := .skipping, badFrames := satSucc 65535 s.panel.badFrames } })
  ∧ (∀ (s : State) (b : Byte) (n : Nat) (got : List Byte), s.panel.receiver = .receiving n got →
    s.panel.silence ≤ 500 → got.length + 1 < n →
    exec (.panelByteReceived b) s
      = .next { s with panel := { s.panel with silence := 0, receiver := .receiving n (got ++ [b]) } })
  ∧ (∀ (s : State) (b : Byte) (n : Nat) (got : List Byte), s.panel.receiver = .receiving n got →
    s.panel.silence ≤ 500 → n ≤ got.length + 1 → sumBytes (got ++ [b]) ≠ 0#8 →
    exec (.panelByteReceived b) s = .next { s with panel := { s.panel with
      silence := 0, receiver := .hunting, badFrames := satSucc 65535 s.panel.badFrames } })
  ∧ (∀ (s : State) (b : Byte), s.panel.receiver = .skipping → s.panel.silence ≤ 500 →
    exec (.panelByteReceived b) s = .next { s with panel := { s.panel with silence := 0 } })
  ∧ (∀ s : State,
    let discarded : Panel := { s.panel with
      receiver := .hunting
      badFrames := match s.panel.receiver with
        | .receiving _ _ => satSucc 65535 s.panel.badFrames
        | _ => s.panel.badFrames }
    (∀ b : Byte, 500 < s.panel.silence →
      exec (.panelByteReceived b) s = exec (.panelByteReceived b) { s with panel := { discarded with silence := 0 } })
    ∧ exec .panelSilenceTimeout s
        = .next { s with panel := { discarded with silence := max s.panel.silence 501 } })

/-- For every code and at most 13 argument bytes, the message of R170 and R190 (length, code, arguments, check) delivered
byte by byte to a hunting receiver leaves exactly the state that the arrival of the command it spells leaves, and so
does PANEL_MESSAGE of the whole message (a row of the table for a whole message, log entry 31). (R170, R171, R190.) -/
def Obligations.PanelDeliversWholeMessages : Prop :=
  ∀ (code : Byte) (args : List Byte) (s : State), args.length ≤ 13 → s.panel.receiver = .hunting →
    let msg := withCheck ([byte (args.length + 3), code] ++ args)
    let after : State := { s with panel := { s.panel with silence := 0 } }
    msg.foldl (fun u b => u.panelByte b) s = after.panelArrive (parseCommand code args)
      ∧ exec (.panelMessage msg) s = .next (after.panelArrive (parseCommand code args))
      ∧ ∀ (b : Byte) (u : State), exec (.panelByteReceived b) u = .next (u.panelByte b)

/-- From every state of the invariant, a step that answers a next state answers one of it: no stage before the tag is
accepted; S 0 outside TESTING and INJECTING; the valve OPEN exactly in those; the suction WATER exactly in TESTING; S
at most S_max in TESTING and at most min(S_max, floor(100 x allowance / d)) in INJECTING. (R19, R72, R73, R74, R75.) -/
def Obligations.PumpInvariantKept : Prop :=
  ∀ s t : State, PumpInvariant s → step s = .next t → PumpInvariant t

/-- From every state of the invariant, a step that answers a next state answers one of it: at most 24 entries, no identity
twice, never the own identity, and each entry's distance that of its identity. (R132, R134, R136.) -/
def Obligations.TableInvariantKept : Prop :=
  ∀ s t : State, TableInvariant s → step s = .next t → TableInvariant t

/-- From every state of the invariant, a step that answers a next state answers one of it: on a working station STANDOFF
stands as its causes give, the set of a WAITING or HOLDING stage follows it and no pumping stage has it. So on a
working station whose table holds a conflicting active entry that precedes it, the phase after the step is neither
TESTING nor INJECTING. (R22, R149, R152.) -/
def Obligations.StandoffInvariantKept : Prop :=
  ∀ s t : State, StandoffFollows s → step s = .next t →
    StandoffFollows t
      ∧ (t.working = true → ∀ e ∈ t.table.entries, t.heldOffBy e = true → t.phase ≠ .testing ∧ t.phase ≠ .injecting)

/-- From every state of the invariant, a step that answers a next state answers one of it: at most 16 log records, no
stage number twice, and the open stage's number is the counter's and on no record. (R18, R177.) -/
def Obligations.LogInvariantKept : Prop :=
  ∀ s t : State, LogInvariant s → step s = .next t → LogInvariant t

/-- From every state of the invariant, a step that answers a next state answers one of it: remainders below 600 and 6,000,
the six stage counters at most 4,294,967,295, the link, bad-frame and sets-replaced counters at most 65,535, the drops
and every fault count at most 255. (R43, R100, R106, R130, R170, R185.) -/
def Obligations.CountersStayBounded : Prop :=
  ∀ s t : State, CountersBounded s → step s = .next t → CountersBounded t

/-- The pump, table, STANDOFF, log and counter invariants hold of the state right after reset. (R39, R78, R113, R131,
R147, R180, R185.) -/
def Obligations.ResetMeetsTheInvariants : Prop :=
  PumpInvariant State.reset ∧ TableInvariant State.reset ∧ StandoffFollows State.reset ∧ LogInvariant State.reset
    ∧ CountersBounded State.reset

/-- For every bulletin whose fields lie in the ranges of their encodings, the length of its body lies within 7 to 39, the
receiver's parse of the body gives that bulletin, and the checks on its frame (length, body, check value high byte
first) answer good with it. For every body, written by a station or not, the parse gives a bulletin exactly where the
content check of R128 and R188 passes. (R123, R128, R188.) -/
def Obligations.BulletinRoundTrip : Prop :=
  (∀ body : List Byte, (parseBody body).isSome = true ↔ BodyMeaningful body)
  ∧ ∀ b : Bulletin, b.wf →
    7 ≤ b.body.length ∧ b.body.length ≤ 39 ∧ parseBody b.body = some b
      ∧ b.frame = [0x55#8, 0xD2#8] ++ (byte b.body.length :: b.body)
          ++ be16 (crc16 (byte b.body.length :: b.body)).toNat
      ∧ checkFrame (byte b.body.length) b.body (be16 (crc16 (byte b.body.length :: b.body)).toNat) = .good b

/-- A station of lower class precedes; between equal classes the one of lower identity, line before chainage; and of any
two stations of different identities exactly one precedes the other. (R150.) -/
def Obligations.ExactlyOneStationPrecedes : Prop :=
  ∀ (m n : Nat) (a b : Identity),
    (precedes m a n b = true
        ↔ m < n ∨ m = n ∧ (a.line < b.line ∨ a.line = b.line ∧ a.chainage < b.chainage))
      ∧ (a ≠ b → (precedes m a n b = true ↔ precedes n b m a = false))

/-- One general evaluation on a working station forms the own supply class and demands by R164's table for the phase and
refusal timer it finds; with a stage open it leaves n, the three limits and the step limit as the table, the own uplift
and the stage's profile give them, and without one the step limit as it was. So every SECOND_BOUNDARY leaves them with a
stage open, and UPLIFT presented exactly while a source is in STOP. A supply evaluation forms the class and demands so
too; the participants are the own station and the INJECTING entries with a demand; C is the sum over the CRITICAL ones;
the allowance of a CRITICAL station is its demand, scaled by Qcap over C and floored under overload; that of a NORMAL
one is what the walk, in the order of demand per weight and then identity, has left for it behind those before it, at
most its demand. It never exceeds Qcap; the step limit lies from 1 to T for a profile with T at least 1; with equal
margins two stages conflict in depth from either side alike.
(R151, R156, R160, R162, R163, R164, R165, R166.) -/
def Obligations.CoordinationStaysInBounds : Prop :=
  (∀ s : State, s.working = true →
    DemandFormed s s.evaluateOnce
      ∧ (s.phase ≠ .vacant → s.evaluateOnce.LimitsFormed)
      ∧ (s.phase = .vacant → s.evaluateOnce.coord.limit = s.coord.limit))
  ∧ (∀ (ord : BoundaryOrder) (s : State), s.boundaryOpen → s.working = true →
    ∃ t, exec (.secondBoundary ord) s = .next t ∧ (t.phase ≠ .vacant → t.LimitsFormed)
      ∧ (t.phase = .vacant → t.coord.limit = s.coord.limit) ∧ (t.seq.kept.uplift = true ↔ t.sourceReports .stop))
  ∧ (∀ s : State, DemandFormed s s.formDemand ∧ DemandFormed s s.formSupply
      ∧ s.formSupply.coord.allowance = s.formDemand.allowanceNow
      ∧ s.formSupply.coord.criticalTotal = ((s.formDemand.participants.filter (·.critical)).map (·.demand)).sum
      ∧ s.formSupply.coord.participants = s.formDemand.participants.length)
  ∧ (∀ s : State,
    let all := s.participants
    let c := ((all.filter (·.critical)).map (·.demand)).sum
    let normal := all.filter fun p => !p.critical
    let demand := s.ownShare.demand
    (∀ p, p ∈ all ↔ p = s.ownShare ∨ ∃ e ∈ s.table.entries, ∃ x, e.stage = some x ∧ e.phase = .injecting
        ∧ 0 < x.demand ∧ p = ⟨x.critical, x.demand, e.weight, e.identity, false⟩)
      ∧ (s.coord.critical = true → c ≤ s.conf.tag.qCap → s.allowanceNow = demand)
      ∧ (s.coord.critical = true → s.conf.tag.qCap < c →
          s.allowanceNow * c ≤ demand * s.conf.tag.qCap ∧ demand * s.conf.tag.qCap < (s.allowanceNow + 1) * c)
      ∧ (s.coord.critical = false → ∃ before after : List Participant,
          (before ++ s.ownShare :: after).Perm normal ∧ InShareOrder (before ++ s.ownShare :: after)
            ∧ let left := before.foldl Participant.takes (s.conf.tag.qCap - c, (normal.map (·.weight)).sum)
              s.allowanceNow = min demand (left.1 * s.conf.tag.weight / left.2)))
  ∧ (∀ s : State, s.formDemand.allowanceNow ≤ s.conf.tag.qCap)
  ∧ (∀ s : State, 1 ≤ s.profile.top → 1 ≤ s.stepLimit ∧ s.stepLimit ≤ s.profile.top
      ∧ (1 ≤ s.reg.commanded → 1 ≤ min s.reg.commanded s.stepLimit))
  ∧ ∀ t1 b1 t2 b2 m : Int, overlaps t1 b1 (t2 - m) (b2 + m) = overlaps t2 b2 (t1 - m) (b1 + m)
end

