-- ==== Sys2Proof/Laws/PerInstr.lean ====
section
/-! SUPPORT. Statements made for each command as syntax: every console row is spelled by a message (R170, R190). -/

namespace Sys2Proof.Laws

open Sys2Proof.Machine

/-- A 16-bit argument field reads back as the number it was written from (12.2). -/
theorem ofBytes_be16 (w : Word16) : ofBytes (be16 w.toNat) = w.toNat := by
  have h := w.isLt
  simp [ofBytes, be16, byte]
  omega

/-- A 32-bit argument field reads back as the number it was written from (12.2). -/
theorem ofBytes_be32 (w : BitVec 32) : ofBytes (be32 w.toNat) = w.toNat := by
  have h := w.isLt
  simp [ofBytes, be32, byte]
  omega

namespace Spelled

/-- The command that a well-formed console row puts to the panel port is what some argument bytes, at most the 13 that a
message holds, spell after that command's code (R170, R172, R190). -/
def Statement (i : Instr) : Prop :=
  i.wf = true → ∀ c, consoleCommand i = some c → ∃ args : List Byte, args.length ≤ 13 ∧ parseCommand c.code args = c

theorem powerOnReset : Statement .powerOnReset :=
  fun _ _ hd => nomatch hd

theorem sampleSet (inp : SampleInput) (ord : SampleOrder) : Statement (.sampleSet inp ord) :=
  fun _ _ hd => nomatch hd

theorem secondBoundary (ord : BoundaryOrder) : Statement (.secondBoundary ord) :=
  fun _ _ hd => nomatch hd

theorem channelFail (ch : Channel) (code : RawCode) : Statement (.channelFail ch code) :=
  fun _ _ hd => nomatch hd

theorem channelRecover (ch : Channel) (code : RawCode) : Statement (.channelRecover ch code) :=
  fun _ _ hd => nomatch hd

theorem inputDebounceAccept (i : Input) (level : Bool) : Statement (.inputDebounceAccept i level) :=
  fun _ _ hd => nomatch hd

theorem reckoningCompletion (ord : List CompletionTask) : Statement (.reckoningCompletion ord) :=
  fun _ _ hd => nomatch hd

theorem reachedStepArrival : Statement .reachedStepArrival :=
  fun _ _ hd => nomatch hd

theorem autoAdvance : Statement .autoAdvance :=
  fun _ _ hd => nomatch hd

theorem testStepEnd : Statement .testStepEnd :=
  fun _ _ hd => nomatch hd

theorem mixConfirm : Statement .mixConfirm :=
  fun _ _ hd => nomatch hd

theorem mixTimeout : Statement .mixTimeout :=
  fun _ _ hd => nomatch hd

theorem endCriteriaClose : Statement .endCriteriaClose :=
  fun _ _ hd => nomatch hd

theorem holdTimerExpiry : Statement .holdTimerExpiry :=
  fun _ _ hd => nomatch hd

theorem periodicRequest : Statement .periodicRequest :=
  fun _ _ hd => nomatch hd

theorem holdOffEnd : Statement .holdOffEnd :=
  fun _ _ hd => nomatch hd

theorem attemptStart : Statement .attemptStart :=
  fun _ _ hd => nomatch hd

theorem accessTimeout : Statement .accessTimeout :=
  fun _ _ hd => nomatch hd

theorem transmissionComplete : Statement .transmissionComplete :=
  fun _ _ hd => nomatch hd

theorem attemptFailed : Statement .attemptFailed :=
  fun _ _ hd => nomatch hd

theorem linkJam : Statement .linkJam :=
  fun _ _ hd => nomatch hd

theorem lineIdle : Statement .lineIdle :=
  fun _ _ hd => nomatch hd

theorem frameReceived (bytes : List Byte) : Statement (.frameReceived bytes) :=
  fun _ _ hd => nomatch hd

theorem badLengthFrame (n : Byte) : Statement (.badLengthFrame n) :=
  fun _ _ hd => nomatch hd

theorem fragment (why : FragmentCause) : Statement (.fragment why) :=
  fun _ _ hd => nomatch hd

theorem duplicateClear : Statement .duplicateClear :=
  fun _ _ hd => nomatch hd

theorem entryStale (id : Identity) : Statement (.entryStale id) :=
  fun _ _ hd => nomatch hd

theorem entryRemoved (id : Identity) : Statement (.entryRemoved id) :=
  fun _ _ hd => nomatch hd

theorem supplyPresent (why : SupplyCause) : Statement (.supplyPresent why) :=
  fun _ _ hd => nomatch hd

theorem supplyAbsent : Statement .supplyAbsent :=
  fun _ _ hd => nomatch hd

theorem listenEnd : Statement .listenEnd :=
  fun _ _ hd => nomatch hd

theorem connectionReportStart : Statement .connectionReportStart :=
  fun _ _ hd => nomatch hd

theorem connectionReportClear : Statement .connectionReportClear :=
  fun _ _ hd => nomatch hd

theorem tagLoadComplete (image : List Byte) : Statement (.tagLoadComplete image) :=
  fun _ _ hd => nomatch hd

theorem tagLoadTimeout : Statement .tagLoadTimeout :=
  fun _ _ hd => nomatch hd

theorem panelMessage (bytes : List Byte) : Statement (.panelMessage bytes) :=
  fun _ _ hd => nomatch hd

theorem panelSilenceTimeout : Statement .panelSilenceTimeout :=
  fun _ _ hd => nomatch hd

theorem responseEnd : Statement .responseEnd :=
  fun _ _ hd => nomatch hd

theorem unknownCode (code : Byte) (args : List Byte) : Statement (.unknownCode code args) :=
  fun h d hd => by
  have hu : parseCommand code args = .unknown code := by simp [Instr.wf, namesNoCommand] at h; exact h.1
  have hl : args.length ≤ 13 := by simp [Instr.wf, namesNoCommand] at h; exact h.2
  have e : parseCommand code args = d := Option.some.inj hd
  rw [hu] at e
  subst e
  exact ⟨args, hl, hu⟩

theorem status : Statement .status :=
  fun _ _ hd => ⟨[], by simp, by cases hd; rfl⟩

theorem openStage (top bottom : Word16) (profile test advance : Byte) :
    Statement (.openStage top bottom profile test advance) :=
  fun _ d hd => by
  obtain rfl : PanelCmd.openStage top.toNat bottom.toNat profile test advance = d := Option.some.inj hd
  refine ⟨be16 top.toNat ++ be16 bottom.toNat ++ [profile, test, advance], by simp [be16], ?_⟩
  have e : parseCommand 0x02#8 (be16 top.toNat ++ be16 bottom.toNat ++ [profile, test, advance])
      = .openStage (ofBytes (be16 top.toNat)) (ofBytes (be16 bottom.toNat)) profile test advance := rfl
  rw [ofBytes_be16, ofBytes_be16] at e
  exact e

theorem start : Statement .start :=
  fun _ _ hd => ⟨[], by simp, by cases hd; rfl⟩

theorem stepTo (n : Byte) : Statement (.stepTo n) :=
  fun _ _ hd => ⟨[n], by simp, by cases hd; rfl⟩

theorem hold : Statement .hold :=
  fun _ _ hd => ⟨[], by simp, by cases hd; rfl⟩

theorem release : Statement .release :=
  fun _ _ hd => ⟨[], by simp, by cases hd; rfl⟩

theorem stop : Statement .stop :=
  fun _ _ hd => ⟨[], by simp, by cases hd; rfl⟩

theorem abort : Statement .abort :=
  fun _ _ hd => ⟨[], by simp, by cases hd; rfl⟩

theorem accept : Statement .accept :=
  fun _ _ hd => ⟨[], by simp, by cases hd; rfl⟩

theorem read (item window index : Byte) : Statement (.read item window index) :=
  fun _ _ hd => ⟨[item, window, index], by simp, by cases hd; rfl⟩

theorem logRead (k : Byte) : Statement (.logRead k) :=
  fun _ _ hd => ⟨[k], by simp, by cases hd; rfl⟩

theorem logTake : Statement .logTake :=
  fun _ _ hd => ⟨[], by simp, by cases hd; rfl⟩

theorem snap : Statement .snap :=
  fun _ _ hd => ⟨[], by simp, by cases hd; rfl⟩

theorem mix (n : Byte) : Statement (.mix n) :=
  fun _ _ hd => ⟨[n], by simp, by cases hd; rfl⟩

theorem tune (profile field : Byte) (value : BitVec 32) : Statement (.tune profile field value) :=
  fun _ d hd => by
  obtain rfl : PanelCmd.tune profile field value.toNat = d := Option.some.inj hd
  refine ⟨[profile, field] ++ be32 value.toNat, by simp [be32], ?_⟩
  have e : parseCommand 0x11#8 ([profile, field] ++ be32 value.toNat)
      = .tune profile field (ofBytes (be32 value.toNat)) := rfl
  rw [ofBytes_be32] at e
  exact e

theorem lock : Statement .lock :=
  fun _ _ hd => ⟨[], by simp, by cases hd; rfl⟩

theorem auto (setting : Byte) : Statement (.auto setting) :=
  fun _ _ hd => ⟨[setting], by simp, by cases hd; rfl⟩

theorem mask (kind setting : Byte) : Statement (.mask kind setting) :=
  fun _ _ hd => ⟨[kind, setting], by simp, by cases hd; rfl⟩

theorem faultClear : Statement .faultClear :=
  fun _ _ hd => ⟨[], by simp, by cases hd; rfl⟩

theorem restart : Statement .restart :=
  fun _ _ hd => ⟨[], by simp, by cases hd; rfl⟩

theorem startBitSeen : Statement .startBitSeen :=
  fun _ _ hd => nomatch hd

theorem characterReceived (b : Byte) (stopFound : Bool) : Statement (.characterReceived b stopFound) :=
  fun _ _ hd => nomatch hd

theorem panelByteReceived (b : Byte) : Statement (.panelByteReceived b) :=
  fun _ _ hd => nomatch hd

end Spelled

end Sys2Proof.Laws
end

