-- ==== Sys2Proof/Laws/State.lean ====
section
/-! SUPPORT. For each shared operation, the fields of State that it leaves as they are, in one lemma that simp cites, so
that no proof unfolds a record update to learn them. -/

namespace Sys2Proof.Machine

/-! ## Fault record -/

@[simp] theorem State.report_frame (k : FaultKind) (d : Option Detail) (s : State) :
    (s.report k d).time = s.time ∧ (s.report k d).meas = s.meas ∧ (s.report k d).seq = s.seq
    ∧ (s.report k d).env = s.env ∧ (s.report k d).reg = s.reg ∧ (s.report k d).take = s.take
    ∧ (s.report k d).link = s.link ∧ (s.report k d).table = s.table ∧ (s.report k d).coord = s.coord
    ∧ (s.report k d).panel = s.panel ∧ (s.report k d).conf = s.conf ∧ (s.report k d).pending = s.pending
    ∧ (s.report k d).freeCount = s.freeCount := by
  simp [State.report]

@[simp] theorem State.setPresent_frame (k : FaultKind) (p : Bool) (s : State) :
    (s.setPresent k p).time = s.time ∧ (s.setPresent k p).meas = s.meas ∧ (s.setPresent k p).seq = s.seq
    ∧ (s.setPresent k p).env = s.env ∧ (s.setPresent k p).reg = s.reg ∧ (s.setPresent k p).take = s.take
    ∧ (s.setPresent k p).link = s.link ∧ (s.setPresent k p).table = s.table ∧ (s.setPresent k p).coord = s.coord
    ∧ (s.setPresent k p).panel = s.panel ∧ (s.setPresent k p).conf = s.conf ∧ (s.setPresent k p).pending = s.pending
    ∧ (s.setPresent k p).freeCount = s.freeCount := by
  simp [State.setPresent]

/-! ## Measurement Unit -/

@[simp] theorem State.setChannel_frame (ch : Channel) (c : ChannelState) (s : State) :
    (s.setChannel ch c).time = s.time ∧ (s.setChannel ch c).seq = s.seq ∧ (s.setChannel ch c).env = s.env
    ∧ (s.setChannel ch c).reg = s.reg ∧ (s.setChannel ch c).take = s.take ∧ (s.setChannel ch c).link = s.link
    ∧ (s.setChannel ch c).table = s.table ∧ (s.setChannel ch c).coord = s.coord ∧ (s.setChannel ch c).panel = s.panel
    ∧ (s.setChannel ch c).conf = s.conf ∧ (s.setChannel ch c).faults = s.faults ∧ (s.setChannel ch c).pending = s.pending
    ∧ (s.setChannel ch c).freeCount = s.freeCount := by
  simp [State.setChannel]

@[simp] theorem State.sampleChannel_frame (ch : Channel) (code : RawCode) (s : State) :
    (s.sampleChannel ch code).time = s.time ∧ (s.sampleChannel ch code).seq = s.seq ∧ (s.sampleChannel ch code).env = s.env
    ∧ (s.sampleChannel ch code).reg = s.reg ∧ (s.sampleChannel ch code).take = s.take ∧ (s.sampleChannel ch code).link = s.link
    ∧ (s.sampleChannel ch code).table = s.table ∧ (s.sampleChannel ch code).coord = s.coord ∧ (s.sampleChannel ch code).panel = s.panel
    ∧ (s.sampleChannel ch code).conf = s.conf ∧ (s.sampleChannel ch code).pending = s.pending ∧ (s.sampleChannel ch code).freeCount = s.freeCount := by
  simp only [State.sampleChannel]; (repeat' split) <;> simp

@[simp] theorem State.sampleInput_frame (i : Input) (level : Bool) (s : State) :
    (s.sampleInput i level).time = s.time ∧ (s.sampleInput i level).seq = s.seq ∧ (s.sampleInput i level).env = s.env
    ∧ (s.sampleInput i level).reg = s.reg ∧ (s.sampleInput i level).take = s.take ∧ (s.sampleInput i level).link = s.link
    ∧ (s.sampleInput i level).table = s.table ∧ (s.sampleInput i level).coord = s.coord ∧ (s.sampleInput i level).panel = s.panel
    ∧ (s.sampleInput i level).conf = s.conf ∧ (s.sampleInput i level).faults = s.faults ∧ (s.sampleInput i level).pending = s.pending
    ∧ (s.sampleInput i level).freeCount = s.freeCount := by
  simp [State.sampleInput]

/-! ## Link Controller -/

@[simp] theorem State.modLink_frame (f : Link → Link) (s : State) :
    (s.modLink f).time = s.time ∧ (s.modLink f).meas = s.meas ∧ (s.modLink f).seq = s.seq
    ∧ (s.modLink f).env = s.env ∧ (s.modLink f).reg = s.reg ∧ (s.modLink f).take = s.take
    ∧ (s.modLink f).table = s.table ∧ (s.modLink f).coord = s.coord ∧ (s.modLink f).panel = s.panel
    ∧ (s.modLink f).conf = s.conf ∧ (s.modLink f).faults = s.faults ∧ (s.modLink f).pending = s.pending
    ∧ (s.modLink f).freeCount = s.freeCount := by
  simp [State.modLink]

@[simp] theorem State.countLink_frame (f : LinkCounters → LinkCounters) (s : State) :
    (s.countLink f).time = s.time ∧ (s.countLink f).meas = s.meas ∧ (s.countLink f).seq = s.seq
    ∧ (s.countLink f).env = s.env ∧ (s.countLink f).reg = s.reg ∧ (s.countLink f).take = s.take
    ∧ (s.countLink f).table = s.table ∧ (s.countLink f).coord = s.coord ∧ (s.countLink f).panel = s.panel
    ∧ (s.countLink f).conf = s.conf ∧ (s.countLink f).faults = s.faults ∧ (s.countLink f).pending = s.pending
    ∧ (s.countLink f).freeCount = s.freeCount := by
  simp [State.countLink]

@[simp] theorem State.urgent_frame (s : State) :
    s.urgent.time = s.time ∧ s.urgent.meas = s.meas ∧ s.urgent.seq = s.seq
    ∧ s.urgent.env = s.env ∧ s.urgent.reg = s.reg ∧ s.urgent.take = s.take
    ∧ s.urgent.table = s.table ∧ s.urgent.coord = s.coord ∧ s.urgent.panel = s.panel
    ∧ s.urgent.conf = s.conf ∧ s.urgent.faults = s.faults ∧ s.urgent.pending = s.pending
    ∧ s.urgent.freeCount = s.freeCount := by
  simp only [State.urgent]; (repeat' split) <;> simp

@[simp] theorem State.dropOutgoing_frame (s : State) :
    s.dropOutgoing.time = s.time ∧ s.dropOutgoing.meas = s.meas ∧ s.dropOutgoing.seq = s.seq
    ∧ s.dropOutgoing.env = s.env ∧ s.dropOutgoing.reg = s.reg ∧ s.dropOutgoing.take = s.take
    ∧ s.dropOutgoing.table = s.table ∧ s.dropOutgoing.coord = s.coord ∧ s.dropOutgoing.panel = s.panel
    ∧ s.dropOutgoing.conf = s.conf ∧ s.dropOutgoing.pending = s.pending ∧ s.dropOutgoing.freeCount = s.freeCount := by
  simp only [State.dropOutgoing]; (repeat' split) <;> simp

@[simp] theorem State.failAttempt_frame (o : Outgoing) (s : State) :
    (s.failAttempt o).time = s.time ∧ (s.failAttempt o).meas = s.meas ∧ (s.failAttempt o).seq = s.seq
    ∧ (s.failAttempt o).env = s.env ∧ (s.failAttempt o).reg = s.reg ∧ (s.failAttempt o).take = s.take
    ∧ (s.failAttempt o).table = s.table ∧ (s.failAttempt o).coord = s.coord ∧ (s.failAttempt o).panel = s.panel
    ∧ (s.failAttempt o).conf = s.conf ∧ (s.failAttempt o).pending = s.pending ∧ (s.failAttempt o).freeCount = s.freeCount := by
  simp only [State.failAttempt]; (repeat' split) <;> simp

@[simp] theorem State.completeTransmission_frame (s : State) :
    s.completeTransmission.time = s.time ∧ s.completeTransmission.meas = s.meas ∧ s.completeTransmission.seq = s.seq
    ∧ s.completeTransmission.env = s.env ∧ s.completeTransmission.reg = s.reg ∧ s.completeTransmission.take = s.take
    ∧ s.completeTransmission.table = s.table ∧ s.completeTransmission.coord = s.coord ∧ s.completeTransmission.panel = s.panel
    ∧ s.completeTransmission.conf = s.conf ∧ s.completeTransmission.pending = s.pending ∧ s.completeTransmission.freeCount = s.freeCount := by
  simp [State.completeTransmission]

@[simp] theorem State.beginAttempt_frame (o : Outgoing) (s : State) :
    (s.beginAttempt o).time = s.time ∧ (s.beginAttempt o).meas = s.meas ∧ (s.beginAttempt o).seq = s.seq
    ∧ (s.beginAttempt o).env = s.env ∧ (s.beginAttempt o).reg = s.reg ∧ (s.beginAttempt o).take = s.take
    ∧ (s.beginAttempt o).table = s.table ∧ (s.beginAttempt o).coord = s.coord ∧ (s.beginAttempt o).panel = s.panel
    ∧ (s.beginAttempt o).conf = s.conf ∧ (s.beginAttempt o).faults = s.faults ∧ (s.beginAttempt o).pending = s.pending := by
  simp [State.beginAttempt]

@[simp] theorem State.readBack_frame (o : Outgoing) (b : Byte) (stopFound : Bool) (s : State) :
    (s.readBack o b stopFound).time = s.time ∧ (s.readBack o b stopFound).meas = s.meas ∧ (s.readBack o b stopFound).seq = s.seq
    ∧ (s.readBack o b stopFound).env = s.env ∧ (s.readBack o b stopFound).reg = s.reg ∧ (s.readBack o b stopFound).take = s.take
    ∧ (s.readBack o b stopFound).table = s.table ∧ (s.readBack o b stopFound).coord = s.coord ∧ (s.readBack o b stopFound).panel = s.panel
    ∧ (s.readBack o b stopFound).conf = s.conf ∧ (s.readBack o b stopFound).pending = s.pending ∧ (s.readBack o b stopFound).freeCount = s.freeCount := by
  simp only [State.readBack]; (repeat' split) <;> simp

@[simp] theorem State.pass_frame (d : Nat) (s : State) :
    (s.pass d).time = s.time ∧ (s.pass d).meas = s.meas ∧ (s.pass d).seq = s.seq
    ∧ (s.pass d).env = s.env ∧ (s.pass d).reg = s.reg ∧ (s.pass d).take = s.take
    ∧ (s.pass d).table = s.table ∧ (s.pass d).coord = s.coord ∧ (s.pass d).conf = s.conf
    ∧ (s.pass d).faults = s.faults ∧ (s.pass d).pending = s.pending ∧ (s.pass d).freeCount = s.freeCount := by
  simp [State.pass]

@[simp] theorem State.failInHand_frame (o : Outgoing) (s : State) :
    (s.failInHand o).time = s.time ∧ (s.failInHand o).meas = s.meas ∧ (s.failInHand o).seq = s.seq
    ∧ (s.failInHand o).env = s.env ∧ (s.failInHand o).reg = s.reg ∧ (s.failInHand o).take = s.take
    ∧ (s.failInHand o).table = s.table ∧ (s.failInHand o).coord = s.coord ∧ (s.failInHand o).conf = s.conf
    ∧ (s.failInHand o).pending = s.pending ∧ (s.failInHand o).freeCount = s.freeCount := by
  simp only [State.failInHand, State.atMoment]; (repeat' split) <;> simp

/-- Time on the panel line leaves the command in process, the slot and the log. -/
@[simp] theorem Panel.pass_frame (d : Nat) (p : Panel) :
    (p.pass d).inProcess = p.inProcess ∧ (p.pass d).slot = p.slot ∧ (p.pass d).log = p.log
    ∧ (p.pass d).silence = p.silence + d := by
  simp only [Panel.pass, Panel.silenceReached]; (repeat' split) <;> simp

/-- R170: the receiver after a passage of panel time: as it was up to a silence of 50 ms, and hunting after it. -/
theorem Panel.pass_receiver (d : Nat) (p : Panel) :
    (p.silence + d ≤ 500 → (p.pass d).receiver = p.receiver ∧ (p.pass d).badFrames = p.badFrames)
    ∧ (500 < p.silence + d → (p.pass d).receiver = .hunting) := by
  have limit : panelSilenceLimit = 500 := rfl
  unfold Panel.pass Panel.silenceReached
  split
  · next h => exact ⟨fun k => absurd k (by simp [limit] at h; omega), fun _ => by split <;> simp_all⟩
  · next h => exact ⟨fun _ => ⟨rfl, rfl⟩, fun k => absurd k (by simp [limit] at h; omega)⟩

/-- What a row that names a moment of link time does: it acts at its moment, or the moment has not come. -/
theorem State.atMoment_cases (d : Nat) (f : State → State) (s : State) :
    (s.linkReaches d = true ∧ s.atMoment d f = f (s.pass d)) ∨ (s.linkReaches d = false ∧ s.atMoment d f = s) := by
  simp only [State.atMoment]; split <;> simp_all

/-! ## Stage Sequencer -/

@[simp] theorem State.modStage_frame (f : StageRecord → StageRecord) (s : State) :
    (s.modStage f).time = s.time ∧ (s.modStage f).meas = s.meas ∧ (s.modStage f).env = s.env
    ∧ (s.modStage f).reg = s.reg ∧ (s.modStage f).take = s.take ∧ (s.modStage f).link = s.link
    ∧ (s.modStage f).table = s.table ∧ (s.modStage f).coord = s.coord ∧ (s.modStage f).panel = s.panel
    ∧ (s.modStage f).conf = s.conf ∧ (s.modStage f).faults = s.faults ∧ (s.modStage f).pending = s.pending
    ∧ (s.modStage f).freeCount = s.freeCount := by
  simp [State.modStage]

@[simp] theorem State.handover_frame (old new : Phase) (s : State) :
    (s.handover old new).time = s.time ∧ (s.handover old new).meas = s.meas ∧ (s.handover old new).take = s.take
    ∧ (s.handover old new).table = s.table ∧ (s.handover old new).panel = s.panel ∧ (s.handover old new).conf = s.conf
    ∧ (s.handover old new).faults = s.faults ∧ (s.handover old new).pending = s.pending ∧ (s.handover old new).freeCount = s.freeCount := by
  simp [State.handover]

@[simp] theorem State.enterPhase_frame (new : Phase) (s : State) :
    (s.enterPhase new).time = s.time ∧ (s.enterPhase new).meas = s.meas ∧ (s.enterPhase new).take = s.take
    ∧ (s.enterPhase new).table = s.table ∧ (s.enterPhase new).panel = s.panel ∧ (s.enterPhase new).conf = s.conf
    ∧ (s.enterPhase new).faults = s.faults ∧ (s.enterPhase new).pending = s.pending ∧ (s.enterPhase new).freeCount = s.freeCount := by
  simp only [State.enterPhase]; (repeat' split) <;> simp

@[simp] theorem State.vacate_frame (s : State) :
    s.vacate.time = s.time ∧ s.vacate.meas = s.meas ∧ s.vacate.take = s.take
    ∧ s.vacate.table = s.table ∧ s.vacate.panel = s.panel ∧ s.vacate.conf = s.conf
    ∧ s.vacate.faults = s.faults ∧ s.vacate.pending = s.pending ∧ s.vacate.freeCount = s.freeCount := by
  simp [State.vacate]

/-- Only an entry into VACANT touches the Envelope Unit (R44). -/
@[simp] theorem State.enterPhase_env {new : Phase} (h : new ≠ .vacant) (s : State) : (s.enterPhase new).env = s.env := by
  simp [State.enterPhase, State.handover, Envelope.handed, h]

@[simp] theorem State.abandonTest_frame (s : State) :
    s.abandonTest.time = s.time ∧ s.abandonTest.meas = s.meas ∧ s.abandonTest.env = s.env
    ∧ s.abandonTest.reg = s.reg ∧ s.abandonTest.take = s.take ∧ s.abandonTest.link = s.link
    ∧ s.abandonTest.table = s.table ∧ s.abandonTest.coord = s.coord ∧ s.abandonTest.panel = s.panel
    ∧ s.abandonTest.conf = s.conf ∧ s.abandonTest.faults = s.faults ∧ s.abandonTest.pending = s.pending
    ∧ s.abandonTest.freeCount = s.freeCount := by
  simp [State.abandonTest]

@[simp] theorem State.requestMix_frame (m : Nat) (s : State) :
    (s.requestMix m).time = s.time ∧ (s.requestMix m).meas = s.meas ∧ (s.requestMix m).env = s.env
    ∧ (s.requestMix m).reg = s.reg ∧ (s.requestMix m).take = s.take ∧ (s.requestMix m).link = s.link
    ∧ (s.requestMix m).table = s.table ∧ (s.requestMix m).coord = s.coord ∧ (s.requestMix m).panel = s.panel
    ∧ (s.requestMix m).conf = s.conf ∧ (s.requestMix m).faults = s.faults ∧ (s.requestMix m).pending = s.pending
    ∧ (s.requestMix m).freeCount = s.freeCount := by
  simp [State.requestMix]

@[simp] theorem State.setRestraints_frame (r : Restraints) (s : State) :
    (s.setRestraints r).time = s.time ∧ (s.setRestraints r).meas = s.meas ∧ (s.setRestraints r).env = s.env
    ∧ (s.setRestraints r).reg = s.reg ∧ (s.setRestraints r).take = s.take ∧ (s.setRestraints r).link = s.link
    ∧ (s.setRestraints r).table = s.table ∧ (s.setRestraints r).coord = s.coord ∧ (s.setRestraints r).panel = s.panel
    ∧ (s.setRestraints r).conf = s.conf ∧ (s.setRestraints r).faults = s.faults ∧ (s.setRestraints r).pending = s.pending
    ∧ (s.setRestraints r).freeCount = s.freeCount := by
  simp [State.setRestraints]

@[simp] theorem State.enterInjectingFirst_frame (s : State) :
    s.enterInjectingFirst.time = s.time ∧ s.enterInjectingFirst.meas = s.meas ∧ s.enterInjectingFirst.env = s.env
    ∧ s.enterInjectingFirst.take = s.take ∧ s.enterInjectingFirst.table = s.table ∧ s.enterInjectingFirst.panel = s.panel
    ∧ s.enterInjectingFirst.conf = s.conf ∧ s.enterInjectingFirst.faults = s.faults ∧ s.enterInjectingFirst.pending = s.pending
    ∧ s.enterInjectingFirst.freeCount = s.freeCount := by
  simp only [State.enterInjectingFirst]; (repeat' split) <;> simp

@[simp] theorem State.enterWaiting_frame (b : Restraints) (s : State) :
    (s.enterWaiting b).time = s.time ∧ (s.enterWaiting b).meas = s.meas ∧ (s.enterWaiting b).env = s.env
    ∧ (s.enterWaiting b).take = s.take ∧ (s.enterWaiting b).table = s.table ∧ (s.enterWaiting b).panel = s.panel
    ∧ (s.enterWaiting b).conf = s.conf ∧ (s.enterWaiting b).faults = s.faults ∧ (s.enterWaiting b).pending = s.pending
    ∧ (s.enterWaiting b).freeCount = s.freeCount := by
  simp only [State.enterWaiting]; (repeat' split) <;> simp

@[simp] theorem State.enterHolding_frame (b : Restraints) (s : State) :
    (s.enterHolding b).time = s.time ∧ (s.enterHolding b).meas = s.meas ∧ (s.enterHolding b).env = s.env
    ∧ (s.enterHolding b).take = s.take ∧ (s.enterHolding b).table = s.table ∧ (s.enterHolding b).panel = s.panel
    ∧ (s.enterHolding b).conf = s.conf ∧ (s.enterHolding b).faults = s.faults ∧ (s.enterHolding b).pending = s.pending
    ∧ (s.enterHolding b).freeCount = s.freeCount := by
  simp [State.enterHolding]

@[simp] theorem State.changeSet_frame (r : Restraints) (s : State) :
    (s.changeSet r).time = s.time ∧ (s.changeSet r).meas = s.meas ∧ (s.changeSet r).env = s.env
    ∧ (s.changeSet r).take = s.take ∧ (s.changeSet r).table = s.table ∧ (s.changeSet r).panel = s.panel
    ∧ (s.changeSet r).conf = s.conf ∧ (s.changeSet r).faults = s.faults ∧ (s.changeSet r).pending = s.pending
    ∧ (s.changeSet r).freeCount = s.freeCount := by
  simp only [State.changeSet]; (repeat' split) <;> simp

@[simp] theorem State.arrive_frame (r : Restraints) (s : State) :
    (s.arrive r).time = s.time ∧ (s.arrive r).meas = s.meas ∧ (s.arrive r).env = s.env
    ∧ (s.arrive r).take = s.take ∧ (s.arrive r).table = s.table ∧ (s.arrive r).panel = s.panel
    ∧ (s.arrive r).conf = s.conf ∧ (s.arrive r).faults = s.faults ∧ (s.arrive r).pending = s.pending
    ∧ (s.arrive r).freeCount = s.freeCount := by
  simp only [State.arrive]; (repeat' split) <;> simp

@[simp] theorem State.present_frame (k : Conditions) (r : Restraints) (s : State) :
    (s.present k r).time = s.time ∧ (s.present k r).meas = s.meas ∧ (s.present k r).env = s.env
    ∧ (s.present k r).take = s.take ∧ (s.present k r).table = s.table ∧ (s.present k r).panel = s.panel
    ∧ (s.present k r).conf = s.conf ∧ (s.present k r).faults = s.faults ∧ (s.present k r).pending = s.pending
    ∧ (s.present k r).freeCount = s.freeCount := by
  simp only [State.present]; (repeat' split) <;> simp

@[simp] theorem State.presentField_frame (s : State) :
    s.presentField.time = s.time ∧ s.presentField.meas = s.meas ∧ s.presentField.env = s.env
    ∧ s.presentField.take = s.take ∧ s.presentField.table = s.table ∧ s.presentField.panel = s.panel
    ∧ s.presentField.conf = s.conf ∧ s.presentField.faults = s.faults ∧ s.presentField.pending = s.pending
    ∧ s.presentField.freeCount = s.freeCount := by
  simp [State.presentField]

@[simp] theorem State.presentSupply_frame (p : Bool) (s : State) :
    (s.presentSupply p).time = s.time ∧ (s.presentSupply p).meas = s.meas ∧ (s.presentSupply p).env = s.env
    ∧ (s.presentSupply p).take = s.take ∧ (s.presentSupply p).table = s.table ∧ (s.presentSupply p).panel = s.panel
    ∧ (s.presentSupply p).conf = s.conf ∧ (s.presentSupply p).faults = s.faults ∧ (s.presentSupply p).pending = s.pending
    ∧ (s.presentSupply p).freeCount = s.freeCount := by
  simp only [State.presentSupply]; (repeat' split) <;> simp

@[simp] theorem State.closeStage_frame (o : Outcome) (c : Criteria) (r : ReckRecord) (s : State) :
    (s.closeStage o c r).time = s.time ∧ (s.closeStage o c r).meas = s.meas ∧ (s.closeStage o c r).env = s.env
    ∧ (s.closeStage o c r).take = s.take ∧ (s.closeStage o c r).table = s.table ∧ (s.closeStage o c r).panel = s.panel
    ∧ (s.closeStage o c r).conf = s.conf ∧ (s.closeStage o c r).faults = s.faults ∧ (s.closeStage o c r).pending = s.pending
    ∧ (s.closeStage o c r).freeCount = s.freeCount := by
  simp [State.closeStage]

@[simp] theorem State.recomputeStep_frame (n : Nat) (s : State) :
    (s.recomputeStep n).time = s.time ∧ (s.recomputeStep n).meas = s.meas ∧ (s.recomputeStep n).env = s.env
    ∧ (s.recomputeStep n).take = s.take ∧ (s.recomputeStep n).link = s.link ∧ (s.recomputeStep n).table = s.table
    ∧ (s.recomputeStep n).coord = s.coord ∧ (s.recomputeStep n).panel = s.panel ∧ (s.recomputeStep n).conf = s.conf
    ∧ (s.recomputeStep n).faults = s.faults ∧ (s.recomputeStep n).pending = s.pending ∧ (s.recomputeStep n).freeCount = s.freeCount := by
  simp only [State.recomputeStep]; (repeat' split) <;> simp

@[simp] theorem State.setCommanded_frame (c : Nat) (s : State) :
    (s.setCommanded c).time = s.time ∧ (s.setCommanded c).meas = s.meas ∧ (s.setCommanded c).env = s.env
    ∧ (s.setCommanded c).take = s.take ∧ (s.setCommanded c).link = s.link ∧ (s.setCommanded c).table = s.table
    ∧ (s.setCommanded c).coord = s.coord ∧ (s.setCommanded c).panel = s.panel ∧ (s.setCommanded c).conf = s.conf
    ∧ (s.setCommanded c).faults = s.faults ∧ (s.setCommanded c).pending = s.pending ∧ (s.setCommanded c).freeCount = s.freeCount := by
  simp [State.setCommanded]

@[simp] theorem State.setLimit_frame (l : Nat) (s : State) :
    (s.setLimit l).time = s.time ∧ (s.setLimit l).meas = s.meas ∧ (s.setLimit l).env = s.env
    ∧ (s.setLimit l).take = s.take ∧ (s.setLimit l).link = s.link ∧ (s.setLimit l).table = s.table
    ∧ (s.setLimit l).panel = s.panel ∧ (s.setLimit l).conf = s.conf ∧ (s.setLimit l).faults = s.faults
    ∧ (s.setLimit l).pending = s.pending ∧ (s.setLimit l).freeCount = s.freeCount := by
  simp [State.setLimit]

@[simp] theorem State.makeCurrent_frame (m : Nat) (s : State) :
    (s.makeCurrent m).time = s.time ∧ (s.makeCurrent m).meas = s.meas ∧ (s.makeCurrent m).env = s.env
    ∧ (s.makeCurrent m).reg = s.reg ∧ (s.makeCurrent m).take = s.take ∧ (s.makeCurrent m).table = s.table
    ∧ (s.makeCurrent m).coord = s.coord ∧ (s.makeCurrent m).panel = s.panel ∧ (s.makeCurrent m).conf = s.conf
    ∧ (s.makeCurrent m).faults = s.faults ∧ (s.makeCurrent m).pending = s.pending ∧ (s.makeCurrent m).freeCount = s.freeCount := by
  simp only [State.makeCurrent]; (repeat' split) <;> simp

@[simp] theorem State.confirmMix_frame (m : Nat) (s : State) :
    (s.confirmMix m).time = s.time ∧ (s.confirmMix m).meas = s.meas ∧ (s.confirmMix m).env = s.env
    ∧ (s.confirmMix m).reg = s.reg ∧ (s.confirmMix m).take = s.take ∧ (s.confirmMix m).table = s.table
    ∧ (s.confirmMix m).coord = s.coord ∧ (s.confirmMix m).panel = s.panel ∧ (s.confirmMix m).conf = s.conf
    ∧ (s.confirmMix m).faults = s.faults ∧ (s.confirmMix m).pending = s.pending ∧ (s.confirmMix m).freeCount = s.freeCount := by
  simp [State.confirmMix]

@[simp] theorem State.timeoutMix_frame (m : Nat) (s : State) :
    (s.timeoutMix m).time = s.time ∧ (s.timeoutMix m).meas = s.meas ∧ (s.timeoutMix m).env = s.env
    ∧ (s.timeoutMix m).reg = s.reg ∧ (s.timeoutMix m).take = s.take ∧ (s.timeoutMix m).table = s.table
    ∧ (s.timeoutMix m).coord = s.coord ∧ (s.timeoutMix m).panel = s.panel ∧ (s.timeoutMix m).conf = s.conf
    ∧ (s.timeoutMix m).pending = s.pending ∧ (s.timeoutMix m).freeCount = s.freeCount := by
  simp [State.timeoutMix]

/-! ## Coordination Unit -/

@[simp] theorem State.formDemand_frame (s : State) :
    s.formDemand.time = s.time ∧ s.formDemand.meas = s.meas ∧ s.formDemand.seq = s.seq
    ∧ s.formDemand.env = s.env ∧ s.formDemand.reg = s.reg ∧ s.formDemand.take = s.take
    ∧ s.formDemand.link = s.link ∧ s.formDemand.table = s.table ∧ s.formDemand.panel = s.panel
    ∧ s.formDemand.conf = s.conf ∧ s.formDemand.faults = s.faults ∧ s.formDemand.pending = s.pending
    ∧ s.formDemand.freeCount = s.freeCount := by
  simp [State.formDemand]

@[simp] theorem State.formLimits_frame (s : State) :
    s.formLimits.time = s.time ∧ s.formLimits.meas = s.meas ∧ s.formLimits.env = s.env
    ∧ s.formLimits.take = s.take ∧ s.formLimits.link = s.link ∧ s.formLimits.table = s.table
    ∧ s.formLimits.panel = s.panel ∧ s.formLimits.conf = s.conf ∧ s.formLimits.faults = s.faults
    ∧ s.formLimits.pending = s.pending ∧ s.formLimits.freeCount = s.freeCount := by
  simp only [State.formLimits]; (repeat' split) <;> simp

@[simp] theorem State.presentCoordination_frame (s : State) :
    s.presentCoordination.time = s.time ∧ s.presentCoordination.meas = s.meas ∧ s.presentCoordination.env = s.env
    ∧ s.presentCoordination.take = s.take ∧ s.presentCoordination.table = s.table ∧ s.presentCoordination.panel = s.panel
    ∧ s.presentCoordination.conf = s.conf ∧ s.presentCoordination.faults = s.faults ∧ s.presentCoordination.pending = s.pending
    ∧ s.presentCoordination.freeCount = s.freeCount := by
  simp [State.presentCoordination]

@[simp] theorem State.evaluateOnce_frame (s : State) :
    s.evaluateOnce.time = s.time ∧ s.evaluateOnce.meas = s.meas ∧ s.evaluateOnce.env = s.env
    ∧ s.evaluateOnce.take = s.take ∧ s.evaluateOnce.table = s.table ∧ s.evaluateOnce.panel = s.panel
    ∧ s.evaluateOnce.conf = s.conf ∧ s.evaluateOnce.faults = s.faults ∧ s.evaluateOnce.pending = s.pending
    ∧ s.evaluateOnce.freeCount = s.freeCount := by
  simp only [State.evaluateOnce]; (repeat' split) <;> simp

@[simp] theorem State.evaluate_frame (s : State) :
    s.evaluate.time = s.time ∧ s.evaluate.meas = s.meas ∧ s.evaluate.env = s.env
    ∧ s.evaluate.take = s.take ∧ s.evaluate.table = s.table ∧ s.evaluate.panel = s.panel
    ∧ s.evaluate.conf = s.conf ∧ s.evaluate.faults = s.faults ∧ s.evaluate.pending = s.pending
    ∧ s.evaluate.freeCount = s.freeCount := by
  simp only [State.evaluate]; (repeat' split) <;> simp

@[simp] theorem State.settle_frame (p : Phase) (s : State) :
    (s.settle p).time = s.time ∧ (s.settle p).meas = s.meas ∧ (s.settle p).env = s.env
    ∧ (s.settle p).take = s.take ∧ (s.settle p).table = s.table ∧ (s.settle p).panel = s.panel
    ∧ (s.settle p).conf = s.conf ∧ (s.settle p).faults = s.faults ∧ (s.settle p).pending = s.pending
    ∧ (s.settle p).freeCount = s.freeCount := by
  simp only [State.settle]; (repeat' split) <;> simp

@[simp] theorem State.startReport_frame (s : State) :
    s.startReport.time = s.time ∧ s.startReport.meas = s.meas ∧ s.startReport.env = s.env
    ∧ s.startReport.take = s.take ∧ s.startReport.table = s.table ∧ s.startReport.panel = s.panel
    ∧ s.startReport.conf = s.conf ∧ s.startReport.faults = s.faults ∧ s.startReport.pending = s.pending
    ∧ s.startReport.freeCount = s.freeCount := by
  simp [State.startReport]

@[simp] theorem State.clearReport_frame (s : State) :
    s.clearReport.time = s.time ∧ s.clearReport.meas = s.meas ∧ s.clearReport.env = s.env
    ∧ s.clearReport.take = s.take ∧ s.clearReport.table = s.table ∧ s.clearReport.panel = s.panel
    ∧ s.clearReport.conf = s.conf ∧ s.clearReport.faults = s.faults ∧ s.clearReport.pending = s.pending
    ∧ s.clearReport.freeCount = s.freeCount := by
  simp [State.clearReport]

@[simp] theorem State.sampleConnection_frame (s : State) :
    s.sampleConnection.time = s.time ∧ s.sampleConnection.meas = s.meas ∧ s.sampleConnection.env = s.env
    ∧ s.sampleConnection.take = s.take ∧ s.sampleConnection.table = s.table ∧ s.sampleConnection.panel = s.panel
    ∧ s.sampleConnection.conf = s.conf ∧ s.sampleConnection.faults = s.faults ∧ s.sampleConnection.pending = s.pending
    ∧ s.sampleConnection.freeCount = s.freeCount := by
  simp only [State.sampleConnection]; (repeat' split) <;> simp

@[simp] theorem State.sampleUplift_frame (s : State) :
    s.sampleUplift.time = s.time ∧ s.sampleUplift.meas = s.meas ∧ s.sampleUplift.env = s.env
    ∧ s.sampleUplift.take = s.take ∧ s.sampleUplift.table = s.table ∧ s.sampleUplift.panel = s.panel
    ∧ s.sampleUplift.conf = s.conf ∧ s.sampleUplift.faults = s.faults ∧ s.sampleUplift.pending = s.pending
    ∧ s.sampleUplift.freeCount = s.freeCount := by
  simp only [State.sampleUplift]; (repeat' split) <;> simp

@[simp] theorem State.refreshSuspects_frame (s : State) :
    s.refreshSuspects.time = s.time ∧ s.refreshSuspects.meas = s.meas ∧ s.refreshSuspects.seq = s.seq
    ∧ s.refreshSuspects.env = s.env ∧ s.refreshSuspects.reg = s.reg ∧ s.refreshSuspects.take = s.take
    ∧ s.refreshSuspects.table = s.table ∧ s.refreshSuspects.panel = s.panel ∧ s.refreshSuspects.conf = s.conf
    ∧ s.refreshSuspects.faults = s.faults ∧ s.refreshSuspects.pending = s.pending ∧ s.refreshSuspects.freeCount = s.freeCount := by
  simp only [State.refreshSuspects]; (repeat' split) <;> simp

@[simp] theorem State.setAllowance_frame (a : Nat) (s : State) :
    (s.setAllowance a).time = s.time ∧ (s.setAllowance a).meas = s.meas ∧ (s.setAllowance a).seq = s.seq
    ∧ (s.setAllowance a).env = s.env ∧ (s.setAllowance a).take = s.take ∧ (s.setAllowance a).link = s.link
    ∧ (s.setAllowance a).table = s.table ∧ (s.setAllowance a).panel = s.panel ∧ (s.setAllowance a).conf = s.conf
    ∧ (s.setAllowance a).faults = s.faults ∧ (s.setAllowance a).pending = s.pending ∧ (s.setAllowance a).freeCount = s.freeCount := by
  simp only [State.setAllowance]; (repeat' split) <;> simp

@[simp] theorem State.supplyRuns_frame (s : State) :
    s.supplyRuns.time = s.time ∧ s.supplyRuns.meas = s.meas ∧ s.supplyRuns.seq = s.seq
    ∧ s.supplyRuns.env = s.env ∧ s.supplyRuns.reg = s.reg ∧ s.supplyRuns.take = s.take
    ∧ s.supplyRuns.link = s.link ∧ s.supplyRuns.table = s.table ∧ s.supplyRuns.panel = s.panel
    ∧ s.supplyRuns.conf = s.conf ∧ s.supplyRuns.faults = s.faults ∧ s.supplyRuns.pending = s.pending
    ∧ s.supplyRuns.freeCount = s.freeCount := by
  simp [State.supplyRuns]

@[simp] theorem State.formSupply_frame (s : State) :
    s.formSupply.time = s.time ∧ s.formSupply.meas = s.meas ∧ s.formSupply.seq = s.seq
    ∧ s.formSupply.env = s.env ∧ s.formSupply.take = s.take ∧ s.formSupply.link = s.link
    ∧ s.formSupply.table = s.table ∧ s.formSupply.panel = s.panel ∧ s.formSupply.conf = s.conf
    ∧ s.formSupply.faults = s.faults ∧ s.formSupply.pending = s.pending ∧ s.formSupply.freeCount = s.freeCount := by
  simp [State.formSupply]

@[simp] theorem State.judgeSupply_frame (n : Nat) (s : State) :
    (s.judgeSupply n).time = s.time ∧ (s.judgeSupply n).meas = s.meas ∧ (s.judgeSupply n).env = s.env
    ∧ (s.judgeSupply n).take = s.take ∧ (s.judgeSupply n).table = s.table ∧ (s.judgeSupply n).panel = s.panel
    ∧ (s.judgeSupply n).conf = s.conf ∧ (s.judgeSupply n).faults = s.faults ∧ (s.judgeSupply n).pending = s.pending
    ∧ (s.judgeSupply n).freeCount = s.freeCount := by
  simp only [State.judgeSupply, State.settled]; (repeat' split) <;> simp

@[simp] theorem State.supplyEvaluation_frame (s : State) :
    s.supplyEvaluation.time = s.time ∧ s.supplyEvaluation.meas = s.meas ∧ s.supplyEvaluation.env = s.env
    ∧ s.supplyEvaluation.take = s.take ∧ s.supplyEvaluation.table = s.table ∧ s.supplyEvaluation.panel = s.panel
    ∧ s.supplyEvaluation.conf = s.conf ∧ s.supplyEvaluation.faults = s.faults ∧ s.supplyEvaluation.pending = s.pending
    ∧ s.supplyEvaluation.freeCount = s.freeCount := by
  simp only [State.supplyEvaluation]; (repeat' split) <;> simp

@[simp] theorem State.sampleHeader_frame (s : State) :
    s.sampleHeader.time = s.time ∧ s.sampleHeader.meas = s.meas ∧ s.sampleHeader.env = s.env
    ∧ s.sampleHeader.take = s.take ∧ s.sampleHeader.table = s.table ∧ s.sampleHeader.panel = s.panel
    ∧ s.sampleHeader.conf = s.conf ∧ s.sampleHeader.faults = s.faults ∧ s.sampleHeader.pending = s.pending
    ∧ s.sampleHeader.freeCount = s.freeCount := by
  simp only [State.sampleHeader, State.settled]; (repeat' split) <;> simp

@[simp] theorem State.endListen_frame (s : State) :
    s.endListen.time = s.time ∧ s.endListen.meas = s.meas ∧ s.endListen.env = s.env
    ∧ s.endListen.take = s.take ∧ s.endListen.table = s.table ∧ s.endListen.panel = s.panel
    ∧ s.endListen.faults = s.faults ∧ s.endListen.pending = s.pending ∧ s.endListen.freeCount = s.freeCount := by
  simp [State.endListen]

@[simp] theorem State.boundaryCoordination_frame (s : State) :
    s.boundaryCoordination.time = s.time ∧ s.boundaryCoordination.meas = s.meas ∧ s.boundaryCoordination.env = s.env
    ∧ s.boundaryCoordination.take = s.take ∧ s.boundaryCoordination.table = s.table ∧ s.boundaryCoordination.panel = s.panel
    ∧ s.boundaryCoordination.faults = s.faults ∧ s.boundaryCoordination.pending = s.pending ∧ s.boundaryCoordination.freeCount = s.freeCount := by
  simp only [State.boundaryCoordination]; (repeat' split) <;> simp

/-! ## Neighbour Table -/

@[simp] theorem State.setEntries_frame (l : List Entry) (s : State) :
    (s.setEntries l).time = s.time ∧ (s.setEntries l).meas = s.meas ∧ (s.setEntries l).seq = s.seq
    ∧ (s.setEntries l).env = s.env ∧ (s.setEntries l).reg = s.reg ∧ (s.setEntries l).take = s.take
    ∧ (s.setEntries l).link = s.link ∧ (s.setEntries l).coord = s.coord ∧ (s.setEntries l).panel = s.panel
    ∧ (s.setEntries l).conf = s.conf ∧ (s.setEntries l).faults = s.faults ∧ (s.setEntries l).pending = s.pending
    ∧ (s.setEntries l).freeCount = s.freeCount := by
  simp [State.setEntries]

@[simp] theorem State.reportSilent_frame (e : Entry) (s : State) :
    (s.reportSilent e).time = s.time ∧ (s.reportSilent e).meas = s.meas ∧ (s.reportSilent e).seq = s.seq
    ∧ (s.reportSilent e).env = s.env ∧ (s.reportSilent e).reg = s.reg ∧ (s.reportSilent e).take = s.take
    ∧ (s.reportSilent e).link = s.link ∧ (s.reportSilent e).table = s.table ∧ (s.reportSilent e).coord = s.coord
    ∧ (s.reportSilent e).panel = s.panel ∧ (s.reportSilent e).conf = s.conf ∧ (s.reportSilent e).pending = s.pending
    ∧ (s.reportSilent e).freeCount = s.freeCount := by
  simp only [State.reportSilent]; (repeat' split) <;> simp

@[simp] theorem State.hearOwn_frame (s : State) :
    s.hearOwn.time = s.time ∧ s.hearOwn.meas = s.meas ∧ s.hearOwn.env = s.env
    ∧ s.hearOwn.take = s.take ∧ s.hearOwn.panel = s.panel ∧ s.hearOwn.conf = s.conf
    ∧ s.hearOwn.pending = s.pending ∧ s.hearOwn.freeCount = s.freeCount := by
  simp only [State.hearOwn]; (repeat' split) <;> simp

@[simp] theorem State.admission_frame (b : Bulletin) (s : State) :
    (s.admission b).time = s.time ∧ (s.admission b).meas = s.meas ∧ (s.admission b).env = s.env
    ∧ (s.admission b).take = s.take ∧ (s.admission b).panel = s.panel ∧ (s.admission b).conf = s.conf
    ∧ (s.admission b).pending = s.pending ∧ (s.admission b).freeCount = s.freeCount := by
  simp only [State.admission]; (repeat' split) <;> simp

@[simp] theorem State.clearDuplicate_frame (s : State) :
    s.clearDuplicate.time = s.time ∧ s.clearDuplicate.meas = s.meas ∧ s.clearDuplicate.env = s.env
    ∧ s.clearDuplicate.take = s.take ∧ s.clearDuplicate.panel = s.panel ∧ s.clearDuplicate.conf = s.conf
    ∧ s.clearDuplicate.pending = s.pending ∧ s.clearDuplicate.freeCount = s.freeCount := by
  simp [State.clearDuplicate]

@[simp] theorem State.clearTable_frame (s : State) :
    s.clearTable.time = s.time ∧ s.clearTable.meas = s.meas ∧ s.clearTable.seq = s.seq
    ∧ s.clearTable.env = s.env ∧ s.clearTable.reg = s.reg ∧ s.clearTable.take = s.take
    ∧ s.clearTable.link = s.link ∧ s.clearTable.coord = s.coord ∧ s.clearTable.panel = s.panel
    ∧ s.clearTable.conf = s.conf ∧ s.clearTable.faults = s.faults ∧ s.clearTable.pending = s.pending
    ∧ s.clearTable.freeCount = s.freeCount := by
  simp [State.clearTable]

/-! ## Take Counters -/

@[simp] theorem State.modLive_frame (f : LiveCounters → LiveCounters) (s : State) :
    (s.modLive f).time = s.time ∧ (s.modLive f).meas = s.meas ∧ (s.modLive f).seq = s.seq
    ∧ (s.modLive f).env = s.env ∧ (s.modLive f).reg = s.reg ∧ (s.modLive f).link = s.link
    ∧ (s.modLive f).table = s.table ∧ (s.modLive f).coord = s.coord ∧ (s.modLive f).panel = s.panel
    ∧ (s.modLive f).conf = s.conf ∧ (s.modLive f).faults = s.faults ∧ (s.modLive f).pending = s.pending
    ∧ (s.modLive f).freeCount = s.freeCount := by
  simp [State.modLive]

@[simp] theorem State.noteSaturation_frame (hit flag : Bool) (set : Saturated → Saturated) (s : State) :
    (s.noteSaturation hit flag set).time = s.time ∧ (s.noteSaturation hit flag set).meas = s.meas ∧ (s.noteSaturation hit flag set).seq = s.seq
    ∧ (s.noteSaturation hit flag set).env = s.env ∧ (s.noteSaturation hit flag set).reg = s.reg ∧ (s.noteSaturation hit flag set).link = s.link
    ∧ (s.noteSaturation hit flag set).table = s.table ∧ (s.noteSaturation hit flag set).coord = s.coord ∧ (s.noteSaturation hit flag set).panel = s.panel
    ∧ (s.noteSaturation hit flag set).conf = s.conf ∧ (s.noteSaturation hit flag set).pending = s.pending ∧ (s.noteSaturation hit flag set).freeCount = s.freeCount := by
  simp only [State.noteSaturation]; (repeat' split) <;> simp

@[simp] theorem State.countGrout_frame (q : Nat) (s : State) :
    (s.countGrout q).time = s.time ∧ (s.countGrout q).meas = s.meas ∧ (s.countGrout q).env = s.env
    ∧ (s.countGrout q).reg = s.reg ∧ (s.countGrout q).link = s.link ∧ (s.countGrout q).table = s.table
    ∧ (s.countGrout q).coord = s.coord ∧ (s.countGrout q).panel = s.panel ∧ (s.countGrout q).conf = s.conf
    ∧ (s.countGrout q).pending = s.pending ∧ (s.countGrout q).freeCount = s.freeCount := by
  simp [State.countGrout]

@[simp] theorem State.countWater_frame (q : Nat) (s : State) :
    (s.countWater q).time = s.time ∧ (s.countWater q).meas = s.meas ∧ (s.countWater q).seq = s.seq
    ∧ (s.countWater q).env = s.env ∧ (s.countWater q).reg = s.reg ∧ (s.countWater q).link = s.link
    ∧ (s.countWater q).table = s.table ∧ (s.countWater q).coord = s.coord ∧ (s.countWater q).panel = s.panel
    ∧ (s.countWater q).conf = s.conf ∧ (s.countWater q).pending = s.pending ∧ (s.countWater q).freeCount = s.freeCount := by
  simp [State.countWater]

@[simp] theorem State.countStrokes_frame (n : Nat) (s : State) :
    (s.countStrokes n).time = s.time ∧ (s.countStrokes n).meas = s.meas ∧ (s.countStrokes n).seq = s.seq
    ∧ (s.countStrokes n).env = s.env ∧ (s.countStrokes n).reg = s.reg ∧ (s.countStrokes n).link = s.link
    ∧ (s.countStrokes n).table = s.table ∧ (s.countStrokes n).coord = s.coord ∧ (s.countStrokes n).panel = s.panel
    ∧ (s.countStrokes n).conf = s.conf ∧ (s.countStrokes n).pending = s.pending ∧ (s.countStrokes n).freeCount = s.freeCount := by
  simp [State.countStrokes]

@[simp] theorem State.notePeakQ_frame (q : Nat) (s : State) :
    (s.notePeakQ q).time = s.time ∧ (s.notePeakQ q).meas = s.meas ∧ (s.notePeakQ q).seq = s.seq
    ∧ (s.notePeakQ q).env = s.env ∧ (s.notePeakQ q).reg = s.reg ∧ (s.notePeakQ q).link = s.link
    ∧ (s.notePeakQ q).table = s.table ∧ (s.notePeakQ q).coord = s.coord ∧ (s.notePeakQ q).panel = s.panel
    ∧ (s.notePeakQ q).conf = s.conf ∧ (s.notePeakQ q).faults = s.faults ∧ (s.notePeakQ q).pending = s.pending
    ∧ (s.notePeakQ q).freeCount = s.freeCount := by
  simp [State.notePeakQ]

@[simp] theorem State.sampleCounters_frame (q g n : Nat) (s : State) :
    (s.sampleCounters q g n).time = s.time ∧ (s.sampleCounters q g n).meas = s.meas ∧ (s.sampleCounters q g n).env = s.env
    ∧ (s.sampleCounters q g n).reg = s.reg ∧ (s.sampleCounters q g n).link = s.link ∧ (s.sampleCounters q g n).table = s.table
    ∧ (s.sampleCounters q g n).coord = s.coord ∧ (s.sampleCounters q g n).panel = s.panel ∧ (s.sampleCounters q g n).conf = s.conf
    ∧ (s.sampleCounters q g n).pending = s.pending ∧ (s.sampleCounters q g n).freeCount = s.freeCount := by
  simp only [State.sampleCounters]; (repeat' split) <;> simp

@[simp] theorem State.completionCounters_frame (q : Nat) (p : Int) (s : State) :
    (s.completionCounters q p).time = s.time ∧ (s.completionCounters q p).meas = s.meas ∧ (s.completionCounters q p).seq = s.seq
    ∧ (s.completionCounters q p).env = s.env ∧ (s.completionCounters q p).reg = s.reg ∧ (s.completionCounters q p).link = s.link
    ∧ (s.completionCounters q p).table = s.table ∧ (s.completionCounters q p).coord = s.coord ∧ (s.completionCounters q p).panel = s.panel
    ∧ (s.completionCounters q p).conf = s.conf ∧ (s.completionCounters q p).faults = s.faults ∧ (s.completionCounters q p).pending = s.pending
    ∧ (s.completionCounters q p).freeCount = s.freeCount := by
  simp only [State.completionCounters]; (repeat' split) <;> simp

@[simp] theorem State.countSecond_frame (s : State) :
    s.countSecond.time = s.time ∧ s.countSecond.meas = s.meas ∧ s.countSecond.seq = s.seq
    ∧ s.countSecond.env = s.env ∧ s.countSecond.reg = s.reg ∧ s.countSecond.link = s.link
    ∧ s.countSecond.table = s.table ∧ s.countSecond.coord = s.coord ∧ s.countSecond.panel = s.panel
    ∧ s.countSecond.conf = s.conf ∧ s.countSecond.pending = s.pending ∧ s.countSecond.freeCount = s.freeCount := by
  simp only [State.countSecond]; (repeat' split) <;> simp

@[simp] theorem State.closeWindow_frame (s : State) :
    s.closeWindow.time = s.time ∧ s.closeWindow.meas = s.meas ∧ s.closeWindow.seq = s.seq
    ∧ s.closeWindow.env = s.env ∧ s.closeWindow.reg = s.reg ∧ s.closeWindow.link = s.link
    ∧ s.closeWindow.table = s.table ∧ s.closeWindow.coord = s.coord ∧ s.closeWindow.panel = s.panel
    ∧ s.closeWindow.conf = s.conf ∧ s.closeWindow.faults = s.faults ∧ s.closeWindow.pending = s.pending
    ∧ s.closeWindow.freeCount = s.freeCount := by
  simp [State.closeWindow]

@[simp] theorem State.takeCopy_frame (c : CopyCause) (s : State) :
    (s.takeCopy c).time = s.time ∧ (s.takeCopy c).meas = s.meas ∧ (s.takeCopy c).seq = s.seq
    ∧ (s.takeCopy c).env = s.env ∧ (s.takeCopy c).reg = s.reg ∧ (s.takeCopy c).link = s.link
    ∧ (s.takeCopy c).table = s.table ∧ (s.takeCopy c).coord = s.coord ∧ (s.takeCopy c).panel = s.panel
    ∧ (s.takeCopy c).conf = s.conf ∧ (s.takeCopy c).faults = s.faults ∧ (s.takeCopy c).pending = s.pending
    ∧ (s.takeCopy c).freeCount = s.freeCount := by
  simp [State.takeCopy]

@[simp] theorem State.boundaryCounters_frame (s : State) :
    s.boundaryCounters.time = s.time ∧ s.boundaryCounters.meas = s.meas ∧ s.boundaryCounters.seq = s.seq
    ∧ s.boundaryCounters.env = s.env ∧ s.boundaryCounters.reg = s.reg ∧ s.boundaryCounters.link = s.link
    ∧ s.boundaryCounters.table = s.table ∧ s.boundaryCounters.coord = s.coord ∧ s.boundaryCounters.panel = s.panel
    ∧ s.boundaryCounters.conf = s.conf ∧ s.boundaryCounters.pending = s.pending := by
  simp only [State.boundaryCounters]; (repeat' split) <;> simp

/-! ## What acts at a completion -/

@[simp] theorem State.beginReckoning_frame (x : SampleSet) (s : State) :
    (s.beginReckoning x).time = s.time ∧ (s.beginReckoning x).meas = s.meas ∧ (s.beginReckoning x).seq = s.seq
    ∧ (s.beginReckoning x).reg = s.reg ∧ (s.beginReckoning x).take = s.take ∧ (s.beginReckoning x).link = s.link
    ∧ (s.beginReckoning x).table = s.table ∧ (s.beginReckoning x).coord = s.coord ∧ (s.beginReckoning x).panel = s.panel
    ∧ (s.beginReckoning x).conf = s.conf ∧ (s.beginReckoning x).faults = s.faults ∧ (s.beginReckoning x).pending = s.pending
    ∧ (s.beginReckoning x).freeCount = s.freeCount := by
  simp only [State.beginReckoning]; (repeat' split) <;> simp

@[simp] theorem State.offerSet_frame (x : SampleSet) (s : State) :
    (s.offerSet x).time = s.time ∧ (s.offerSet x).meas = s.meas ∧ (s.offerSet x).seq = s.seq
    ∧ (s.offerSet x).reg = s.reg ∧ (s.offerSet x).take = s.take ∧ (s.offerSet x).link = s.link
    ∧ (s.offerSet x).table = s.table ∧ (s.offerSet x).coord = s.coord ∧ (s.offerSet x).panel = s.panel
    ∧ (s.offerSet x).conf = s.conf ∧ (s.offerSet x).faults = s.faults ∧ (s.offerSet x).pending = s.pending
    ∧ (s.offerSet x).freeCount = s.freeCount := by
  simp only [State.offerSet]; (repeat' split) <;> simp

@[simp] theorem State.beginFromSlot_frame (s : State) :
    s.beginFromSlot.time = s.time ∧ s.beginFromSlot.meas = s.meas ∧ s.beginFromSlot.seq = s.seq
    ∧ s.beginFromSlot.reg = s.reg ∧ s.beginFromSlot.take = s.take ∧ s.beginFromSlot.link = s.link
    ∧ s.beginFromSlot.table = s.table ∧ s.beginFromSlot.coord = s.coord ∧ s.beginFromSlot.panel = s.panel
    ∧ s.beginFromSlot.conf = s.conf ∧ s.beginFromSlot.faults = s.faults ∧ s.beginFromSlot.pending = s.pending
    ∧ s.beginFromSlot.freeCount = s.freeCount := by
  simp only [State.beginFromSlot]; (repeat' split) <;> simp

@[simp] theorem State.reachStep_frame (s : State) :
    s.reachStep.time = s.time ∧ s.reachStep.meas = s.meas ∧ s.reachStep.seq = s.seq
    ∧ s.reachStep.env = s.env ∧ s.reachStep.take = s.take ∧ s.reachStep.table = s.table
    ∧ s.reachStep.coord = s.coord ∧ s.reachStep.panel = s.panel ∧ s.reachStep.conf = s.conf
    ∧ s.reachStep.faults = s.faults ∧ s.reachStep.pending = s.pending ∧ s.reachStep.freeCount = s.freeCount := by
  simp [State.reachStep]

@[simp] theorem State.arrivalPart_frame (p : Int) (s : State) :
    (s.arrivalPart p).time = s.time ∧ (s.arrivalPart p).meas = s.meas ∧ (s.arrivalPart p).seq = s.seq
    ∧ (s.arrivalPart p).env = s.env ∧ (s.arrivalPart p).take = s.take ∧ (s.arrivalPart p).table = s.table
    ∧ (s.arrivalPart p).coord = s.coord ∧ (s.arrivalPart p).panel = s.panel ∧ (s.arrivalPart p).conf = s.conf
    ∧ (s.arrivalPart p).faults = s.faults ∧ (s.arrivalPart p).pending = s.pending ∧ (s.arrivalPart p).freeCount = s.freeCount := by
  simp only [State.arrivalPart]; (repeat' split) <;> simp

@[simp] theorem State.advanceStep_frame (s : State) :
    s.advanceStep.time = s.time ∧ s.advanceStep.meas = s.meas ∧ s.advanceStep.env = s.env
    ∧ s.advanceStep.take = s.take ∧ s.advanceStep.link = s.link ∧ s.advanceStep.table = s.table
    ∧ s.advanceStep.coord = s.coord ∧ s.advanceStep.panel = s.panel ∧ s.advanceStep.conf = s.conf
    ∧ s.advanceStep.faults = s.faults ∧ s.advanceStep.pending = s.pending ∧ s.advanceStep.freeCount = s.freeCount := by
  simp [State.advanceStep]

@[simp] theorem State.advancePart_frame (q : Nat) (s : State) :
    (s.advancePart q).time = s.time ∧ (s.advancePart q).meas = s.meas ∧ (s.advancePart q).env = s.env
    ∧ (s.advancePart q).take = s.take ∧ (s.advancePart q).link = s.link ∧ (s.advancePart q).table = s.table
    ∧ (s.advancePart q).coord = s.coord ∧ (s.advancePart q).panel = s.panel ∧ (s.advancePart q).conf = s.conf
    ∧ (s.advancePart q).faults = s.faults ∧ (s.advancePart q).pending = s.pending ∧ (s.advancePart q).freeCount = s.freeCount := by
  simp only [State.advancePart]; (repeat' split) <;> simp

@[simp] theorem State.strokeUpdate_frame (g : Nat) (s : State) :
    (s.strokeUpdate g).time = s.time ∧ (s.strokeUpdate g).meas = s.meas ∧ (s.strokeUpdate g).seq = s.seq
    ∧ (s.strokeUpdate g).env = s.env ∧ (s.strokeUpdate g).take = s.take ∧ (s.strokeUpdate g).link = s.link
    ∧ (s.strokeUpdate g).table = s.table ∧ (s.strokeUpdate g).coord = s.coord ∧ (s.strokeUpdate g).panel = s.panel
    ∧ (s.strokeUpdate g).conf = s.conf ∧ (s.strokeUpdate g).faults = s.faults ∧ (s.strokeUpdate g).pending = s.pending
    ∧ (s.strokeUpdate g).freeCount = s.freeCount := by
  simp [State.strokeUpdate]

@[simp] theorem State.completeRegulator_frame (q : Nat) (r : ReckRecord) (s : State) :
    (s.completeRegulator q r).time = s.time ∧ (s.completeRegulator q r).meas = s.meas ∧ (s.completeRegulator q r).env = s.env
    ∧ (s.completeRegulator q r).take = s.take ∧ (s.completeRegulator q r).table = s.table ∧ (s.completeRegulator q r).coord = s.coord
    ∧ (s.completeRegulator q r).panel = s.panel ∧ (s.completeRegulator q r).conf = s.conf ∧ (s.completeRegulator q r).faults = s.faults
    ∧ (s.completeRegulator q r).pending = s.pending ∧ (s.completeRegulator q r).freeCount = s.freeCount := by
  simp only [State.completeRegulator]; (repeat' split) <;> simp

@[simp] theorem State.endTestStep_frame (x : TestState) (st : StageRecord) (s : State) :
    (s.endTestStep x st).time = s.time ∧ (s.endTestStep x st).meas = s.meas ∧ (s.endTestStep x st).env = s.env
    ∧ (s.endTestStep x st).take = s.take ∧ (s.endTestStep x st).table = s.table ∧ (s.endTestStep x st).panel = s.panel
    ∧ (s.endTestStep x st).conf = s.conf ∧ (s.endTestStep x st).faults = s.faults ∧ (s.endTestStep x st).pending = s.pending
    ∧ (s.endTestStep x st).freeCount = s.freeCount := by
  simp only [State.endTestStep]; (repeat' split) <;> simp

@[simp] theorem State.completeTest_frame (q : Nat) (p : Int) (s : State) :
    (s.completeTest q p).time = s.time ∧ (s.completeTest q p).meas = s.meas ∧ (s.completeTest q p).env = s.env
    ∧ (s.completeTest q p).take = s.take ∧ (s.completeTest q p).table = s.table ∧ (s.completeTest q p).panel = s.panel
    ∧ (s.completeTest q p).conf = s.conf ∧ (s.completeTest q p).faults = s.faults ∧ (s.completeTest q p).pending = s.pending
    ∧ (s.completeTest q p).freeCount = s.freeCount := by
  simp only [State.completeTest]; (repeat' split) <;> simp

@[simp] theorem State.startTest_frame (s : State) :
    s.startTest.time = s.time ∧ s.startTest.meas = s.meas ∧ s.startTest.env = s.env
    ∧ s.startTest.take = s.take ∧ s.startTest.table = s.table ∧ s.startTest.panel = s.panel
    ∧ s.startTest.conf = s.conf ∧ s.startTest.faults = s.faults ∧ s.startTest.pending = s.pending
    ∧ s.startTest.freeCount = s.freeCount := by
  simp [State.startTest]

@[simp] theorem State.takeBase_frame (p : Int) (s : State) :
    (s.takeBase p).time = s.time ∧ (s.takeBase p).meas = s.meas ∧ (s.takeBase p).env = s.env
    ∧ (s.takeBase p).reg = s.reg ∧ (s.takeBase p).take = s.take ∧ (s.takeBase p).link = s.link
    ∧ (s.takeBase p).table = s.table ∧ (s.takeBase p).coord = s.coord ∧ (s.takeBase p).panel = s.panel
    ∧ (s.takeBase p).conf = s.conf ∧ (s.takeBase p).faults = s.faults ∧ (s.takeBase p).pending = s.pending
    ∧ (s.takeBase p).freeCount = s.freeCount := by
  simp only [State.takeBase]; (repeat' split) <;> simp

@[simp] theorem State.thicken_frame (p : Int) (s : State) :
    (s.thicken p).time = s.time ∧ (s.thicken p).meas = s.meas ∧ (s.thicken p).env = s.env
    ∧ (s.thicken p).reg = s.reg ∧ (s.thicken p).take = s.take ∧ (s.thicken p).link = s.link
    ∧ (s.thicken p).table = s.table ∧ (s.thicken p).coord = s.coord ∧ (s.thicken p).panel = s.panel
    ∧ (s.thicken p).conf = s.conf ∧ (s.thicken p).faults = s.faults ∧ (s.thicken p).pending = s.pending
    ∧ (s.thicken p).freeCount = s.freeCount := by
  simp only [State.thicken]; (repeat' split) <;> simp

@[simp] theorem State.stepRefusal_frame (r : ReckRecord) (s : State) :
    (s.stepRefusal r).time = s.time ∧ (s.stepRefusal r).meas = s.meas ∧ (s.stepRefusal r).env = s.env
    ∧ (s.stepRefusal r).reg = s.reg ∧ (s.stepRefusal r).take = s.take ∧ (s.stepRefusal r).link = s.link
    ∧ (s.stepRefusal r).table = s.table ∧ (s.stepRefusal r).coord = s.coord ∧ (s.stepRefusal r).panel = s.panel
    ∧ (s.stepRefusal r).conf = s.conf ∧ (s.stepRefusal r).faults = s.faults ∧ (s.stepRefusal r).pending = s.pending
    ∧ (s.stepRefusal r).freeCount = s.freeCount := by
  simp [State.stepRefusal]

@[simp] theorem State.stepIntensity_frame (r : ReckRecord) (s : State) :
    (s.stepIntensity r).time = s.time ∧ (s.stepIntensity r).meas = s.meas ∧ (s.stepIntensity r).env = s.env
    ∧ (s.stepIntensity r).reg = s.reg ∧ (s.stepIntensity r).take = s.take ∧ (s.stepIntensity r).link = s.link
    ∧ (s.stepIntensity r).table = s.table ∧ (s.stepIntensity r).coord = s.coord ∧ (s.stepIntensity r).panel = s.panel
    ∧ (s.stepIntensity r).conf = s.conf ∧ (s.stepIntensity r).faults = s.faults ∧ (s.stepIntensity r).pending = s.pending
    ∧ (s.stepIntensity r).freeCount = s.freeCount := by
  simp [State.stepIntensity]

@[simp] theorem State.injectingChecks_frame (r : ReckRecord) (s : State) :
    (s.injectingChecks r).time = s.time ∧ (s.injectingChecks r).meas = s.meas ∧ (s.injectingChecks r).env = s.env
    ∧ (s.injectingChecks r).reg = s.reg ∧ (s.injectingChecks r).take = s.take ∧ (s.injectingChecks r).link = s.link
    ∧ (s.injectingChecks r).table = s.table ∧ (s.injectingChecks r).coord = s.coord ∧ (s.injectingChecks r).panel = s.panel
    ∧ (s.injectingChecks r).conf = s.conf ∧ (s.injectingChecks r).faults = s.faults ∧ (s.injectingChecks r).pending = s.pending
    ∧ (s.injectingChecks r).freeCount = s.freeCount := by
  simp [State.injectingChecks]

@[simp] theorem State.completeInjecting_frame (r : ReckRecord) (s : State) :
    (s.completeInjecting r).time = s.time ∧ (s.completeInjecting r).meas = s.meas ∧ (s.completeInjecting r).env = s.env
    ∧ (s.completeInjecting r).take = s.take ∧ (s.completeInjecting r).table = s.table ∧ (s.completeInjecting r).panel = s.panel
    ∧ (s.completeInjecting r).conf = s.conf ∧ (s.completeInjecting r).faults = s.faults ∧ (s.completeInjecting r).pending = s.pending
    ∧ (s.completeInjecting r).freeCount = s.freeCount := by
  simp only [State.completeInjecting]; (repeat' split) <;> simp

@[simp] theorem State.completeSequencer_frame (q : Nat) (r : ReckRecord) (s : State) :
    (s.completeSequencer q r).time = s.time ∧ (s.completeSequencer q r).meas = s.meas ∧ (s.completeSequencer q r).env = s.env
    ∧ (s.completeSequencer q r).take = s.take ∧ (s.completeSequencer q r).table = s.table ∧ (s.completeSequencer q r).panel = s.panel
    ∧ (s.completeSequencer q r).conf = s.conf ∧ (s.completeSequencer q r).faults = s.faults ∧ (s.completeSequencer q r).pending = s.pending
    ∧ (s.completeSequencer q r).freeCount = s.freeCount := by
  simp only [State.completeSequencer]; (repeat' split) <;> simp

/-! ## The composite events -/

@[simp] theorem State.boundaryHold_frame (s : State) :
    s.boundaryHold.time = s.time ∧ s.boundaryHold.meas = s.meas ∧ s.boundaryHold.env = s.env
    ∧ s.boundaryHold.take = s.take ∧ s.boundaryHold.table = s.table ∧ s.boundaryHold.panel = s.panel
    ∧ s.boundaryHold.conf = s.conf ∧ s.boundaryHold.faults = s.faults ∧ s.boundaryHold.pending = s.pending
    ∧ s.boundaryHold.freeCount = s.freeCount := by
  simp only [State.boundaryHold]; (repeat' split) <;> simp

@[simp] theorem State.boundaryMix_frame (s : State) :
    s.boundaryMix.time = s.time ∧ s.boundaryMix.meas = s.meas ∧ s.boundaryMix.env = s.env
    ∧ s.boundaryMix.reg = s.reg ∧ s.boundaryMix.take = s.take ∧ s.boundaryMix.table = s.table
    ∧ s.boundaryMix.coord = s.coord ∧ s.boundaryMix.panel = s.panel ∧ s.boundaryMix.conf = s.conf
    ∧ s.boundaryMix.pending = s.pending ∧ s.boundaryMix.freeCount = s.freeCount := by
  simp only [State.boundaryMix]; (repeat' split) <;> simp

@[simp] theorem State.boundarySequencer_frame (s : State) :
    s.boundarySequencer.time = s.time ∧ s.boundarySequencer.meas = s.meas ∧ s.boundarySequencer.env = s.env
    ∧ s.boundarySequencer.take = s.take ∧ s.boundarySequencer.table = s.table ∧ s.boundarySequencer.panel = s.panel
    ∧ s.boundarySequencer.conf = s.conf ∧ s.boundarySequencer.pending = s.pending ∧ s.boundarySequencer.freeCount = s.freeCount := by
  simp only [State.boundarySequencer]; (repeat' split) <;> simp

@[simp] theorem State.boundaryFaults_frame (s : State) :
    s.boundaryFaults.time = s.time ∧ s.boundaryFaults.meas = s.meas ∧ s.boundaryFaults.seq = s.seq
    ∧ s.boundaryFaults.env = s.env ∧ s.boundaryFaults.reg = s.reg ∧ s.boundaryFaults.take = s.take
    ∧ s.boundaryFaults.link = s.link ∧ s.boundaryFaults.table = s.table ∧ s.boundaryFaults.coord = s.coord
    ∧ s.boundaryFaults.panel = s.panel ∧ s.boundaryFaults.conf = s.conf ∧ s.boundaryFaults.pending = s.pending
    ∧ s.boundaryFaults.freeCount = s.freeCount := by
  simp [State.boundaryFaults]

@[simp] theorem State.boundaryDuplicate_frame (s : State) :
    s.boundaryDuplicate.time = s.time ∧ s.boundaryDuplicate.meas = s.meas ∧ s.boundaryDuplicate.env = s.env
    ∧ s.boundaryDuplicate.take = s.take ∧ s.boundaryDuplicate.panel = s.panel ∧ s.boundaryDuplicate.conf = s.conf
    ∧ s.boundaryDuplicate.pending = s.pending ∧ s.boundaryDuplicate.freeCount = s.freeCount := by
  simp only [State.boundaryDuplicate]; (repeat' split) <;> simp

@[simp] theorem State.reportAll_frame (l : List Entry) (s : State) :
    (l.foldl State.reportSilent s).time = s.time ∧ (l.foldl State.reportSilent s).meas = s.meas
    ∧ (l.foldl State.reportSilent s).seq = s.seq ∧ (l.foldl State.reportSilent s).env = s.env
    ∧ (l.foldl State.reportSilent s).reg = s.reg ∧ (l.foldl State.reportSilent s).take = s.take
    ∧ (l.foldl State.reportSilent s).link = s.link ∧ (l.foldl State.reportSilent s).table = s.table
    ∧ (l.foldl State.reportSilent s).coord = s.coord ∧ (l.foldl State.reportSilent s).panel = s.panel
    ∧ (l.foldl State.reportSilent s).conf = s.conf ∧ (l.foldl State.reportSilent s).pending = s.pending
    ∧ (l.foldl State.reportSilent s).freeCount = s.freeCount := by
  induction l generalizing s with
  | nil => simp
  | cons e l ih => simp [List.foldl_cons, ih]

@[simp] theorem State.ageEntries_frame (n : Nat) (s : State) :
    (s.ageEntries n).time = s.time ∧ (s.ageEntries n).meas = s.meas ∧ (s.ageEntries n).env = s.env
    ∧ (s.ageEntries n).take = s.take ∧ (s.ageEntries n).panel = s.panel ∧ (s.ageEntries n).conf = s.conf
    ∧ (s.ageEntries n).pending = s.pending ∧ (s.ageEntries n).freeCount = s.freeCount := by
  simp only [State.ageEntries]; (repeat' split) <;> simp

@[simp] theorem State.unconfigure_frame (r : LoadResult) (s : State) :
    (s.unconfigure r).time = s.time ∧ (s.unconfigure r).meas = s.meas ∧ (s.unconfigure r).seq = s.seq
    ∧ (s.unconfigure r).env = s.env ∧ (s.unconfigure r).reg = s.reg ∧ (s.unconfigure r).take = s.take
    ∧ (s.unconfigure r).link = s.link ∧ (s.unconfigure r).table = s.table ∧ (s.unconfigure r).coord = s.coord
    ∧ (s.unconfigure r).panel = s.panel ∧ (s.unconfigure r).pending = s.pending ∧ (s.unconfigure r).freeCount = s.freeCount := by
  simp [State.unconfigure]

@[simp] theorem State.configure_frame (t : Tag) (ps : List Profile) (s : State) :
    (s.configure t ps).time = s.time ∧ (s.configure t ps).env = s.env ∧ (s.configure t ps).take = s.take
    ∧ (s.configure t ps).panel = s.panel ∧ (s.configure t ps).faults = s.faults ∧ (s.configure t ps).pending = s.pending
    ∧ (s.configure t ps).freeCount = s.freeCount := by
  simp only [State.configure]; (repeat' split) <;> simp

@[simp] theorem State.loadCompleted_frame (j : Judgement) (s : State) :
    (s.loadCompleted j).time = s.time ∧ (s.loadCompleted j).env = s.env ∧ (s.loadCompleted j).take = s.take
    ∧ (s.loadCompleted j).panel = s.panel ∧ (s.loadCompleted j).pending = s.pending ∧ (s.loadCompleted j).freeCount = s.freeCount := by
  simp only [State.loadCompleted]; (repeat' split) <;> simp

@[simp] theorem State.boundaryTag_frame (s : State) :
    s.boundaryTag.time = s.time ∧ s.boundaryTag.env = s.env ∧ s.boundaryTag.take = s.take
    ∧ s.boundaryTag.panel = s.panel ∧ s.boundaryTag.pending = s.pending ∧ s.boundaryTag.freeCount = s.freeCount := by
  simp only [State.boundaryTag]; (repeat' split) <;> simp

@[simp] theorem State.boundaryTask_frame (n : Nat) (t : BoundaryTask) (s : State) :
    (s.boundaryTask n t).time = s.time ∧ (s.boundaryTask n t).env = s.env ∧ (s.boundaryTask n t).panel = s.panel
    ∧ (s.boundaryTask n t).pending = s.pending := by
  cases t <;> simp [State.boundaryTask, State.settled]

@[simp] theorem State.stopPump_frame (s : State) :
    s.stopPump.time = s.time ∧ s.stopPump.meas = s.meas ∧ s.stopPump.seq = s.seq
    ∧ s.stopPump.env = s.env ∧ s.stopPump.take = s.take ∧ s.stopPump.link = s.link
    ∧ s.stopPump.table = s.table ∧ s.stopPump.coord = s.coord ∧ s.stopPump.panel = s.panel
    ∧ s.stopPump.conf = s.conf ∧ s.stopPump.faults = s.faults ∧ s.stopPump.pending = s.pending
    ∧ s.stopPump.freeCount = s.freeCount := by
  simp [State.stopPump]

@[simp] theorem State.trip_frame (s : State) :
    s.trip.time = s.time ∧ s.trip.meas = s.meas ∧ s.trip.env = s.env
    ∧ s.trip.take = s.take ∧ s.trip.table = s.table ∧ s.trip.panel = s.panel
    ∧ s.trip.conf = s.conf ∧ s.trip.pending = s.pending ∧ s.trip.freeCount = s.freeCount := by
  simp [State.trip, State.settled]

@[simp] theorem State.sampleConfirm_frame (s : State) :
    s.sampleConfirm.time = s.time ∧ s.sampleConfirm.meas = s.meas ∧ s.sampleConfirm.env = s.env
    ∧ s.sampleConfirm.reg = s.reg ∧ s.sampleConfirm.take = s.take ∧ s.sampleConfirm.table = s.table
    ∧ s.sampleConfirm.coord = s.coord ∧ s.sampleConfirm.panel = s.panel ∧ s.sampleConfirm.conf = s.conf
    ∧ s.sampleConfirm.faults = s.faults ∧ s.sampleConfirm.pending = s.pending ∧ s.sampleConfirm.freeCount = s.freeCount := by
  simp only [State.sampleConfirm]; (repeat' split) <;> simp

@[simp] theorem State.buildSet_frame (s : State) :
    s.buildSet.time = s.time ∧ s.buildSet.seq = s.seq ∧ s.buildSet.env = s.env
    ∧ s.buildSet.reg = s.reg ∧ s.buildSet.take = s.take ∧ s.buildSet.link = s.link
    ∧ s.buildSet.table = s.table ∧ s.buildSet.coord = s.coord ∧ s.buildSet.panel = s.panel
    ∧ s.buildSet.conf = s.conf ∧ s.buildSet.faults = s.faults ∧ s.buildSet.pending = s.pending
    ∧ s.buildSet.freeCount = s.freeCount := by
  simp [State.buildSet]

@[simp] theorem State.amendLatest_frame (s : State) :
    s.amendLatest.time = s.time ∧ s.amendLatest.seq = s.seq ∧ s.amendLatest.env = s.env
    ∧ s.amendLatest.reg = s.reg ∧ s.amendLatest.take = s.take ∧ s.amendLatest.link = s.link
    ∧ s.amendLatest.table = s.table ∧ s.amendLatest.coord = s.coord ∧ s.amendLatest.panel = s.panel
    ∧ s.amendLatest.conf = s.conf ∧ s.amendLatest.faults = s.faults ∧ s.amendLatest.pending = s.pending
    ∧ s.amendLatest.freeCount = s.freeCount := by
  simp [State.amendLatest]

@[simp] theorem State.presentChange_frame (s : State) :
    s.presentChange.time = s.time ∧ s.presentChange.env = s.env ∧ s.presentChange.take = s.take
    ∧ s.presentChange.table = s.table ∧ s.presentChange.panel = s.panel ∧ s.presentChange.conf = s.conf
    ∧ s.presentChange.faults = s.faults ∧ s.presentChange.pending = s.pending ∧ s.presentChange.freeCount = s.freeCount := by
  simp [State.presentChange, State.settled]

@[simp] theorem State.completeTask_frame (l : Latched) (r : ReckRecord) (t : CompletionTask) (s : State) :
    (s.completeTask l r t).time = s.time ∧ (s.completeTask l r t).meas = s.meas ∧ (s.completeTask l r t).env = s.env
    ∧ (s.completeTask l r t).table = s.table ∧ (s.completeTask l r t).panel = s.panel ∧ (s.completeTask l r t).conf = s.conf
    ∧ (s.completeTask l r t).faults = s.faults ∧ (s.completeTask l r t).pending = s.pending ∧ (s.completeTask l r t).freeCount = s.freeCount := by
  cases t <;> simp [State.completeTask, State.settled]

/-! ## Panel Port -/

@[simp] theorem State.setProcess_frame (p : Option InProcess) (s : State) :
    (s.setProcess p).time = s.time ∧ (s.setProcess p).meas = s.meas ∧ (s.setProcess p).seq = s.seq
    ∧ (s.setProcess p).env = s.env ∧ (s.setProcess p).reg = s.reg ∧ (s.setProcess p).take = s.take
    ∧ (s.setProcess p).link = s.link ∧ (s.setProcess p).table = s.table ∧ (s.setProcess p).coord = s.coord
    ∧ (s.setProcess p).conf = s.conf ∧ (s.setProcess p).faults = s.faults ∧ (s.setProcess p).pending = s.pending
    ∧ (s.setProcess p).freeCount = s.freeCount := by
  simp [State.setProcess]

@[simp] theorem State.setPanelReceiver_frame (r : PanelReceiver) (s : State) :
    (s.setPanelReceiver r).time = s.time ∧ (s.setPanelReceiver r).meas = s.meas ∧ (s.setPanelReceiver r).seq = s.seq
    ∧ (s.setPanelReceiver r).env = s.env ∧ (s.setPanelReceiver r).reg = s.reg ∧ (s.setPanelReceiver r).take = s.take
    ∧ (s.setPanelReceiver r).link = s.link ∧ (s.setPanelReceiver r).table = s.table ∧ (s.setPanelReceiver r).coord = s.coord
    ∧ (s.setPanelReceiver r).conf = s.conf ∧ (s.setPanelReceiver r).faults = s.faults ∧ (s.setPanelReceiver r).pending = s.pending
    ∧ (s.setPanelReceiver r).freeCount = s.freeCount := by
  simp [State.setPanelReceiver]

@[simp] theorem State.badPanelFrame_frame (s : State) :
    s.badPanelFrame.time = s.time ∧ s.badPanelFrame.meas = s.meas ∧ s.badPanelFrame.seq = s.seq
    ∧ s.badPanelFrame.env = s.env ∧ s.badPanelFrame.reg = s.reg ∧ s.badPanelFrame.take = s.take
    ∧ s.badPanelFrame.link = s.link ∧ s.badPanelFrame.table = s.table ∧ s.badPanelFrame.coord = s.coord
    ∧ s.badPanelFrame.conf = s.conf ∧ s.badPanelFrame.faults = s.faults ∧ s.badPanelFrame.pending = s.pending
    ∧ s.badPanelFrame.freeCount = s.freeCount := by
  simp [State.badPanelFrame]

@[simp] theorem State.releaseRead_frame (s : State) :
    s.releaseRead.time = s.time ∧ s.releaseRead.meas = s.meas ∧ s.releaseRead.seq = s.seq
    ∧ s.releaseRead.env = s.env ∧ s.releaseRead.reg = s.reg ∧ s.releaseRead.take = s.take
    ∧ s.releaseRead.link = s.link ∧ s.releaseRead.table = s.table ∧ s.releaseRead.coord = s.coord
    ∧ s.releaseRead.conf = s.conf ∧ s.releaseRead.faults = s.faults ∧ s.releaseRead.pending = s.pending := by
  simp only [State.releaseRead, State.doRead, State.refuse]; (repeat' split) <;> simp

@[simp] theorem State.createStage_frame (a b p : Nat) (w v : Bool) (s : State) :
    (s.createStage a b p w v).time = s.time ∧ (s.createStage a b p w v).meas = s.meas ∧ (s.createStage a b p w v).link = s.link
    ∧ (s.createStage a b p w v).table = s.table ∧ (s.createStage a b p w v).panel = s.panel ∧ (s.createStage a b p w v).faults = s.faults
    ∧ (s.createStage a b p w v).pending = s.pending ∧ (s.createStage a b p w v).freeCount = s.freeCount := by
  simp [State.createStage]

@[simp] theorem State.openStage_frame (a b p : Nat) (w v : Bool) (s : State) :
    (s.openStage a b p w v).time = s.time ∧ (s.openStage a b p w v).meas = s.meas ∧ (s.openStage a b p w v).table = s.table
    ∧ (s.openStage a b p w v).panel = s.panel ∧ (s.openStage a b p w v).faults = s.faults ∧ (s.openStage a b p w v).pending = s.pending
    ∧ (s.openStage a b p w v).freeCount = s.freeCount := by
  simp [State.openStage, State.handover]

@[simp] theorem State.startStage_frame (st : StageRecord) (s : State) :
    (s.startStage st).time = s.time ∧ (s.startStage st).meas = s.meas ∧ (s.startStage st).env = s.env
    ∧ (s.startStage st).take = s.take ∧ (s.startStage st).table = s.table ∧ (s.startStage st).panel = s.panel
    ∧ (s.startStage st).conf = s.conf ∧ (s.startStage st).faults = s.faults ∧ (s.startStage st).pending = s.pending
    ∧ (s.startStage st).freeCount = s.freeCount := by
  simp only [State.startStage]; (repeat' split) <;> simp

@[simp] theorem State.releaseStage_frame (s : State) :
    s.releaseStage.time = s.time ∧ s.releaseStage.meas = s.meas ∧ s.releaseStage.env = s.env
    ∧ s.releaseStage.take = s.take ∧ s.releaseStage.table = s.table ∧ s.releaseStage.panel = s.panel
    ∧ s.releaseStage.conf = s.conf ∧ s.releaseStage.faults = s.faults ∧ s.releaseStage.pending = s.pending
    ∧ s.releaseStage.freeCount = s.freeCount := by
  simp only [State.releaseStage]; (repeat' split) <;> simp

@[simp] theorem State.stopStage_frame (s : State) :
    s.stopStage.time = s.time ∧ s.stopStage.meas = s.meas ∧ s.stopStage.env = s.env
    ∧ s.stopStage.take = s.take ∧ s.stopStage.table = s.table ∧ s.stopStage.panel = s.panel
    ∧ s.stopStage.conf = s.conf ∧ s.stopStage.faults = s.faults ∧ s.stopStage.pending = s.pending
    ∧ s.stopStage.freeCount = s.freeCount := by
  simp only [State.stopStage]; (repeat' split) <;> simp

@[simp] theorem State.abortStage_frame (s : State) :
    s.abortStage.time = s.time ∧ s.abortStage.meas = s.meas ∧ s.abortStage.take = s.take
    ∧ s.abortStage.table = s.table ∧ s.abortStage.panel = s.panel ∧ s.abortStage.conf = s.conf
    ∧ s.abortStage.faults = s.faults ∧ s.abortStage.pending = s.pending ∧ s.abortStage.freeCount = s.freeCount := by
  simp only [State.abortStage]; (repeat' split) <;> simp

@[simp] theorem State.takeStep_frame (c : Nat) (s : State) :
    (s.takeStep c).time = s.time ∧ (s.takeStep c).meas = s.meas ∧ (s.takeStep c).env = s.env
    ∧ (s.takeStep c).take = s.take ∧ (s.takeStep c).link = s.link ∧ (s.takeStep c).table = s.table
    ∧ (s.takeStep c).coord = s.coord ∧ (s.takeStep c).panel = s.panel ∧ (s.takeStep c).conf = s.conf
    ∧ (s.takeStep c).faults = s.faults ∧ (s.takeStep c).pending = s.pending ∧ (s.takeStep c).freeCount = s.freeCount := by
  simp [State.takeStep]

@[simp] theorem State.forceMix_frame (n : Nat) (s : State) :
    (s.forceMix n).time = s.time ∧ (s.forceMix n).meas = s.meas ∧ (s.forceMix n).env = s.env
    ∧ (s.forceMix n).reg = s.reg ∧ (s.forceMix n).take = s.take ∧ (s.forceMix n).link = s.link
    ∧ (s.forceMix n).table = s.table ∧ (s.forceMix n).coord = s.coord ∧ (s.forceMix n).panel = s.panel
    ∧ (s.forceMix n).conf = s.conf ∧ (s.forceMix n).faults = s.faults ∧ (s.forceMix n).pending = s.pending
    ∧ (s.forceMix n).freeCount = s.freeCount := by
  simp [State.forceMix]

@[simp] theorem State.restartStage_frame (s : State) :
    s.restartStage.time = s.time ∧ s.restartStage.meas = s.meas ∧ s.restartStage.env = s.env
    ∧ s.restartStage.take = s.take ∧ s.restartStage.table = s.table ∧ s.restartStage.panel = s.panel
    ∧ s.restartStage.conf = s.conf ∧ s.restartStage.faults = s.faults ∧ s.restartStage.pending = s.pending
    ∧ s.restartStage.freeCount = s.freeCount := by
  simp only [State.restartStage]; (repeat' split) <;> simp

@[simp] theorem State.listenAgain_frame (s : State) :
    s.listenAgain.time = s.time ∧ s.listenAgain.meas = s.meas ∧ s.listenAgain.seq = s.seq
    ∧ s.listenAgain.env = s.env ∧ s.listenAgain.reg = s.reg ∧ s.listenAgain.take = s.take
    ∧ s.listenAgain.link = s.link ∧ s.listenAgain.table = s.table ∧ s.listenAgain.panel = s.panel
    ∧ s.listenAgain.faults = s.faults ∧ s.listenAgain.pending = s.pending ∧ s.listenAgain.freeCount = s.freeCount := by
  simp [State.listenAgain]

@[simp] theorem State.restart_frame (s : State) :
    s.restart.time = s.time ∧ s.restart.meas = s.meas ∧ s.restart.env = s.env
    ∧ s.restart.take = s.take ∧ s.restart.panel = s.panel ∧ s.restart.faults = s.faults
    ∧ s.restart.pending = s.pending ∧ s.restart.freeCount = s.freeCount := by
  simp [State.restart, State.settled]

end Sys2Proof.Machine
end

