-- ==== Sys2Proof/Laws/PhaseFrame.lean ====
section
/-! SUPPORT. What a change of phase and a general evaluation leave alone: `PhaseFrame` of every operation that may move
the phase. It is reflexive and transitive, so the frame of a composite is the composition of the frames of its parts. -/

namespace Sys2Proof.Machine

theorem OnlyChanges.refl (l : List Block) (s : State) : OnlyChanges l s s := by
  intro b _; cases b <;> rfl

theorem OnlyChanges.trans {l : List Block} {a b c : State} (h : OnlyChanges l a b) (k : OnlyChanges l b c) :
    OnlyChanges l a c := by
  intro x hx
  have h := h x hx
  have k := k x hx
  cases x <;> simp only [sameBlock] at h k ⊢ <;> rw [k, h]

theorem OnlyChanges.mono {l m : List Block} {a b : State} (hlm : ∀ x ∈ l, x ∈ m) (h : OnlyChanges l a b) :
    OnlyChanges m a b := fun x hx => h x fun hl => hx (hlm x hl)

/-- `OnlyChanges phaseBlocks` from the ten other blocks. -/
theorem onlyPhaseBlocks {s t : State} (ht : t.time = s.time) (hm : t.meas = s.meas) (he : t.env = s.env)
    (hk : t.take = s.take) (hb : t.table = s.table) (hp : t.panel = s.panel) (hc : t.conf = s.conf)
    (hf : t.faults = s.faults) (hq : t.pending = s.pending) (hn : t.freeCount = s.freeCount) :
    OnlyChanges phaseBlocks s t := by
  intro b hb'
  cases b <;> simp [phaseBlocks] at hb' <;> simpa [sameBlock]

theorem PhaseFrame.refl (s : State) : PhaseFrame s s := by
  refine ⟨OnlyChanges.refl _ _, ?_⟩
  simp

theorem PhaseFrame.trans {a b c : State} (h : PhaseFrame a b) (k : PhaseFrame b c) : PhaseFrame a c := by
  obtain ⟨h0, h1, h2, h3, h4, h5, h6, h7, h8, h9, h10, h11, h12, h13, h14⟩ := h
  obtain ⟨k0, k1, k2, k3, k4, k5, k6, k7, k8, k9, k10, k11, k12, k13, k14⟩ := k
  refine ⟨h0.trans k0, ?_⟩
  refine ⟨by rw [k1, h1], by rw [k2, h2], by rw [k3, h3], by rw [k4, h4], by rw [k5, h5], ?_, by rw [k7, h7],
    by rw [k8, h8], by rw [k9, h9], by rw [k10, h10], by rw [k11, h11], by rw [k12, h12], by rw [k13, h13],
    by rw [k14, h14]⟩
  rw [k6, h6]

theorem Link.create_frame (l : Link) :
    l.create = { l with slot := l.create.slot, generator := l.create.generator, urgent := l.create.urgent } := by
  simp [Link.create]

theorem Link.serveUrgent_frame (l : Link) :
    l.serveUrgent
      = { l with slot := l.serveUrgent.slot, generator := l.serveUrgent.generator, urgent := l.serveUrgent.urgent } := by
  unfold Link.serveUrgent
  split
  · exact l.create_frame
  · rfl

theorem State.urgent_phaseFrame (s : State) : PhaseFrame s s.urgent := by
  obtain ⟨ht, hm, hs, he, hr, hk, hb, hc, hp, hcf, hf, hq, hn⟩ := State.urgent_frame s
  refine ⟨onlyPhaseBlocks ht hm he hk hb hp hcf hf hq hn, ?_⟩
  rw [hr, hs, hc]
  refine ⟨rfl, rfl, rfl, rfl, rfl, ?_, rfl, rfl, rfl, rfl, rfl, rfl, rfl, rfl⟩
  unfold State.urgent
  split
  · have h := Link.serveUrgent_frame { s.link with urgent := true }
    simp only at h ⊢
    rw [h]
  · rfl

/-- A change to the stage record that leaves what OPEN fixed. -/
theorem State.modStage_phaseFrame {f : StageRecord → StageRecord} (h : ∀ st, (f st).asOpened = st.asOpened) (s : State) :
    PhaseFrame s (s.modStage f) := by
  refine ⟨onlyPhaseBlocks rfl rfl rfl rfl rfl rfl rfl rfl rfl rfl, rfl, rfl, rfl, rfl, ?_, rfl, rfl, rfl, rfl, rfl, rfl,
    rfl, rfl, rfl⟩
  simp only [State.modStage]
  cases s.seq.stage <;> simp [h]

/-- A change inside the Sequencer that leaves the counter, the intensity run and what OPEN fixed. -/
theorem PhaseFrame.ofSeq {s : State} {q : Sequencer} (hc : q.counter = s.seq.counter)
    (hi : q.intensityRun = s.seq.intensityRun)
    (hs : q.stage.map (·.asOpened) = s.seq.stage.map (·.asOpened)) : PhaseFrame s { s with seq := q } :=
  ⟨onlyPhaseBlocks rfl rfl rfl rfl rfl rfl rfl rfl rfl rfl, rfl, rfl, hc, hi, hs, rfl, rfl, rfl, rfl, rfl, rfl,
    rfl, rfl, rfl⟩

/-- A change inside the Regulator that leaves the commanded and the reached step. -/
theorem PhaseFrame.ofReg {s : State} {r : Regulator} (hc : r.commanded = s.reg.commanded)
    (hr : r.reached = s.reg.reached) : PhaseFrame s { s with reg := r } :=
  ⟨onlyPhaseBlocks rfl rfl rfl rfl rfl rfl rfl rfl rfl rfl, hc, hr, rfl, rfl, rfl, rfl, rfl, rfl, rfl, rfl, rfl,
    rfl, rfl, rfl⟩

/-- A change inside the Coordination Unit that leaves supply, uplift and the LISTEN start. -/
theorem PhaseFrame.ofCoord {s : State} {c : Coordination} (h1 : c.allowance = s.coord.allowance)
    (h2 : c.criticalTotal = s.coord.criticalTotal) (h3 : c.participants = s.coord.participants)
    (h4 : c.lowRun = s.coord.lowRun) (h5 : c.highRun = s.coord.highRun) (h6 : c.headerRun = s.coord.headerRun)
    (h7 : c.uplift = s.coord.uplift) (h8 : c.listenStart = s.coord.listenStart) :
    PhaseFrame s { s with coord := c } :=
  ⟨onlyPhaseBlocks rfl rfl rfl rfl rfl rfl rfl rfl rfl rfl, rfl, rfl, rfl, rfl, rfl, rfl, h1, h2, h3, h4, h5,
    h6, h7, h8⟩

theorem State.handover_phaseFrame (old : Phase) {new : Phase} (h : new ≠ .vacant) (s : State) :
    PhaseFrame s (s.handover old new) := by
  have he : s.env.handed new = s.env := by simp [Envelope.handed, h]
  have h1 : PhaseFrame s { s with reg := s.reg.handed old new } := .ofReg rfl rfl
  have h2 : PhaseFrame { s with reg := s.reg.handed old new }
      { s with reg := s.reg.handed old new, coord := s.coord.handed new (s.deliveredNat .hole) } := by
    apply PhaseFrame.ofCoord <;> (unfold Coordination.handed; split <;> rfl)
  have h3 : PhaseFrame { s with reg := s.reg.handed old new, coord := s.coord.handed new (s.deliveredNat .hole) }
      { s with
        reg := s.reg.handed old new
        coord := s.coord.handed new (s.deliveredNat .hole)
        seq := s.seq.handed old new } := .ofSeq rfl rfl rfl
  have h4 := State.urgent_phaseFrame
    { s with
      reg := s.reg.handed old new
      coord := s.coord.handed new (s.deliveredNat .hole)
      seq := s.seq.handed old new }
  unfold State.handover
  rw [he]
  exact ((h1.trans h2).trans h3).trans h4

theorem State.enterPhase_phaseFrame {new : Phase} (h : new ≠ .vacant) (s : State) : PhaseFrame s (s.enterPhase new) :=
  (State.modStage_phaseFrame (by intro st; rfl) s).trans (State.handover_phaseFrame _ h _)

theorem State.abandonTest_phaseFrame (s : State) : PhaseFrame s s.abandonTest :=
  State.modStage_phaseFrame (by intro st; rfl) s

theorem State.setRestraints_phaseFrame (r : Restraints) (s : State) : PhaseFrame s (s.setRestraints r) :=
  State.modStage_phaseFrame (by intro st; rfl) s

theorem State.requestMix_phaseFrame (m : Nat) (s : State) : PhaseFrame s (s.requestMix m) :=
  (State.modStage_phaseFrame (f := fun st => { st with
      history := st.history ++ [⟨m, 0, s.stageSecond, false⟩], pendingMix := some ⟨m, s.stageSecond, 0⟩ })
    (by intro st; rfl) s).trans (.ofSeq rfl rfl rfl)

theorem State.enterInjectingFirst_phaseFrame (s : State) : PhaseFrame s s.enterInjectingFirst := by
  unfold State.enterInjectingFirst
  refine ((State.enterPhase_phaseFrame (new := .injecting) (by simp) s).trans ?_)
  refine (State.modStage_phaseFrame ?_ _).trans ((State.requestMix_phaseFrame _ _).trans (.ofSeq rfl rfl rfl))
  intro st; rfl

theorem State.enterWaiting_phaseFrame (r : Restraints) (s : State) : PhaseFrame s (s.enterWaiting r) := by
  have h := (State.enterPhase_phaseFrame (new := .waiting) (by simp) s).trans
    (State.setRestraints_phaseFrame (r.union s.seq.kept.toRestraints) _)
  unfold State.enterWaiting
  simp only
  split
  · exact h.trans (State.enterInjectingFirst_phaseFrame _)
  · exact h

theorem State.enterHolding_phaseFrame (r : Restraints) (s : State) : PhaseFrame s (s.enterHolding r) :=
  (State.enterPhase_phaseFrame (new := .holding) (by simp) s).trans
    (State.modStage_phaseFrame (by intro st; rfl) _)

theorem State.changeSet_phaseFrame (r : Restraints) (s : State) : PhaseFrame s (s.changeSet r) := by
  have h := State.setRestraints_phaseFrame r s
  unfold State.changeSet
  split
  · exact .refl s
  · split
    · split
      · exact h.trans (State.enterInjectingFirst_phaseFrame _)
      · exact h.trans (State.enterPhase_phaseFrame (by simp) _)
    · exact h.trans (State.urgent_phaseFrame _)

theorem State.arrive_phaseFrame (r : Restraints) (s : State) : PhaseFrame s (s.arrive r) := by
  unfold State.arrive
  split
  · exact (State.abandonTest_phaseFrame s).trans (State.enterWaiting_phaseFrame _ _)
  · exact State.enterHolding_phaseFrame _ _
  · exact State.changeSet_phaseFrame _ _
  · exact State.changeSet_phaseFrame _ _
  · exact .refl s

theorem State.present_phaseFrame (kept : Conditions) (r : Restraints) (s : State) : PhaseFrame s (s.present kept r) := by
  have h : PhaseFrame s { s with seq := { s.seq with kept := kept } } := .ofSeq rfl rfl rfl
  unfold State.present
  simp only
  split
  · split
    · exact h
    · exact h.trans (State.arrive_phaseFrame _ _)
  · split
    · exact h
    · exact h.trans (State.arrive_phaseFrame _ _)
  · exact h.trans (State.changeSet_phaseFrame _ _)
  · exact h.trans (State.changeSet_phaseFrame _ _)
  · exact h

theorem State.presentField_phaseFrame (s : State) : PhaseFrame s s.presentField := State.present_phaseFrame _ _ _

theorem State.presentSupply_phaseFrame (p : Bool) (s : State) : PhaseFrame s (s.presentSupply p) := by
  unfold State.presentSupply
  split
  · exact .refl s
  · exact State.present_phaseFrame _ _ _

theorem State.closeStage_phaseFrame (o : Outcome) (c : Criteria) (r : ReckRecord) (s : State) :
    PhaseFrame s (s.closeStage o c r) := by
  unfold State.closeStage
  refine (State.modStage_phaseFrame ?_ s).trans (State.enterPhase_phaseFrame (by simp) _)
  intro st; rfl

theorem State.recomputeStep_phaseFrame (n : Nat) (s : State) : PhaseFrame s (s.recomputeStep n) := by
  have h : PhaseFrame s { s with reg := { s.reg with arrivalRun := 0, advanceCount := 0 } } := .ofReg rfl rfl
  unfold State.recomputeStep
  split
  · exact .refl s
  · simp only
    split
    · refine h.trans (State.modStage_phaseFrame ?_ _)
      intro st; split <;> rfl
    · exact h

theorem State.setLimit_phaseFrame (n : Nat) (s : State) : PhaseFrame s (s.setLimit n) := by
  have h : PhaseFrame s { s with coord := { s.coord with limit := n } } := by apply PhaseFrame.ofCoord <;> rfl
  exact h.trans (State.recomputeStep_phaseFrame _ _)

theorem State.formDemand_phaseFrame (s : State) : PhaseFrame s s.formDemand := by
  apply PhaseFrame.ofCoord <;> rfl

theorem State.formLimits_phaseFrame (s : State) : PhaseFrame s s.formLimits := by
  have h : PhaseFrame s
      { s with coord := { s.coord with
          causes := s.standoffCauses
          limitConnection := s.connectionLimit
          limitUplift := s.upliftLimit
          limitDerate := if s.isOpen then s.derateLimit else s.coord.limitDerate
          derateCount := if s.isOpen then s.derateNeighbours else s.coord.derateCount } } := by
    apply PhaseFrame.ofCoord <;> rfl
  unfold State.formLimits
  simp only
  split
  · rename_i ho
    simp only [ho, if_true] at h
    exact h.trans (State.setLimit_phaseFrame _ _)
  · rename_i ho
    simp only [ho] at h
    exact h

theorem State.presentCoordination_phaseFrame (s : State) : PhaseFrame s s.presentCoordination :=
  State.present_phaseFrame _ _ _

theorem State.evaluateOnce_phaseFrame (s : State) : PhaseFrame s s.evaluateOnce := by
  unfold State.evaluateOnce
  split
  · exact ((State.formDemand_phaseFrame s).trans (State.formLimits_phaseFrame _)).trans
      (State.presentCoordination_phaseFrame _)
  · exact .refl s

/-- A general evaluation and the one that a change of phase raises (R148). -/
theorem State.evaluate_phaseFrame (s : State) : PhaseFrame s s.evaluate := by
  unfold State.evaluate
  simp only
  split
  · exact State.evaluateOnce_phaseFrame s
  · exact (State.evaluateOnce_phaseFrame s).trans (State.evaluateOnce_phaseFrame _)

theorem State.settle_phaseFrame (p : Phase) (s : State) : PhaseFrame s (s.settle p) := by
  unfold State.settle
  split
  · exact .refl s
  · exact State.evaluate_phaseFrame s

/-- A part of an event that has the frame has it with its evaluation. -/
theorem PhaseFrame.settled {f : State → State} {s : State} (h : PhaseFrame s (f s)) : PhaseFrame s (s.settled f) :=
  h.trans (State.settle_phaseFrame _ _)

end Sys2Proof.Machine
end

