-- ==== Sys2Proof/Tests/Slice0.lean ====
section
/-! SUPPORT. The model's own tests: the WellFormed smoke, the spec's worked examples (each names its place), and for
every statement with hypotheses a witness that meets them. -/

namespace Sys2Proof.Tests

open Sys2Proof.Machine

/-! ## Helpers -/

/-- The profile of the worked case 3.10, with a test of 500, 1,000 and 1,500 kPa. -/
def profile : Profile where
  pmax := 3000
  gin := 200000
  vmax := 3000
  top := 8
  start := 3
  qref := 20
  tref := 600
  qmax := 400
  tolp := 100
  pa := 500
  pb := 1000
  pc := 1500
  action := .reduce
  connStep := 3
  upliftStep := 4
  valid := true

def offFilter : Filter := ⟨false, 0#8, 0#16, 0#16⟩

/-- The tag of the worked cases: B 12,340, SECONDARY, weight 2. -/
def tag : Tag where
  line := 1
  chainage := 12340
  cls := 2
  weight := 2
  rowSpacing := 150
  hg := 120
  incl := 940
  lh := 2500
  wv := 1500
  cWater := 100
  condGauge := ⟨false, 0⟩
  condFlow := ⟨false, 0⟩
  condHole := ⟨false, 0⟩
  condHeader := ⟨true, 400⟩
  upliftFitted := false
  gTrip := 5000
  gLim := 4000
  ladder := [500, 800, 1200, 1600, 2000, 2400, 2800, 3000]
  mixes := [⟨1300, 200, 200, 200⟩, ⟨1450, 250, 300, 300⟩, ⟨1520, 300, 400, 400⟩, ⟨1700, 800, 500, 0⟩]
  tTest := 30
  thresholds := [10, 30, 100, 300]
  defaultMix := 2
  tolRho := 30
  tMix := 600
  gain := 80
  slewUp := 20
  slewDn := 30
  sMax := 600
  disp := 150
  qAdv := 50
  tAdv := 20
  tHold := 1800
  pB := 1000
  aStale := 5
  filters := [offFilter, offFilter, offFilter, offFilter]
  dSo := 50
  dDr := 200
  dCn := 100
  dUp := 300
  mSo := 300
  kDr := 2
  dpConn := 200
  uAlert := 500
  uStop := 1000
  uHys := 50
  qCap := 1200
  qMin := 150
  qHys := 50
  hMin := 300

def own : Identity := ⟨1, 12340⟩

/-- A RUNNING station with the settings in force, SEAL asserted, every condition absent, KEY as given. -/
def stationAt (key : Bool) : State :=
  { State.reset with
    time := ⟨1000, 3, false, false⟩
    conf := ⟨.running, true, tag, [profile, profile, profile, profile], false, some .accepted⟩
    seq := { Sequencer.powerOn with kept := ⟨false, false, false, false, false, false⟩, counter := 7 }
    meas := { Measurement.powerOn with sealIn := ⟨true, 0⟩, keyIn := ⟨key, 0⟩ }
    link := { Link.powerOn with generator := some 14362#16 } }

def station : State := stationAt false

/-- The stage of the worked case 3.10, in a phase. -/
def stage (p : Phase) : StageRecord :=
  { StageRecord.opened 7 own 4000 4500 0 true true 900 with phase := p }

/-- A state with a stage record. -/
def withStage (st : StageRecord) (s : State) : State :=
  { s with seq := { s.seq with stage := some st }, reg := { s.reg with valveOpen := st.phase.pumping } }

def inPhase (p : Phase) : State := withStage (stage p) station

/-- The same with a restraint set. -/
def restrained (p : Phase) (r : Restraints) : State := withStage { stage p with restraints := r } station

/-- The latched inputs of the worked case 3.10. -/
def latched : Latched :=
  { (inPhase .injecting).latch
      { seq := 5000, clock := 1000, tenths := 3, gauge := 1850, flow := 150, density := 1520, hole := 0, header := 0
        uplift := none, failed := ⟨false, false, false, false, false, false⟩, sealIn := true, leakIn := false
        keyIn := false } (stage .injecting) with
    mix := some 3, friction := some 300, volume := 4000, ladderE := 2400, e := 6 }

/-- A state with that reckoning in flight. -/
def reckoning (s : State) : State := { s with env := { s.env with inFlight := some latched } }

/-- Raw codes that read 0 on every channel but GAUGE and FLOW. -/
def lines (gauge flow : Nat) : SampleInput where
  codes := ⟨BitVec.ofNat 12 gauge, BitVec.ofNat 12 flow, 819#12, 819#12, 819#12, 819#12⟩
  sealIn := true
  leakIn := false
  keyIn := false

def order : SampleOrder := ⟨[], []⟩

/-- The state after a command (itself where it stops, which no command does). -/
def after (i : Instr) (s : State) : State :=
  match exec i s with
  | .next t => t
  | _ => s

/-- The status that the command in process has been answered with. -/
def answered (s : State) : Option Status := (s.panel.inProcess.bind (·.response)).map (·.status)

/-! ## WellFormed -/

theorem test_refuses_line_above_D : Identity.wf ⟨4, 0⟩ = false := by decide

theorem test_refuses_wide_chainage : Identity.wf ⟨0, 65536⟩ = false := by decide

theorem test_entry_commands_check_identity :
    (Instr.entryStale ⟨4, 0⟩).wf = false ∧ (Instr.entryRemoved ⟨0, 65536⟩).wf = false := by decide

theorem test_refuses_short_frame : (Instr.frameReceived [7#8, 0#8]).wf = false := by decide

theorem test_refuses_frame_of_bad_length : (Instr.frameReceived [6#8, 0#8, 0#8, 0#8, 0#8, 0#8, 0#8, 0#8, 0#8]).wf = false := by
  decide

theorem test_bad_length_row_needs_bad_length : (Instr.badLengthFrame 7#8).wf = false ∧ (Instr.badLengthFrame 40#8).wf = true := by
  decide

theorem test_refuses_empty_image : (Instr.tagLoadComplete [0#8]).wf = false := by decide

theorem test_refuses_message_of_other_length : (Instr.panelMessage [4#8, 1#8, 0#8]).wf = false := by decide

theorem test_refuses_message_of_two : (Instr.panelMessage [2#8, 0#8]).wf = false := by decide

theorem test_refuses_known_code : (Instr.unknownCode 1#8 []).wf = false ∧ (Instr.unknownCode 0x0E#8 []).wf = true := by
  decide

theorem test_refuses_long_unknown_message : (Instr.unknownCode 0x0E#8 (List.replicate 14 0#8)).wf = false := by decide

/-! ## Worked examples of the spec -/

/-- 01, the examples of R4. -/
theorem test_conversions :
    convert .gauge 2048#12 = some 4501 ∧ convert .gauge 2184#12 = some 5000 ∧ convert .flow 1065#12 = some 150
      ∧ convert .density 2239#12 = some 1520 ∧ convert .header 3000#12 = some 1331
      ∧ convert .uplift 1228#12 = some (-1) ∧ convert .gauge 760#12 = some 0 ∧ convert .gauge 4095#12 = some 12000 := by
  decide

/-- 01, the bounds of R4 and R5. -/
theorem test_conversion_bounds :
    convert .density 699#12 = none ∧ convert .density 700#12 = some 1000 ∧ convert .density 818#12 = some 1000
      ∧ codeClass 699#12 = .low ∧ codeClass 4094#12 = .good ∧ codeClass 4095#12 = .full := by decide

/-- 01 section 1.9: the third low code fails FLOW, which delivers 150; the stage goes to HOLDING. -/
theorem test_open_loop_on_flow :
    let flow : ChannelState := ⟨false, none, 0#12, some 150, some 150, 2, 0, 0, 0, none⟩
    let t := after (.channelFail .flow 4#12) ((inPhase .injecting).setChannel .flow flow)
    (t.meas.channels.flow.cause, t.deliveredNat .flow, t.seq.kept.sensor, t.phase)
      = (some .openLoop, 150, true, .holding) := by decide

/-- 01 section 1.9: at the twentieth good code FLOW delivers the conversion of 1,048, which is 139. -/
theorem test_recovery_of_flow :
    let flow : ChannelState := ⟨true, some .openLoop, 0#12, some 150, some 150, 0, 0, 0, 19, none⟩
    let t := after (.channelRecover .flow 1048#12) (station.setChannel .flow flow)
    (t.failed .flow, t.deliveredNat .flow) = (false, 139) := by decide

/-- R12: SEAL changes at the fifth differing sample. -/
theorem test_seal_debounce :
    ((InputState.mk true 3).sample .sealIn false, (InputState.mk true 4).sample .sealIn false)
      = (⟨true, 4⟩, ⟨false, 0⟩) := by decide

/-- 01 section 1.9 and R15: a gauge at G_trip trips INJECTING into HOLDING with TRIP. -/
theorem test_trip :
    let t := after (.sampleSet (lines 2184 819) order) (inPhase .injecting)
    (t.deliveredNat .gauge, t.phase, t.restraints.trip, t.reg.valveOpen, t.relayClosed)
      = (5000, .holding, true, false, true) := by decide

/-- R1: the tenths and the clock at an advance. -/
theorem test_sample_set_advances :
    ((after (.sampleSet (lines 819 819) order) station).time,
      (after (.sampleSet (lines 819 819) order) { station with time := ⟨4294967295, 9, false, false⟩ }).time)
      = (⟨1000, 4, false, false⟩, ⟨0, 0, false, true⟩) := by decide

/-- 03 section 3.10, stage by stage. -/
theorem test_worked_reckoning :
    [latched.mid, latched.mv, latched.hv, latched.pHead, latched.pFric, latched.pWater, latched.take, latched.intensity,
        latched.pEnv, latched.pTgt, latched.gSet]
      = [4250, 3995, 4115, 614, 44, 245, 800, 174000, 2500, 2400, 2075] ∧ latched.pEff = 2175 := by decide

/-- 03 section 3.10, the flags, and the two neighbouring cases. -/
theorem test_worked_flags :
    let r := latched.record 0
    let larger := { latched with volume := 5000 }.record 0
    let seven := { latched with e := 7, ladderE := 2800 }.record 0
    (r.volumeReached, r.intensityReached, r.refusalPressureOk, r.refusalFlowOk, r.binding)
        = (false, false, false, false, false)
      ∧ (larger.v, larger.pEnv, larger.pTgt, larger.binding, larger.i, larger.intensityReached, larger.gSet)
        = (1000, 2000, 2000, true, 217500, true, 1675)
      ∧ (seven.pTgt, seven.binding, seven.gSet) = (2500, true, 2175) := by decide

/-- 03 section 3.12: friction past its cap and a negative effective pressure. -/
theorem test_friction_cap :
    let l := { latched with
      top := 1000, bottom := 1500, incl := 1000, hg := 0, wv := 0, density := 1400, friction := some 1000
      lh := 10000, flow := 2000, gauge := 2500, ladderE := 800, volume := 0 }
    (l.pHead, l.pFric, l.pWater, l.pEff, l.intensity, l.pTgt, l.gSet) = (172, 5000, 123, -2000, 0, 800, 4000) := by
  decide

/-- 03 section 3.11: a set that finds the slot occupied replaces it and is counted. -/
theorem test_slot_replaced :
    let s := reckoning (inPhase .injecting)
    let t := after (.sampleSet (lines 819 819) order) (after (.sampleSet (lines 819 819) order) s)
    (t.env.inFlight.map (·.sampleSeq), t.env.slot.map (·.seq), t.env.replaced) = (some 5000, some 1, 1) := by decide

/-- 04 section 4.9, completions 1 to 4 and the one after RELEASE. -/
theorem test_stroke_updates :
    let at_ (stroke gauge allowance : Nat) : State :=
      let s := (inPhase .injecting).setChannel .gauge ⟨false, none, 0#12, some gauge, some gauge, 0, 0, 0, 0, none⟩
      { s with reg := { s.reg with stroke := stroke }, coord := { s.coord with allowance := allowance } }
    (((at_ 180 1850 300).strokeUpdate 2075).reg.stroke, ((at_ 197 1905 300).strokeUpdate 2075).reg.stroke,
      ((at_ 166 2010 250).strokeUpdate 2075).reg.stroke, ((at_ 166 2160 250).strokeUpdate 2075).reg.stroke,
      ((at_ 0 1300 300).strokeUpdate 2075).reg.stroke) = (197, 200, 166, 160, 20) := by decide

/-- 05, the Lugeon table of R82. -/
theorem test_lugeon :
    (lugeonOf 100 1000 500, lugeonOf 180 1470 500, lugeonOf 900 5 100, lugeonOf 40 (-12) 300)
      = (some 20, some 24, some 9999, none) := by decide

/-- 05, the start-mix table of R85. -/
theorem test_start_mix :
    let from_ (third : Option Nat) : TestResults := .complete [⟨0, 0, none⟩, ⟨0, 0, none⟩, ⟨0, 0, third⟩, ⟨0, 0, none⟩, ⟨0, 0, none⟩]
    (startMixOf tag (from_ (some 24)), startMixOf tag (from_ (some 300)), startMixOf tag (from_ (some 9)),
      startMixOf { tag with thresholds := [10, 30, 100, 300, 1000] } (from_ (some 5000)),
      startMixOf { tag with thresholds := [10, 30] } (from_ none), startMixOf tag .abandoned) = (2, 4, 1, 4, 2, 2) := by
  decide

/-- 06 section 6.9: grout by remainder, samples 1, 2 and 5. -/
theorem test_grout_by_remainder :
    let s (v rem : Nat) : State :=
      { inPhase .injecting with take := { TakeCounters.powerOn with
          live := { LiveCounters.zero (some 7) with volume := v }, remGrout := rem } }
    let f (q v rem : Nat) : Nat × Nat := (((s v rem).countGrout q).take.live.volume, ((s v rem).countGrout q).take.remGrout)
    (f 150 3998 420, f 160 3998 570, f 180 3999 425) = ((3998, 570), (3999, 130), (4000, 5)) := by decide

/-- 06 section 6.9: strokes by remainder, samples 1 and 2. -/
theorem test_strokes_by_remainder :
    let f (rem : Nat) : Nat × Nat :=
      let t := State.countStrokes 197 { inPhase .injecting with take := { TakeCounters.powerOn with remStroke := rem } }
      (t.take.live.strokes, t.take.remStroke)
    (f 5700, f 5897) = ((0, 5897), (1, 94)) := by decide

/-- 06 section 6.9: the window from 30,000 to 30,001. -/
theorem test_second_window :
    (Window.close ⟨1503, 21764, 10, some 1830, some 1910, true⟩) = ⟨some 150, some 2176, some 80, true⟩
      ∧ (Window.close ⟨0, -3, 2, none, none, false⟩).meanP = some (-2) := by decide

/-- 07, the three draws of B 12,340 (R121). -/
theorem test_draws :
    (seedOf own, draw 1 (some (seedOf own)), draw 2 (some 14362#16), draw 3 (some 7181#16))
      = (28724#16, (some 14362#16, 2), (some 7181#16, 13), (some 47622#16, 6)) := by decide

/-- 12, R189: the nine bytes 0x31 to 0x39. -/
theorem test_check_value :
    crc16 [0x31#8, 0x32#8, 0x33#8, 0x34#8, 0x35#8, 0x36#8, 0x37#8, 0x38#8, 0x39#8] = 0x29B1#16 := by decide +kernel

/-- 12, R188: the header bytes at offsets 3 to 6. -/
theorem test_header_bytes : (station.ownBulletin 0).body.take 4 = [0x01#8, 0x30#8, 0x34#8, 0x22#8] := by decide

/-- 08, the filter of its example: lines A to C, base 12,288, mask 61,440. -/
theorem test_filter :
    let f : Filter := ⟨true, 7#8, 12288#16, 61440#16⟩
    (filtersPass [offFilter, f] ⟨3, 12400⟩, filtersPass [offFilter, f] ⟨1, 16500⟩, filtersPass [offFilter, f] ⟨0, 12355⟩,
      filtersPass [offFilter] ⟨3, 12400⟩) = (false, false, true, true) := by decide

/-- 08 section 8.6: the freshness of one neighbour. -/
theorem test_freshness :
    [seqAccepted false 101 100, seqAccepted false 101 101, seqAccepted false 75 101, seqAccepted true 0 101,
      seqAccepted true 1 0, seqAccepted false 3 1, seqAccepted false 128 1, seqAccepted false 129 1]
      = [true, false, false, true, true, true, true, false] := by decide

/-- 08 section 8.6: the distances of the full table's stations. -/
theorem test_distances :
    (distance 150 ⟨0, 12040⟩ own, distance 150 ⟨3, 12700⟩ own, distance 150 ⟨3, 12400⟩ own, distance 150 ⟨2, 12190⟩ own,
      distance 150 ⟨3, 12430⟩ own) = (450, 660, 360, 300, 390) := by decide

/-- An entry of the tests: FRESH, heard at 1,000, of class SECONDARY. -/
def entry (id : Identity) (phase : Phase) (weight demand : Nat) (critical : Bool) : Entry where
  identity := id
  distance := distance 150 id own
  lastSeq := 100
  lastHeard := 1000
  fresh := true
  cls := 2
  weight := weight
  phase := phase
  stage := some ⟨9000, 9500, 1000, 100, 0, some 1, critical, demand, .none, 1⟩
  uplift := none
  suspects := []
  namesOwn := false

def withEntries (l : List Entry) (s : State) : State := { s with table := ⟨l, false, none⟩ }

/-- 08 section 8.6: the candidate of the full table, and the two newcomers. -/
theorem test_candidate :
    let a := entry ⟨0, 12040⟩ .injecting 2 0 false
    let b := { entry ⟨3, 12700⟩ .closed 2 0 false with namesOwn := true }
    let c := entry ⟨3, 12400⟩ .vacant 2 0 false
    let d := entry ⟨3, 12280⟩ .packed 2 0 false
    (candidate [a, b, c, d] = some c ∧ candidate [a, b, d] = some d)
      ∧ (takesPlace 300 ⟨2, 12190⟩ c, takesPlace 390 ⟨3, 12430⟩ d, takesPlace 360 ⟨1, 12700⟩ d) = (true, false, true) := by
  decide

/-- 09 section 9.11: the allowance of one supply evaluation. -/
theorem test_worked_allowance :
    let t := withEntries
      [entry ⟨1, 12310⟩ .injecting 2 60 true, entry ⟨1, 12400⟩ .injecting 3 200 false,
        entry ⟨2, 12280⟩ .injecting 1 600 false, entry ⟨0, 12355⟩ .injecting 2 500 false] (inPhase .injecting)
    (t.formSupply.coord.allowance, t.formSupply.coord.criticalTotal, t.formSupply.coord.participants,
      t.formSupply.injectingCap) = (376, 60, 5, 250) := by decide

/-- 10 and 12.2: START as a message, 03 03 FA, is answered; a wrong check byte is a bad frame. -/
theorem test_panel_message :
    let put (l : List Byte) : State := l.foldl (fun s b => after (.panelByteReceived b) s) (inPhase .packed)
    (answered (put [3#8, 3#8, 0xFA#8]), (put [3#8, 3#8, 0xFB#8]).panel.badFrames, (put [2#8]).panel.receiver)
      = (some .ok, 1, .skipping) := by decide

/-- R190: the response of STATUS carries its code plus 0x80 and sums to 0. -/
theorem test_response_bytes :
    let r : Response := ⟨0x04#8, .okClamped, [8#8, 6#8]⟩
    r.bytes.take 5 = [6#8, 0x84#8, 0x01#8, 8#8, 6#8] ∧ sumBytes r.bytes = 0#8 := by decide

/-- 02 section 2.9: OPEN, then START on a stage with a test. -/
theorem test_open_then_start :
    let s := after .responseEnd (after (.openStage 4000#16 4500#16 0#8 1#8 1#8) station)
    let t := after .start s
    (s.phase, s.seq.stage.map (·.number), s.coord.baseline, t.phase, t.seq.test.map (·.pressure), t.reg.suctionWater)
      = (.packed, some 8, some 0, .testing, some 500, true) := by decide

/-- R64: STEP above T is clamped; the effective step is min(c, lambda). -/
theorem test_step_clamped :
    let s := { inPhase .packed with conf := { station.conf with profiles := [{ profile with top := 6 }] } }
    let t := after (.stepTo 8#8) { s with coord := { s.coord with limit := 4 } }
    (answered t, t.reg.commanded, t.effective) = (some .okClamped, 6, 4) := by decide

/-- R172: the order of the general checks. -/
theorem test_general_checks :
    (answered (after (.unknownCode 0x0E#8 []) State.reset), answered (after .start State.reset),
      answered (after .restart station), answered (after (.unknownCode 0x16#8 [1#8]) (stationAt true)))
      = (some .badCode, some .refusedUnconfigured, some .refusedLevel, some .badArg) := by decide

/-- R181: a stated length of 513 is judged ABSENT. -/
theorem test_absent_tag :
    let t := after (.tagLoadComplete [2#8, 1#8]) State.reset
    (t.conf.station, t.conf.load, t.faults.configBad.present) = (.unconfigured, some .absent, true) := by decide

/-- Step takes the front of the queue. -/
theorem test_step_takes_front :
    (match step { station with pending := [.hold, .status] } with
      | .next t => (answered t, t.pending)
      | _ => (none, [])) = (some .refusedState, [.status]) := by decide

/-! ## Witnesses: for each statement with hypotheses, a state and operands that meet them -/

theorem witness_StepRunsFrontOfQueue :
    ({ station with pending := [Instr.status] } : State).pending = Instr.status :: [] := rfl

theorem witness_IdleStepTouchesLinkAndPanelOnly : station.pending = [] := rfl

/-- The three cases of the advance: in a second, at its end, and after the boundary was taken first. -/
theorem witness_SampleSetAdvancesAndJudges :
    station.time.boundaryDue = false ∧ station.time.tenths < 9 ∧ station.time.sampleDue = false
      ∧ ({ station with time := ⟨7, 9, false, false⟩ } : State).time.boundaryDue = false
      ∧ ({ station with time := ⟨7, 0, true, false⟩ } : State).time.boundaryDue = false := by decide

/-- A station with the uplift gauge fitted and its state as given. -/
def withUplift (u : UpliftState) : State :=
  let s := station
  { s with
    conf := { s.conf with tag := { tag with upliftFitted := true } }
    coord := { s.coord with uplift := some ⟨u, some 0, false⟩ }
    meas := { s.meas with channels := { s.meas.channels with uplift := s.meas.channels.uplift.fitted } } }

/-- u_alert 500, u_stop 1,000, u_hys 50: codes 1,637 (498) and 1,638 (500), 2,047 (999) and 2,048 (1,000), 2,006 (949)
and 2,007 (950), 1,597 (449) and 1,598 (451). -/
theorem witness_SampleSetAdvancesAndJudges_uplift :
    let inp (code : RawCode) : SampleInput := { lines 819 819 with codes := { (lines 819 819).codes with uplift := code } }
    let t (u : UpliftState) (code : RawCode) : State := after (.sampleSet (inp code) order) (withUplift u)
    let state (u : UpliftState) (code : RawCode) : Option UpliftState := (t u code).coord.uplift.map (·.state)
    ((withUplift .normal).working = true ∧ (withUplift .normal).upliftFitted = true)
      ∧ (state .normal 1637#12 = some .normal ∧ state .normal 1638#12 = some .alert
        ∧ state .normal 2048#12 = some .stop)
      ∧ (state .alert 2047#12 = some .alert ∧ state .alert 2048#12 = some .stop ∧ state .alert 1598#12 = some .alert
        ∧ state .alert 1597#12 = some .normal)
      ∧ (state .stop 2007#12 = some .stop ∧ state .stop 2006#12 = some .alert ∧ state .stop 1597#12 = some .normal)
      ∧ ((t .normal 1638#12).link.urgent = true ∧ (t .normal 1637#12).link.urgent = false) := by decide

/-- A gauge that has failed. -/
theorem witness_SampleSetAdvancesAndJudges_failed :
    let s := (withUplift .stop).setChannel .uplift
      { (withUplift .stop).meas.channels.uplift with failed := true, cause := some .openLoop }
    (after (.sampleSet (lines 819 819) order) s).failed .uplift = true
      ∧ (after (.sampleSet (lines 819 819) order) s).coord.uplift = some ⟨.alert, none, true⟩ := by decide

def validChannel : ChannelState := ⟨false, none, 0#12, some 10, some 10, 0, 0, 0, 0, none⟩

theorem witness_DeliveredWhileValid :
    (validChannel.sample .gauge 700#12 0 id).failed = false ∧ (validChannel.sample .gauge 4094#12 0 id).failed = false
      ∧ (validChannel.sample .gauge 4095#12 0 id).failed = false
      ∧ (validChannel.sample .gauge 699#12 0 id).failed = false := by decide

/-- The three tests, each one sample short. -/
theorem witness_CompletedTestFailsChannel :
    let low := station.setChannel .density { validChannel with lowRun := 2 }
    let full := station.setChannel .hole { validChannel with fullRun := 9 }
    let stuck := State.setChannel .flow { validChannel with stuckRun := 599, stuckRef := some 700#12 }
      { station with reg := { station.reg with stroke := 1 } }
    (low.failed .density = false ∧ (699#12 : RawCode).toNat < 700 ∧ (low.meas.channels.get .density).lowRun = 2)
      ∧ (full.failed .hole = false ∧ (4095#12 : RawCode).toNat = 4095 ∧ (full.meas.channels.get .hole).fullRun = 9)
      ∧ (stuck.failed .flow = false ∧ 700 ≤ (700#12 : RawCode).toNat ∧ 0 < stuck.reg.stroke
        ∧ (stuck.meas.channels.get .flow).stuckRun = 599
        ∧ (stuck.meas.channels.get .flow).stuckRef = some 700#12) := by decide

theorem witness_TwentiethGoodSampleRecovers :
    let s := station.setChannel .gauge
      { validChannel with failed := true, cause := some .stuck, goodRun := 19, stuckRef := some 701#12 }
    s.failed .gauge = true ∧ (s.meas.channels.get .gauge).goodRun = 19
      ∧ 700 ≤ (700#12 : RawCode).toNat ∧ (4094#12 : RawCode).toNat ≤ 4094
      ∧ (s.meas.channels.get .gauge).stuckRef ≠ some 700#12 ∧ (s.meas.channels.get .gauge).stuckRef ≠ some 4094#12 := by
  decide

theorem witness_DebouncedInputIsAccepted :
    let s : State := { station with meas := { station.meas with sealIn := ⟨true, 4⟩, leakIn := ⟨false, 9⟩, keyIn := ⟨false, 4⟩ } }
    ((s.meas.input .sealIn).accepted ≠ false ∧ (s.meas.input .sealIn).run + 1 = 5)
      ∧ ((s.meas.input .leakIn).accepted ≠ true ∧ (s.meas.input .leakIn).run + 1 = 10)
      ∧ ((s.meas.input .keyIn).accepted ≠ true ∧ (s.meas.input .keyIn).run + 1 = 5) := by decide

/-- Both branches: at G_trip, and one below. -/
theorem witness_OverpressureTrips :
    let s := inPhase .testing
    let high := after (.sampleSet (lines 2184 819) order) s
    let low := after (.sampleSet (lines 2183 819) order) s
    s.time.boundaryDue = false ∧ s.phase.pumping = true ∧ s.conf.inForce = true
      ∧ (high.failed .gauge = false ∧ s.conf.tag.gTrip ≤ high.deliveredNat .gauge)
      ∧ low.deliveredNat .gauge < s.conf.tag.gTrip := by decide

theorem witness_SampleSetBeginsOrWaits :
    station.phase = .vacant ∧ (inPhase .closed).phase ≠ .vacant ∧ (inPhase .closed).env.inFlight = none
      ∧ (reckoning (inPhase .packed)).phase ≠ .vacant ∧ (reckoning (inPhase .packed)).env.inFlight = some latched := by
  decide

/-- A set that trips in TESTING: the Envelope Unit first latches the phase before the trip, after it the phase WAITING. -/
theorem witness_SampleSetBeginsOrWaits_order :
    let s := inPhase .testing
    let found (tasks : List SampleTask) : Option Phase :=
      (after (.sampleSet (lines 2184 819) ⟨tasks, []⟩) s).env.inFlight.map (·.phase)
    s.time.boundaryDue = false ∧ s.phase ≠ .vacant ∧ s.env.inFlight = none
      ∧ found [.envelope] = some .testing ∧ found [.trip] = some .waiting := by decide

theorem witness_CompletionStoresOrDiscards :
    station.env.inFlight = none
      ∧ ((reckoning (inPhase .holding)).env.inFlight = some latched
        ∧ (reckoning (inPhase .holding)).seq.stage.map (·.number) = some latched.stageNumber)
      ∧ ((reckoning station).env.inFlight = some latched
        ∧ (reckoning station).seq.stage.map (·.number) ≠ some latched.stageNumber) := by decide

/-- A set that waits in the slot is in flight after the completion, its V the one the completion leaves. -/
theorem witness_CompletionStoresOrDiscards_slot :
    let valid : PerChannel Bool := ⟨false, false, false, false, false, false⟩
    let set : SampleSet := ⟨4, 1000, 0, 1300, 70, 1400, 100, 300, none, valid, true, false, true⟩
    let s := reckoning (inPhase .holding)
    let u : State :=
      { s with
        env := { s.env with slot := some set }
        take := { s.take with live := { s.take.live with volume := 77 } } }
    let t := after (.reckoningCompletion []) u
    u.env.inFlight = some latched ∧ u.seq.stage.map (·.number) = some latched.stageNumber
      ∧ t.seq.stage.isSome = true ∧ t.env.inFlight.map (·.sampleSeq) = some 4 ∧ t.env.inFlight.map (·.volume) = some 77 := by
  decide

/-- An INJECTING stage with a reckoning in flight, at these steps. -/
def climbing (commanded reached run : Nat) : State :=
  let s := reckoning (inPhase .injecting)
  { s with
    reg := { s.reg with commanded := commanded, reached := reached, arrivalRun := run }
    coord := { s.coord with allowance := 300 } }

/-- The third agreement below e, a descent at 2,175 kPa to 2,100 and one refused at 2,000 (with tol_p 75); the phase stays
INJECTING and S rises by the gain's share. -/
theorem witness_CompletionStoresOrDiscards_steps :
    let at_ (rung tol run commanded reached : Nat) : State :=
      let s := climbing commanded reached run
      { s with conf := { s.conf with
          tag := { tag with ladder := List.replicate 8 rung }, profiles := [{ profile with tolp := tol }] } }
    let up := at_ 2275 100 2 8 7
    let down (rung : Nat) : State := at_ rung 75 0 1 2
    (up.reg.reached < up.effective ∧ (after (.reckoningCompletion [.regulator]) up).reg.reached = 8)
      ∧ ((down 2100).effective < (down 2100).reg.reached
        ∧ (after (.reckoningCompletion [.regulator]) (down 2100)).reg.reached = 1
        ∧ (after (.reckoningCompletion [.regulator]) (down 2000)).reg.reached = 2)
      ∧ ((after (.reckoningCompletion [.regulator]) (climbing 6 6 0)).phase = .injecting
        ∧ (after (.reckoningCompletion [.regulator]) (climbing 6 6 0)).reg.stroke = 20) := by decide

/-- A test step in its first half, and in its second; the Take Counters first in INJECTING. -/
theorem witness_CompletionStoresOrDiscards_test :
    let s (n : Nat) : State := reckoning
      { inPhase .testing with seq := { (inPhase .testing).seq with test := some ⟨1, n, 500, 0, 0, 0, []⟩ } }
    let after_ (n : Nat) : State := after (.reckoningCompletion [.sequencer]) (s n)
    (149 + 1 < 10 * (s 149).conf.tag.tTest ∧ (after_ 149).phase = .testing
        ∧ (after_ 149).seq.test = some ⟨1, 150, 500, 0, 0, 0, []⟩)
      ∧ (after_ 150).seq.test = some ⟨1, 151, 500, 150, 2175, 1, []⟩
      ∧ (after (.reckoningCompletion [.counters]) (climbing 6 6 0)).take.live.peakP = some 2175 := by decide

/-- The Coordination Unit first, on a working station with a stage open: alone in the row it takes q_max. -/
theorem witness_CompletionStoresOrDiscards_supply :
    let s := climbing 6 6 0
    let t := after (.reckoningCompletion [.supply]) s
    s.env.inFlight = some latched ∧ s.seq.stage.map (·.number) = some latched.stageNumber ∧ s.working = true
      ∧ s.phase ≠ .vacant ∧ t.coord.allowance = 400 ∧ s.formDemand.allowanceNow = 400 := by decide

theorem witness_HeldReadIsAnsweredAtCompletion :
    let s := reckoning (inPhase .injecting)
    let held : State := { s with panel := { s.panel with inProcess := some ⟨.read 2#8 0#8 0#8, none⟩ } }
    s.panelFree ∧ s.working = true ∧ s.env.inFlight.isSome = true
      ∧ held.env.inFlight.isSome = true ∧ held.panel.inProcess = some ⟨.read 2#8 0#8 0#8, none⟩ :=
  ⟨⟨rfl, rfl⟩, rfl, rfl, rfl, rfl⟩

/-- The record that the reckoning in flight would store. -/
def stored : ReckRecord := latched.record 0

/-- An arrival on step 3 at 1,200 kPa; and an advance from step 3, with the limit above it and at it. -/
theorem witness_StepsClimbAtCompletions :
    let s := reckoning (inPhase .injecting)
    let arriving : State := { s with reg := { s.reg with commanded := 3, reached := 2, arrivalRun := 2 } }
    let quiet := { latched with flow := 50 }
    let advancing (limit : Nat) : State :=
      { s with
        env := { s.env with inFlight := some quiet }
        coord := { s.coord with limit := limit }
        reg := { s.reg with commanded := 3, reached := 3, advanceCount := 199 } }
    (arriving.completing = some (latched, stored) ∧ arriving.phase = .injecting
        ∧ arriving.reg.reached < arriving.effective
        ∧ (arriving.conf.tag.rung arriving.effective : Int) - arriving.profile.tolp ≤ stored.pEff
        ∧ arriving.reg.arrivalRun = 2)
      ∧ ∀ limit ∈ [3, 8],
        ((advancing limit).completing = some (quiet, quiet.record 0)
          ∧ (advancing limit).seq.stage = some (stage .injecting) ∧ (stage .injecting).phase = .injecting
          ∧ (stage .injecting).autoAdvance = true)
        ∧ ((advancing limit).reg.reached = (advancing limit).reg.commanded
          ∧ (advancing limit).reg.commanded = (advancing limit).effective
          ∧ (advancing limit).reg.commanded < (advancing limit).profile.top
          ∧ quiet.flow ≤ (advancing limit).conf.tag.qAdv
          ∧ (advancing limit).reg.advanceCount + 1 = 10 * (advancing limit).conf.tag.tAdv) := by decide

/-- A step of the water test one completion short of its end, in steps 4 and 5. -/
theorem witness_TestStepEndFormsRecord :
    ∀ step ∈ [4, 5],
      let x : TestState := ⟨step, 299, 500, 20000, 300000, 149, []⟩
      let s := reckoning { inPhase .testing with seq := { (inPhase .testing).seq with test := some x } }
      s.completing = some (latched, stored) ∧ s.seq.stage = some (stage .testing) ∧ (stage .testing).phase = .testing
        ∧ s.seq.test = some x ∧ x.count + 1 = 10 * s.conf.tag.tTest := by decide

/-- Step 5 ends: with SENSOR kept, with nothing kept, and with a STANDOFF kept that has no cause any more. -/
theorem witness_TestStepEndFormsRecord_end :
    let x : TestState := ⟨5, 299, 500, 20000, 300000, 149, []⟩
    let s (sensor standoff : Bool) : State :=
      let u := inPhase .testing
      reckoning { u with
        seq := { u.seq with test := some x, kept := { u.seq.kept with sensor := sensor, standoff := standoff } } }
    let ends (u : State) : Option Phase := (after .testStepEnd u).seq.stage.map (·.phase)
    (s false false).working = true ∧ (s false false).standoffCauses.any = false
      ∧ (s false false).connectionCondition = false ∧ (s false false).upliftCondition = false
      ∧ ends (s true false) = some .waiting ∧ ends (s false false) = some .injecting
      ∧ ends (s false true) = some .injecting := by decide

theorem witness_StartMixWithinTable :
    1 ≤ tag.mixes.length ∧ 1 ≤ tag.defaultMix ∧ tag.defaultMix ≤ tag.mixes.length := by decide

/-- A stage whose mix 3 is pending after mix 1. -/
def pendingStage : StageRecord :=
  { stage .injecting with
    currentMix := some 1, pendingMix := some ⟨3, 40, 599⟩, history := [⟨1, 500, 0, true⟩, ⟨3, 20, 40, false⟩] }

/-- Densities at both bounds of the tolerance. -/
theorem witness_MixConfirmMakesCurrent :
    ∀ d ∈ [1490, 1550],
      let t := State.setChannel .density { validChannel with delivered := some d } (withStage pendingStage station)
      let s : State := { t with seq := { t.seq with confirmRun := 9 } }
      (s.seq.stage = some pendingStage ∧ pendingStage.phase = .injecting ∧ pendingStage.pendingMix = some ⟨3, 40, 599⟩
        ∧ s.conf.tag.mix? 3 = some ⟨1520, 300, 400, 400⟩
        ∧ pendingStage.history = [⟨1, 500, 0, true⟩] ++ [⟨3, 20, 40, false⟩])
      ∧ (s.failed .density = false ∧ s.deliveredNat .density ≤ 1520 + s.conf.tag.tolRho
        ∧ 1520 ≤ s.deliveredNat .density + s.conf.tag.tolRho ∧ s.seq.confirmRun = 9) := by decide

/-- A boundary that is raised and not taken yet. -/
def atBoundary (s : State) : State := { s with time := { s.time with boundaryDue := true } }

theorem witness_MixTimeoutInhibitsThickening :
    let s := atBoundary (withStage pendingStage station)
    s.time.boundaryDue = true ∧ s.seq.stage = some pendingStage ∧ pendingStage.phase = .injecting
      ∧ pendingStage.pendingMix = some ⟨3, 40, 599⟩ ∧ 599 + 1 = s.conf.tag.tMix
      ∧ s.faults.mixTimeout.masked = false := by decide

/-- A boundary taken before its sample set. -/
def atRoll (s : State) : State := { s with time := { s.time with tenths := 9 } }

/-- The Sequencer first, after the sample set and before it, at t_mix and one second short of it. -/
theorem witness_MixTimeoutInhibitsThickening_boundary :
    let short := { pendingStage with pendingMix := some ⟨3, 40, 598⟩ }
    let first : BoundaryOrder := ⟨[.sequencer], 0⟩
    (∀ f ∈ [atBoundary, atRoll],
      ((after (.secondBoundary first) (f (withStage pendingStage station))).seq.stage.map (·.inhibited) = some true
        ∧ ((after (.secondBoundary first) (f (withStage short station))).seq.stage.bind (·.pendingMix)).map
            (·.elapsed) = some 599))
      ∧ (atBoundary station).boundaryOpen ∧ (atRoll station).boundaryOpen :=
  ⟨by decide, .inl rfl, .inr ⟨by decide, rfl⟩⟩

/-- One record and stage for each row of R95's table. -/
theorem witness_RefusalTimerTable :
    let all := { stored with refusalFlowOk := true, refusalPressureOk := true, binding := true }
    pendingStage.pendingMix.isSome = true
      ∧ ((stage .injecting).pendingMix = none ∧ stored.refusalFlowOk = false)
      ∧ (all.refusalFlowOk = true ∧ all.refusalPressureOk = true ∧ all.binding = true)
      ∧ ({ all with binding := false }.refusalPressureOk && { all with binding := false }.binding) = false := by decide

/-- Each of the three criteria holds alone. -/
theorem witness_EndCriteriaClose :
    let byVolume := { latched with volume := 15000, profile := { profile with gin := 1000000 } }
    let byIntensity := { latched with volume := 5000 }
    let s (l : Latched) (run : Nat) (st : StageRecord) : State :=
      { withStage st station with
        env := { station.env with inFlight := some l }, seq := { (withStage st station).seq with intensityRun := run } }
    let met (l : Latched) (run : Nat) (st : StageRecord) : Criteria :=
      ((s l run st).injectingChecks (l.record 0)).criteriaHeld (l.record 0)
    let refusing := { stage .injecting with refusalTimer := 6000 }
    let quiet := { latched with flow := 20 }
    ((s byVolume 0 (stage .injecting)).completing = some (byVolume, byVolume.record 0)
        ∧ met byVolume 0 (stage .injecting) = ⟨false, false, true⟩)
      ∧ ((s byIntensity 29 (stage .injecting)).completing = some (byIntensity, byIntensity.record 0)
        ∧ met byIntensity 29 (stage .injecting) = ⟨false, true, false⟩)
      ∧ ((s quiet 0 refusing).completing = some (quiet, quiet.record 0)
        ∧ met quiet 0 refusing = ⟨true, false, false⟩) := by decide

/-- Mix 1 at its allotment and at its rise (200 x 500 / 100 = 1,000; base 1,976 and 1,975 at 2,175 kPa), no base, and the
intensity run at 30. -/
theorem witness_EndCriteriaClose_checks :
    let st (volume : Nat) : StageRecord :=
      { stage .injecting with currentMix := some 1, history := [⟨1, volume, 0, true⟩] }
    let s (volume : Nat) (base : Option Int) (run : Nat) : State :=
      let u := reckoning (withStage (st volume) station)
      { u with seq := { u.seq with basePressure := base, intensityRun := run } }
    let t (volume : Nat) (base : Option Int) : State := after (.reckoningCompletion [.sequencer]) (s volume base 0)
    let pending (u : State) : Option Nat := (u.seq.stage.bind (·.pendingMix)).map (·.mix)
    ((s 1000 (some 1976) 0).completing = some (latched, stored) ∧ pending (t 1000 (some 1976)) = some 2
        ∧ pending (t 999 (some 1976)) = none ∧ pending (t 1000 (some 1975)) = none)
      ∧ ((t 0 none).seq.basePressure = some 2175 ∧ (t 0 (some 7)).seq.basePressure = some 7)
      ∧ ((s 0 none 30).runAfter { stored with intensityReached := true } = 30
        ∧ (s 0 none 30).runAfter stored = 0) := by decide

/-- Both kinds of stage record are there: one that thickens from mix 1 and one that does not. -/
theorem witness_EndCriteriaClose_thickens :
    let st : StageRecord := { stage .injecting with currentMix := some 1, history := [⟨1, 1000, 0, true⟩] }
    let s : State := { withStage st station with
      seq := { (withStage st station).seq with basePressure := some 1976 } }
    s.thickensFrom st stored 1 ∧ ∀ m, ¬ s.thickensFrom (stage .injecting) stored m :=
  ⟨⟨rfl, rfl, rfl, by decide, by decide, ⟨1300, 200, 200, 200⟩, 1976, ⟨1, 1000, 0, true⟩, rfl, rfl, rfl, by decide,
    by decide⟩, fun m h => by cases h.1⟩

/-- A header at 300 kPa, and a supply that neighbours take up. -/
theorem witness_SupplyFollowsItsRuns :
    let busy : State := reckoning (withEntries [entry ⟨1, 12310⟩ .injecting 15 1199 true] (inPhase .injecting))
    let short : State := { busy with coord := { busy.coord with lowRun := 9 } }
    let dry : State := { inPhase .injecting with coord := { station.coord with headerRun := 19 } }
    let back : State := State.setChannel .header { validChannel with delivered := some 300 }
      { reckoning (inPhase .holding) with
        seq := { (inPhase .holding).seq with kept := { station.seq.kept with supply := true } }
        coord := { station.coord with highRun := 9 } }
    (short.completing = some (latched, stored) ∧ short.working = true ∧ short.phase ≠ .vacant
        ∧ short.seq.kept.supply = false ∧ short.coord.lowRun = 9
        ∧ short.formDemand.allowanceNow < short.conf.tag.qMin)
      ∧ (dry.working = true ∧ dry.seq.kept.supply = false ∧ dry.coord.headerRun = 19
        ∧ dry.deliveredNat .header < dry.conf.tag.hMin)
      ∧ ((back.completing = some (latched, stored) ∧ back.working = true ∧ back.phase ≠ .vacant
          ∧ back.seq.kept.supply = true)
        ∧ (9 ≤ back.coord.highRun ∧ back.coord.highRun ≤ 10
          ∧ back.conf.tag.qMin + back.conf.tag.qHys ≤ back.formDemand.allowanceNow
          ∧ back.conf.tag.hMin ≤ back.deliveredNat .header)) := by decide

/-- A boundary raised before, one of an advance made now, and no boundary. -/
theorem witness_SecondBoundaryClosesWindow :
    (atBoundary station).time.boundaryDue = true
      ∧ (9 ≤ ({ station with time := ⟨7, 9, false, false⟩ } : State).time.tenths
        ∧ ({ station with time := ⟨7, 9, false, false⟩ } : State).time.sampleDue = false)
      ∧ (station.time.boundaryDue = false ∧ station.time.tenths < 9)
      ∧ ({ station with time := ⟨7, 9, true, false⟩ } : State).time.sampleDue = true := by decide

/-- A window that pumped throughout, gauge 1,830 to 1,910, in INJECTING and in CLOSED; and one without a gauge. -/
theorem witness_SecondBoundaryClosesWindow_counters :
    let s (p : Phase) (w : Window) : State :=
      { atBoundary (inPhase p) with take := { TakeCounters.powerOn with
          live := { LiveCounters.zero (some 7) with secInjecting := 4294967295 }, window := w } }
    let full : Window := ⟨1503, 21764, 10, some 1830, some 1910, true⟩
    let closing (p : Phase) (w : Window) : State := after (.secondBoundary ⟨[.counters], 0⟩) (s p w)
    ((s .injecting full).phaseAtBoundary ⟨[.counters], 0⟩ = .injecting
        ∧ (closing .injecting full).take.live.ppPeak = 80
        ∧ (closing .injecting full).take.live.secInjecting = 4294967295)
      ∧ (closing .closed full).take.live.ppPeak = 0
      ∧ (closing .waiting .fresh).take.live.secWaiting = 1 ∧ (closing .waiting .fresh).take.second.pp = none := by
  decide

/-- The second that brings a count to its bound, with the flag clear and set, and the one before. -/
theorem witness_SecondBoundaryClosesWindow_saturated :
    let s (n : Nat) (flag : Bool) : State :=
      let u := atBoundary (inPhase .injecting)
      { u with take := { u.take with live := { u.take.live with
          secInjecting := n, saturated := { u.take.live.saturated with injecting := flag } } } }
    let reported (n : Nat) (flag : Bool) : Bool × Nat :=
      let t := after (.secondBoundary ⟨[], 0⟩) (s n flag)
      (t.take.live.saturated.injecting, t.faults.countSaturated.count)
    reported 4294967294 false = (true, 1) ∧ reported 4294967295 true = (true, 0)
      ∧ reported 4294967293 false = (false, 0) := by decide

theorem witness_HoldTimerExpires :
    let st := { stage .holding with holdTimer := 1799, restraints := Restraints.onlyOperator }
    let s := atBoundary (withStage st station)
    s.time.boundaryDue = true ∧ s.seq.stage = some st ∧ st.phase = .holding ∧ st.holdTimer + 1 = s.conf.tag.tHold := by
  decide

/-- The Sequencer first, after the sample set and before it, at t_hold and one second short of it. -/
theorem witness_HoldTimerExpires_boundary :
    let st (n : Nat) : StageRecord :=
      { stage .holding with holdTimer := n, restraints := Restraints.onlyOperator }
    let first : BoundaryOrder := ⟨[.sequencer], 0⟩
    ∀ f ∈ [atBoundary, atRoll],
      (after (.secondBoundary first) (f (withStage (st 1799) station))).phase = .closed
        ∧ (after (.secondBoundary first) (f (withStage (st 1798) station))).phase = .holding
        ∧ (after (.secondBoundary first) (f (withStage (st 1798) station))).seq.stage.map (·.holdTimer) = some 1799 := by
  decide

/-- V brought to its bound by the flow of 150 and a remainder of 599, at it already, and one unit below. -/
theorem witness_VolumesCountedByRemainder_saturated :
    let s (v : Nat) : State :=
      let u := inPhase .holding
      { u with take := { u.take with live := { u.take.live with volume := v }, remGrout := 599 } }
    let t (v : Nat) : State := after (.sampleSet (lines 819 1065) ⟨[.counters], []⟩) (s v)
    let shown (v : Nat) : Nat × Bool × Nat :=
      ((t v).take.live.volume, (t v).take.live.saturated.volume, (t v).faults.countSaturated.count)
    findsBound 4294967294 (599 + 150) 600 = true ∧ findsBound 4294967293 (599 + 150) 600 = false
      ∧ shown 4294967294 = (4294967295, true, 1) ∧ shown 4294967295 = (4294967295, true, 1)
      ∧ shown 4294967293 = (4294967294, false, 0) := by decide

/-- V at the last value that still has room for the flow's units. -/
theorem witness_VolumesCountedByRemainder :
    let s : State := { withStage pendingStage station with take := { TakeCounters.powerOn with
      live := { LiveCounters.zero (some 7) with volume := 4294967292 }, remGrout := 599 } }
    (s.seq.stage = some pendingStage ∧ pendingStage.history = [⟨1, 500, 0, true⟩] ++ [⟨3, 20, 40, false⟩])
      ∧ s.take.live.volume + (s.take.remGrout + 1201) / 600 ≤ 4294967295
      ∧ 20 + (s.take.remGrout + 1201) / 600 ≤ 4294967295 := by decide

/-- A sample set of 150 in each kind of phase, the remainders at their greatest values. -/
theorem witness_VolumesCountedByRemainder_phases :
    let s (p : Phase) : State :=
      let u := inPhase p
      { u with
        take := { TakeCounters.powerOn with
          live := LiveCounters.zero (some 7), remGrout := 599, remWater := 599, remStroke := 5999 }
        reg := { u.reg with stroke := 1 } }
    let t (p : Phase) : State := after (.sampleSet (lines 819 1065) ⟨[.counters], []⟩) (s p)
    (∀ p ∈ [Phase.injecting, .holding], (s p).time.boundaryDue = false ∧ (t p).take.live.volume = 1
        ∧ (t p).take.remGrout = 149 ∧ (t p).take.live.strokes = 1 ∧ (t p).take.remWater = 599)
      ∧ ((t .testing).take.live.water = 1 ∧ (t .testing).take.remGrout = 599 ∧ (t .testing).take.live.peakQ = 150)
      ∧ ((t .closed).take.live.strokes = 0 ∧ (t .closed).take.remStroke = 5999)
      ∧ ((s .injecting).foundBy .counters (lines 819 1065) ⟨[.counters], []⟩).2 = 1
      ∧ ((s .injecting).foundBy .counters (lines 2184 1065) order).2 = 0
      ∧ ((s .injecting).foundBy .counters (lines 2184 1065) order).1.phase = .holding := by decide

/-! ### The link -/

/-- An instance in ACCESS and one that is SENDING. -/
def waiting (attempt : Nat) : Outgoing := ⟨false, attempt, 2, none, 0, [], 0⟩

def sending (attempt : Nat) : Outgoing := ⟨true, attempt, 2, some 5, 30, [0x55#8, 0xD2#8, 7#8], 0⟩

def withSlot (o : Outgoing) (s : State) : State := { s with link := { s.link with slot := some o } }

theorem witness_RequestsCreateOneInstance :
    (station.working = true ∧ station.link.slot = none ∧ station.link.generator = some 14362#16)
      ∧ (withSlot (waiting 1) station).link.slot = some (waiting 1) ∧ State.reset.working = false
      ∧ (let s : State := { station with link := { station.link with urgent := true, sinceStart := some 999 } }
        s.working = true ∧ s.link.slot = none ∧ s.link.urgent = true ∧ s.link.generator = some 14362#16
          ∧ s.link.sinceStart = some 999)
      ∧ station.link.urgent = false ∧ (14362#16 : Word16) ≠ 0 := by decide

/-- The moments at their bounds: a waiting attempt at its 3 + k and at its P_b, a sending one, an empty slot with and
without a mark, and a station that does not work. -/
theorem witness_RequestsCreateOneInstance_moments :
    let access (wait silence : Nat) (charOn : Bool) : State :=
      let s := withSlot { waiting 1 with wait := wait } station
      { s with link := { s.link with silence := silence, charOn := charOn } }
    let empty (urgent : Bool) (periodic : Nat) (since : Option Nat) : State :=
      { station with link := { station.link with urgent := urgent, periodic := periodic, sinceStart := since } }
    let sent (n : Nat) : State :=
      let s := withSlot (sending 1) station
      { s with link := { s.link with sentTime := n } }
    ((access 0 3 false).linkReaches 2 = true ∧ (access 0 3 false).linkReaches 3 = false)
      ∧ ((access 9999 0 false).linkReaches 1 = true ∧ (access 9999 0 false).linkReaches 2 = false
        ∧ (access 0 3 true).linkReaches 10000 = true)
      ∧ ((sent 0).linkReaches 1 = true ∧ (sent 0).linkReaches 2 = false ∧ (sent 1).linkReaches 1 = false)
      ∧ ((empty false 0 none).linkReaches 10000 = true ∧ (empty false 1 none).linkReaches 10000 = false)
      ∧ ((empty true 0 (some 999)).linkReaches 1 = true ∧ (empty true 0 (some 999)).linkReaches 2 = false
        ∧ (empty true 0 none).linkReaches 1 = false ∧ (empty true 9000 (some 0)).linkReaches 1000 = true
        ∧ (empty true 9001 (some 0)).linkReaches 1000 = false)
      ∧ State.reset.linkReaches 1000000 = true := by decide

/-- The last character of an attempt that RESTART cut, at its begin and at its end; with and without an instance. -/
def cutAt (n : Nat) (s : State) : State :=
  { s with link := { s.link with cut := true, charOn := true, sentTime := n } }

theorem witness_RequestsCreateOneInstance_cut :
    ∀ s ∈ [State.reset, station, withSlot (waiting 1) station],
      (cutAt 0 s).linkReaches 1 = true ∧ (cutAt 0 s).linkReaches 2 = false
        ∧ (cutAt 1 s).linkReaches 0 = true ∧ (cutAt 1 s).linkReaches 1 = false := by decide

/-- A station with a stage open, and one without. -/
theorem witness_AttemptStartsTheBulletin :
    ∀ s ∈ [withSlot (waiting 1) station, withSlot (waiting 1) (inPhase .holding)],
      s.link.slot = some (waiting 1) ∧ (waiting 1).sending = false ∧ s.link.charOn = false
        ∧ 3 + (waiting 1).k - s.link.silence ≤ 10 * s.conf.tag.pB - (waiting 1).wait := by decide

/-- P_b in 5 and in 4 character times, with 5 to the start; and a silence of 5 on an empty queue. -/
theorem witness_AttemptStartsTheBulletin_moments :
    let s (wait silence : Nat) : State :=
      let u := withSlot { waiting 1 with wait := wait } station
      { u with link := { u.link with silence := silence } }
    let sends (t : State) : Option Bool := t.link.slot.map (·.sending)
    (3 + 2 - (s 9995 0).link.silence ≤ 10 * (s 9995 0).conf.tag.pB - 9995
        ∧ sends (after .attemptStart (s 9995 0)) = some true)
      ∧ (10 * (s 9996 0).conf.tag.pB - 9996 < 3 + 2 - (s 9996 0).link.silence
        ∧ sends (after .attemptStart (s 9996 0)) = some false)
      ∧ ((s 0 5).pending = [] ∧ 3 + 2 ≤ (s 0 5).link.silence) := by decide

theorem witness_FailedAttemptRetriesOrDrops :
    ((withSlot (waiting 3) station).link.slot = some (waiting 3) ∧ (waiting 3).sending = false
        ∧ (waiting 3).attempt < 4 ∧ (withSlot (waiting 3) station).link.generator = some 14362#16)
      ∧ ((withSlot (sending 4) station).link.slot = some (sending 4) ∧ (sending 4).sending = true
        ∧ 4 ≤ (sending 4).attempt)
      ∧ (let s := withSlot (sending 4) { station with link := { station.link with drops := 7 } }
        s.link.slot = some (sending 4) ∧ s.link.drops = 7 ∧ s.faults.linkJam.present = false) := by decide

/-- A wait that P_b ends and one that its start ends; a read-back that is missing and one that may still come. -/
theorem witness_FailedAttemptRetriesOrDrops_moments :
    let s (wait : Nat) : State := withSlot { waiting 3 with wait := wait } station
    let sent (n : Nat) : State :=
      let u := withSlot (sending 1) station
      { u with link := { u.link with sentTime := n } }
    let idled (u : State) : Nat := u.idle.link.counters.abandoned
    (10 * (s 9995).conf.tag.pB - 9995 ≤ 3 + 2 - (s 9995).link.silence
        ∧ (after .accessTimeout (s 9995)).link.counters.abandoned = 1)
      ∧ (¬ (10 * (s 9994).conf.tag.pB - 9994 ≤ 3 + 2 - (s 9994).link.silence)
        ∧ (s 9994).link.charOn = false ∧ (after .accessTimeout (s 9994)).link.counters.abandoned = 0)
      ∧ ((sent 1).pending = [] ∧ idled (sent 1) = 1 ∧ idled (sent 0) = 0)
      ∧ ((s 10000).link.silence < 3 + 2 ∧ idled (s 10000) = 1) := by decide

/-- A wait of P_b that ends with the last character of a cut attempt, and one that ends after it. -/
theorem witness_FailedAttemptRetriesOrDrops_cut :
    let s (wait : Nat) : State := cutAt 0 (withSlot { waiting 3 with wait := wait } station)
    10 * (s 9999).conf.tag.pB - 9999 ≤ 1 - (s 9999).link.sentTime
      ∧ (after .accessTimeout (s 9999)).link.counters.abandoned = 1
      ∧ ¬ (10 * (s 9998).conf.tag.pB - 9998 ≤ 1 - (s 9998).link.sentTime)
      ∧ (after .accessTimeout (s 9998)).link.counters.abandoned = 0 := by decide

/-- Just before and at the end of the hold-off. -/
theorem witness_TransmissionCompletes :
    let s (x : Nat) : State :=
      withSlot (sending 1) { station with link := { station.link with urgent := true, sinceStart := some x } }
    ((s 999).link.slot = some (sending 1) ∧ (sending 1).sending = true ∧ (s 999).link.sinceStart = some 999)
      ∧ ((s 1000).link.slot = some (sending 1) ∧ (s 1000).link.urgent = true ∧ (s 1000).link.sinceStart = some 1000
        ∧ (s 1000).link.generator = some 14362#16)
      ∧ (withSlot (sending 1) station).link.urgent = false := by decide

def withReceiver (r : LinkReceiver) (s : State) : State := { s with link := { s.link with receiver := r } }

theorem witness_LineAndCharacters :
    (station.link.idle = false ∧ station.link.charOn = false ∧ station.linkReaches 3 = true)
      ∧ (station.link.sending = none ∧ station.link.receiver = .hunting)
      ∧ ((withReceiver .ready station).link.sending = none ∧ (withReceiver .ready station).link.receiver = .ready)
      ∧ (withReceiver (.receiving [0x55#8]) station).link.receiver = .receiving [0x55#8]
      ∧ ((withSlot (sending 1) station).link.slot = some (sending 1) ∧ (sending 1).sending = true
        ∧ (sending 1).frame[(sending 1).readBack]? = some 0x55#8
        ∧ (sending 1).readBack + 1 < (sending 1).frame.length
        ∧ (sending 1).frame[(sending 1).readBack]? ≠ some 0x54#8
        ∧ (withSlot (sending 1) station).link.sentTime ≤ 1) := by decide

/-- Inside a frame: the second character, the lengths 7 and 6, 39 and 40, and the last character but one. -/
theorem witness_LineAndCharacters_frame :
    let s (got : List Byte) : State := withReceiver (.receiving got) station
    let put (b : Byte) (got : List Byte) : LinkReceiver := (after (.characterReceived b true) (s got)).link.receiver
    (put 0xD2#8 [0x55#8] = .receiving [0x55#8, 0xD2#8] ∧ put 0xD3#8 [0x55#8] = .hunting)
      ∧ (put 7#8 [0x55#8, 0xD2#8] = .receiving [0x55#8, 0xD2#8, 7#8] ∧ put 6#8 [0x55#8, 0xD2#8] = .hunting
        ∧ put 39#8 [0x55#8, 0xD2#8] = .receiving [0x55#8, 0xD2#8, 39#8] ∧ put 40#8 [0x55#8, 0xD2#8] = .hunting)
      ∧ (List.replicate 7 (0#8 : Byte)).length + 1 < (7#8 : Byte).toNat + 2 := by decide

/-- The last read-back character in time, at the end of its time, and late; LINE_IDLE past an attempt's start. -/
theorem witness_LineAndCharacters_readBack :
    let s (n : Nat) : State :=
      let u := withSlot { sending 1 with readBack := 2 } station
      { u with link := { u.link with sentTime := n } }
    let last (n : Nat) : LinkCounters := (after (.characterReceived 7#8 true) (s n)).link.counters
    ({ sending 1 with readBack := 2 }.readBack + 1 = (sending 1).frame.length)
      ∧ ((last 0).transmitted = 1 ∧ (last 1).transmitted = 1 ∧ (last 2).transmitted = 0 ∧ (last 2).abandoned = 1)
      ∧ (withSlot { waiting 1 with wait := 9998 } station).linkReaches 3 = false := by decide

/-- A cut character is over at its character time and not before; a waiting instance and none. -/
theorem witness_LineAndCharacters_cut :
    ∀ s ∈ [withSlot (waiting 1) station, station],
      ((cutAt 1 s).pending = [] ∧ (∀ o ∈ (cutAt 1 s).link.slot, o.sending = false ∧ o.wait < 10 * s.conf.tag.pB))
        ∧ (cutAt 1 s).idle.link.charOn = false ∧ (cutAt 0 s).idle.link.charOn = true := by decide

/-- The frame of a VACANT station A 0 of class 1, weight 1, number 9: its body, and its check value by R189. -/
def body : List Byte := [0#8, 0#8, 0#8, 0x11#8, 9#8, 0#8, 0#8]

def check : List Byte := be16 (crc16 (7#8 :: body)).toNat

def heard : Bulletin := ⟨⟨0, 0⟩, 1, 1, 9, false, .vacant, none, none, none⟩

def listening : State := withReceiver .ready station

/-- A wrong check value; a class of 0 under a right one; a good frame before the tag is accepted. -/
theorem witness_DiscardedFramesAreCountedOnce :
    ((withReceiver (.receiving [0x55#8]) station).link.receiver.inFrame = true
        ∧ (withReceiver (.receiving [0x55#8]) station).link.charOn = false
        ∧ (withReceiver (.receiving [0x55#8]) station).link.silence ≤ 2
        ∧ (withReceiver (.receiving [0x55#8]) station).linkReaches 2 = true)
      ∧ (withReceiver (.receiving [0x55#8]) (withSlot { waiting 1 with wait := 9999 } station)).linkReaches 2 = false
      ∧ listening.link.sending = none
      ∧ (listening.link.mayFrame [0x55#8, 0xD2#8, 6#8] = true ∧ listening.link.mayFrame [0x55#8, 0xD2#8, 40#8] = true)
      ∧ listening.link.mayFrame (0x55#8 :: 0xD2#8 :: 7#8 :: (body ++ check)) = true
      ∧ parseBody [0#8, 0#8, 0#8, 0x01#8, 9#8, 0#8, 0#8] = none
      ∧ (parseBody body).isSome = true ∧ State.reset.working = false := by decide

/-- The same bodies as R128's list judges them. -/
theorem witness_DiscardedFrames_body :
    BodyMeaningful body ∧ ¬ BodyMeaningful [0#8, 0#8, 0#8, 0x01#8, 9#8, 0#8, 0#8]
      ∧ ¬ BodyMeaningful (body ++ [0#8]) ∧ ¬ BodyMeaningful [0#8, 0#8, 0#8, 0x11#8, 9#8, 2#8, 0#8] :=
  ⟨⟨by decide, by decide, by decide, by decide, by decide, by decide, by decide, by decide, by decide, by decide⟩,
    fun h => absurd h.2.1 (by decide), fun h => absurd h.2.2.2.2.2.2.2.2.2 (by decide),
    fun h => absurd (h.2.2.2.2.2.1.1 (by decide)) (by decide)⟩

/-- The check value of that frame differs from 0 and agrees with itself. -/
theorem witness_DiscardedFrames_check :
    be16 (crc16 (7#8 :: body)).toNat ≠ [0#8, 0#8] ∧ be16 (crc16 (7#8 :: body)).toNat = check := by decide +kernel

theorem witness_AdmissionOfBulletins_frame :
    checkFrame 7#8 ((body ++ check).take 7) ((body ++ check).drop 7) = .good heard
      ∧ (body ++ check).length = 7 + 2 := by decide +kernel

/-- 24 entries of line D, chainages 1 to 24, VACANT. -/
def fullTable : List Entry := (List.range 24).map fun n => entry ⟨3, n + 1⟩ .vacant 2 0 false

/-- The own identity; a refusing filter; a held identity, fresh and stale; room; a full table with and without a
candidate that the new station comes before. -/
theorem witness_AdmissionOfBulletins :
    listening.working = true ∧ heard.identity ≠ listening.own
      ∧ filtersPass [⟨true, 0#8, 0#16, 0#16⟩] heard.identity = false
      ∧ filtersPass listening.conf.tag.filters heard.identity = true
      ∧ (listening.table.entries.find? (·.identity = heard.identity) = none ∧ listening.table.entries.length < 24)
      ∧ (([entry ⟨0, 0⟩ .packed 2 0 false].find? (·.identity = heard.identity)).map (·.lastSeq) = some 100
        ∧ seqAccepted heard.first heard.seq 100 = false ∧ seqAccepted heard.first heard.seq 138 = true)
      ∧ (24 ≤ fullTable.length ∧ fullTable.find? (·.identity = heard.identity) = none
        ∧ (candidate fullTable).map (·.distance) = some 12639
        ∧ distance 150 heard.identity own < 12639)
      ∧ candidate (fullTable.map fun e => { e with phase := .injecting }) = none := by decide

/-- The filters, the window and the candidate at their bounds. -/
theorem witness_AdmissionOfBulletins_named :
    (filtersPass [offFilter] ⟨3, 65535⟩ = true ∧ filtersPass [⟨true, 1#8, 5#16, 65535#16⟩] ⟨0, 5⟩ = true
        ∧ filtersPass [⟨true, 1#8, 5#16, 65535#16⟩] ⟨0, 4⟩ = false
        ∧ filtersPass [⟨true, 1#8, 5#16, 0#16⟩] ⟨1, 5⟩ = false)
      ∧ (seqAccepted false 0 255 = true ∧ seqAccepted false 126 255 = true ∧ seqAccepted false 127 255 = false
        ∧ seqAccepted false 255 255 = false)
      ∧ (candidate [entry ⟨1, 1⟩ .packed 2 0 false, entry ⟨2, 1⟩ .packed 2 0 false,
          entry ⟨3, 1⟩ .testing 2 0 false]).map (·.identity) = some ⟨2, 1⟩
      ∧ candidate [{ entry ⟨1, 1⟩ .packed 2 0 false with namesOwn := true }] = none := by decide

/-- The same frame from the station itself is the own identity. -/
theorem witness_AdmissionOfBulletins_own :
    (⟨0, 0⟩ : Identity) = ({ listening with conf := { listening.conf with tag := { tag with line := 0, chainage := 0 } } } : State).own := by
  decide

/-- Heard again while the duplicate flag is set: the last-seen time alone follows. -/
theorem witness_AdmissionOfBulletins_again :
    let e : FaultEntry := ⟨3, some 5, some 5, some (.identity ⟨0, 0⟩), true, false⟩
    let s : State := { listening with
      conf := { listening.conf with tag := { tag with line := 0, chainage := 0 } }
      table := ⟨[], true, some 5⟩
      faults := { listening.faults with duplicateId := e } }
    s.table.duplicate = true ∧ e.masked = false ∧ 0 < e.count
      ∧ (s.admission heard).faults.duplicateId = { e with last := some 1000 } := by decide

/-- An entry aged 5 and one aged 15; the own identity last heard 15 seconds ago; LISTEN since 997.3. -/
theorem witness_BoundaryAgesTheTable :
    let e := entry ⟨1, 12310⟩ .injecting 2 60 false
    let s (clock : Nat) : State := atBoundary (withEntries [e] { station with time := ⟨clock, 0, false, false⟩ })
    let dup : State := { s 1015 with table := ⟨[e], true, some 1000⟩ }
    let listen : State :=
      { s 1003 with conf := { station.conf with station := .listen }, coord := { station.coord with listenStart := some (1000, 0) } }
    ((s 1005).time.boundaryDue = true ∧ (s 1005).entryAt e.identity = some e ∧ e.fresh = true
        ∧ (s 1005).conf.tag.aStale ≤ (s 1005).ageOf e ∧ (s 1005).ageOf e < 3 * (s 1005).conf.tag.aStale)
      ∧ ((s 1015).entryAt e.identity = some e ∧ 3 * (s 1015).conf.tag.aStale ≤ (s 1015).ageOf e
        ∧ e.phase.active = true)
      ∧ (dup.time.boundaryDue = true ∧ dup.table.duplicate = true ∧ dup.table.ownHeard = some 1000
        ∧ 3 * dup.conf.tag.aStale ≤ (dup.time.clock + 4294967296 - 1000) % 4294967296)
      ∧ (listen.time.boundaryDue = true ∧ listen.conf.station = .listen ∧ listen.coord.listenStart = some (1000, 0)
        ∧ 3 * listen.conf.tag.pB ≤ 100 * listen.listenTenths (1000, 0)) := by decide

/-- A second boundary before its sample set brings an entry to 5 and to 15 seconds, the own identity to 15, LISTEN to its
3 x P_b; one second sooner it does not. -/
theorem witness_BoundaryAgesTheTable_boundary :
    let e := entry ⟨1, 12310⟩ .injecting 2 60 false
    let s (clock : Nat) : State :=
      { station with time := ⟨clock, 9, false, false⟩, table := ⟨[e], true, some 1000⟩ }
    let listen (clock : Nat) : State :=
      { s clock with
        conf := { station.conf with station := .listen }
        coord := { station.coord with listenStart := some (1000, 9) } }
    let t (u : State) : State := after (.secondBoundary ⟨[], 0⟩) u
    ((t (s 1004)).table.entries.map (·.fresh) = [false] ∧ (t (s 1003)).table.entries.map (·.fresh) = [true])
      ∧ ((t (s 1014)).table.entries = [] ∧ (t (s 1014)).table.duplicate = false)
      ∧ ((t (s 1013)).table.entries.length = 1 ∧ (t (s 1013)).table.duplicate = true)
      ∧ ((t (listen 1003)).conf.station = .running ∧ (t (listen 1002)).conf.station = .listen) := by decide

/-- An active report whose INJECTING entry is removed at this boundary: the list by the order; and the last-seen time of
a present condition kind. -/
theorem witness_BoundaryAgesTheTable_refresh :
    let e := { entry ⟨1, 12310⟩ .injecting 2 60 false with lastHeard := 988 }
    let s : State :=
      let u := atBoundary (withEntries [e] (inPhase .packed))
      { u with
        time := { u.time with clock := 1003 }
        coord := { u.coord with report := true }
        faults := { u.faults with sensor := ⟨2, some 5, some 5, none, true, false⟩ } }
    let t (first : BoundaryTask) : State := after (.secondBoundary ⟨[first], 0⟩) s
    s.working = true ∧ (t .aging).coord.report = true ∧ (t .aging).coord.suspects = []
      ∧ (t .coordination).coord.suspects = [⟨1, 12310⟩] ∧ (t .coordination).link.urgent = true
      ∧ (t .aging).faults.sensor.last = some 1003 := by decide

/-- LEAK alone; the rise run one short; the quiet run one short. -/
theorem witness_ConnectionReportStartsAndClears :
    let leak : State := { inPhase .packed with meas := { station.meas with leakIn := ⟨true, 0⟩ } }
    let rising : State := State.setChannel .hole { validChannel with delivered := some 300 }
      { inPhase .waiting with coord := { station.coord with baseline := some 100, riseRun := 49 } }
    let falling : State := State.setChannel .hole { validChannel with delivered := some 199 }
      { inPhase .waiting with coord := { station.coord with baseline := some 100, report := true, quietRun := 99 } }
    (leak.working = true ∧ leak.phase = .packed ∧ leak.failed .hole = false ∧ leak.coord.report = false
        ∧ leak.meas.leakIn.accepted = true)
      ∧ (rising.working = true ∧ rising.phase = .waiting ∧ rising.failed .hole = false ∧ rising.coord.report = false
        ∧ rising.coord.baseline = some 100 ∧ 100 + rising.conf.tag.dpConn ≤ rising.deliveredNat .hole
        ∧ rising.coord.riseRun = 49)
      ∧ ((falling.working = true ∧ falling.phase = .waiting ∧ falling.failed .hole = false ∧ falling.coord.report = true)
        ∧ (falling.coord.baseline = some 100 ∧ falling.deliveredNat .hole < 100 + falling.conf.tag.dpConn / 2
          ∧ falling.meas.leakIn.accepted = false ∧ falling.coord.quietRun = 99)) := by decide

/-- Six INJECTING entries and one PACKED, D_cn 100: one lies beyond it, two are as near as each other, and the list is cut
after the fourth. -/
theorem test_suspects :
    let far (c d : Nat) (p : Phase) : Entry := { entry ⟨1, c⟩ p 2 0 false with distance := d }
    let s := withEntries [far 6 100 .injecting, far 5 40 .injecting, far 4 40 .injecting, far 3 101 .injecting,
      far 2 10 .packed, far 1 20 .injecting, far 0 90 .injecting] station
    s.suspectedNow = [⟨1, 1⟩, ⟨1, 4⟩, ⟨1, 5⟩, ⟨1, 0⟩]
      ∧ (withEntries [far 3 101 .injecting, far 6 100 .injecting] station).suspectedNow = [⟨1, 6⟩] := by decide

/-! ### The tag -/

/-- The tag of the tests as its image (12.4), up to the check value. -/
def covered : List Byte :=
  let sections := tag.bytes ++ [profile, profile, profile, profile].flatMap Profile.bytes
  be16 (sections.length + 4) ++ sections

def image : List Byte := covered ++ be16 (crc16 covered).toNat

theorem covered_facts :
    covered.length = 275 ∧ ofBytes (covered.take 2) = 277 ∧ byteAt covered 51 = 4 ∧ byteAt covered 86 = 4 := by
  decide +kernel

theorem covered_sections :
    readSections (Config.strayLineBitsRefused 0) ⟨2, covered.drop 2, none⟩
      = (tag, [profile, profile, profile, profile], ⟨275, [], none⟩) := by decide +kernel

theorem image_length : image.length = 277 := by
  simp [image, covered_facts.1, be16]

theorem image_judged : judgeImage 0 image = .accepted tag [profile, profile, profile, profile] := by
  have ht : image.take 275 = covered := List.take_left' covered_facts.1
  have hd : image.drop 275 = be16 (crc16 covered).toNat := List.drop_left' covered_facts.1
  have h51 : byteAt image 51 = 4 := by
    rw [byteAt, image, List.getElem?_append_left (by rw [covered_facts.1]; decide)]
    exact covered_facts.2.2.1
  have h86 : byteAt image 86 = 4 := by
    rw [byteAt, image, List.getElem?_append_left (by rw [covered_facts.1]; decide)]
    exact covered_facts.2.2.2
  simp [judgeImage, image_length, ht, hd, covered_facts.1, mOffset, countOffset, requiredLength, h51, h86,
    covered_sections, profile]

theorem witness_TagLoadConfiguresOrRefuses :
    State.reset.conf.station = .loading ∧ State.reset.seq.stage = none
      ∧ judgeDelivered 0 image = some (.accepted tag [profile, profile, profile, profile])
      ∧ (atBoundary { State.reset with time := ⟨5, 0, false, false⟩ }).time.boundaryDue = true := by
  refine ⟨rfl, rfl, ?_, rfl⟩
  have h : ofBytes (image.take 2) = 277 := by
    rw [image, List.take_append_of_le_length (by rw [covered_facts.1]; decide)]
    exact covered_facts.2.1
  have ht : image.take 277 = image := List.take_of_length_le (Nat.le_of_eq image_length)
  simp [judgeDelivered, image_length, h, ht, image_judged]

/-- The boundary that brings the clock to 5, and the one before it. -/
theorem witness_TagLoad_timeout :
    let t (clock : Nat) : State :=
      after (.secondBoundary ⟨[], 0⟩) { State.reset with time := ⟨clock, 9, false, false⟩ }
    (t 4).conf.station = .unconfigured ∧ (t 3).conf.station = .loading := by decide

/-- The bounds of the stated length, and a wrong check value. -/
theorem witness_TagLoad_refused :
    512 < ofBytes ([2#8, 1#8].take 2) ∧ ofBytes ([0#8, 3#8].take 2) < 4
      ∧ judgeDelivered 0 [2#8, 1#8] = some .absent ∧ judgeDelivered 0 [0#8, 3#8] = some .absent
      ∧ ofBytes ([0#8, 4#8].take 2) = [0#8, 4#8].length + 2
      ∧ be16 (crc16 [0#8, 4#8]).toNat ≠ [0#8, 0#8] := by decide +kernel

/-! ### The console -/

theorem station_takesOperator : station.takesOperator := ⟨⟨rfl, rfl⟩, rfl⟩

theorem inPhase_takesOperator (p : Phase) : (inPhase p).takesOperator := ⟨⟨rfl, rfl⟩, rfl⟩

theorem stationAt_takesEngineer : (stationAt true).takesEngineer := ⟨⟨⟨rfl, rfl⟩, rfl⟩, rfl⟩

/-- The lengths 100 and 1,000 cm and the greatest bottom are in range; one past each is not; SEAL deasserted. -/
theorem witness_OpenCreatesTheStage :
    station.phase = .vacant ∧ station.meas.sealIn.accepted = true
      ∧ (∀ r ∈ [(0, 100), (0, 1000), (19000, 20000)], station.openArgsBad r.1 r.2 0#8 1#8 0#8 = false)
      ∧ (∀ r ∈ [(0, 99), (0, 1001), (19001, 20001)], station.openArgsBad r.1 r.2 0#8 1#8 0#8 = true)
      ∧ station.openArgsBad 0 100 4#8 1#8 0#8 = true ∧ station.openArgsBad 0 100 3#8 2#8 0#8 = true
      ∧ (inPhase .closed).phase ≠ .vacant
      ∧ ({ station with meas := Measurement.powerOn } : State).meas.sealIn.accepted = false := by decide

/-- Nothing hinders the stations of these tests. -/
theorem inPhase_unhindered (p : Phase) : (inPhase p).unhindered :=
  ⟨rfl, rfl, fun _ h => absurd h (by simp [inPhase, withStage, station, stationAt, State.reset]), rfl, fun _ => rfl, rfl⟩

/-- A test wanted; a condition kept; no test wanted. -/
theorem witness_StartTakesItsTable :
    (inPhase .packed).takesOperator
      ∧ ((stage .packed).waterTest = true ∧ ∀ l, (stage .packed).results ≠ .complete l)
      ∧ (inPhase .packed).seq.kept.any = false ∧ (inPhase .packed).unhindered
      ∧ ({ inPhase .packed with seq := { (inPhase .packed).seq with kept := { station.seq.kept with packer := true } } } :
          State).seq.kept.packer = true
      ∧ { stage .packed with waterTest := false }.waterTest ≠ true ∧ (inPhase .waiting).phase ≠ .packed :=
  ⟨inPhase_takesOperator _, ⟨rfl, fun _ h => by cases h⟩, by decide, inPhase_unhindered _, rfl, by decide, by decide⟩

/-- START in LISTEN, with STANDOFF alone kept: WAITING with STANDOFF. -/
theorem witness_StartTakesItsTable_standoff :
    let s : State := { inPhase .packed with
      conf := { station.conf with station := .listen }
      seq := { (inPhase .packed).seq with kept := { station.seq.kept with standoff := true } } }
    s.takesOperator ∧ s.seq.kept.any = true ∧ s.standoffCauses.any = true
      ∧ (after .start s).phase = .waiting
      ∧ (after .start s).restraints = ⟨false, false, false, false, true, false, false, false⟩ :=
  ⟨⟨⟨rfl, rfl⟩, rfl⟩, by decide, by decide, by decide, by decide⟩

/-- TRIP with GAUGE at G_lim stays; a condition remains; OPERATOR alone leaves. -/
theorem witness_HoldAndRelease :
    let tripped : State := State.setChannel .gauge { validChannel with delivered := some 4000 }
      (restrained .holding ⟨true, true, false, false, false, false, false, false⟩)
    let held := restrained .waiting ⟨true, false, true, false, false, false, false, false⟩
    let free := restrained .holding Restraints.onlyOperator
    (tripped.takesOperator ∧ tripped.restraints.trip = true ∧ tripped.conf.tag.gLim ≤ tripped.deliveredNat .gauge)
      ∧ (held.takesOperator ∧ held.phase.restrained = true ∧ held.restraints.trip = false
        ∧ held.restraints.sensor = true)
      ∧ (free.takesOperator ∧ free.phase.restrained = true ∧ free.restraints.operator = true ∧ free.unhindered)
      ∧ ((inPhase .injecting).phase.started = true ∧ (inPhase .injecting).restraints = .none
        ∧ (inPhase .closed).phase.started = false) :=
  ⟨⟨⟨⟨rfl, rfl⟩, rfl⟩, by decide, by decide⟩, ⟨⟨⟨rfl, rfl⟩, rfl⟩, by decide, by decide, by decide⟩,
    ⟨⟨⟨rfl, rfl⟩, rfl⟩, by decide, by decide, ⟨rfl, rfl, by decide, rfl, fun _ => rfl, rfl⟩⟩, by decide⟩

theorem witness_StopAndAbort :
    (∀ p ∈ [Phase.testing, .waiting, .injecting, .holding], (inPhase p).phase = p ∧ p.started = true)
      ∧ (inPhase .packed).seq.stage = some (stage .packed) ∧ (stage .packed).phase = .packed
      ∧ (inPhase .closed).phase.started = false ∧ (inPhase .closed).takesOperator :=
  ⟨by decide, by decide, by decide, by decide, inPhase_takesOperator _⟩

/-- A log of `n` records. -/
def withLog (n : Nat) (s : State) : State :=
  { s with panel := { s.panel with log := (List.range n).map fun k =>
      ⟨{ stage .closed with number := 100 + k }, LiveCounters.zero (some (100 + k))⟩ } }

theorem witness_StageLogCommands :
    (withLog 15 (inPhase .closed)).takesOperator
      ∧ ((withLog 15 (inPhase .closed)).seq.stage = some (stage .closed) ∧ (stage .closed).phase = .closed
        ∧ (withLog 15 (inPhase .closed)).panel.log.length < 16)
      ∧ 16 ≤ (withLog 16 (inPhase .closed)).panel.log.length
      ∧ ((withLog 2 station).panel.log[1]?).map (·.stage.number) = some 101
      ∧ (withLog 2 station).panel.log.length ≤ (2#8 : Byte).toNat ∧ station.panel.log = [] :=
  ⟨⟨⟨rfl, rfl⟩, rfl⟩, by decide, by decide, by decide, by decide, by decide⟩

theorem witness_StepIsTakenOrRefused :
    (inPhase .packed).takesOperator
      ∧ ((inPhase .packed).phase ≠ .vacant ∧ (inPhase .packed).phase ≠ .testing ∧ (inPhase .packed).phase ≠ .closed)
      ∧ (1 ≤ (1#8 : Byte).toNat ∧ (8#8 : Byte).toNat ≤ 8 ∧ 8 < (9#8 : Byte).toNat)
      ∧ station.phase = .vacant ∧ (inPhase .testing).phase = .testing :=
  ⟨inPhase_takesOperator _, by decide, by decide, by decide, by decide⟩

/-- At both levels; mixes 4 and 5 of 4; histories of 7 and 8. -/
theorem witness_MixIsForcedOrRefused :
    let long (n : Nat) : StageRecord := { stage .holding with history := List.replicate n ⟨1, 0, 0, true⟩ }
    let s (n : Nat) : State := withStage (long n) (stationAt true)
    ((s 7).takesEngineer ∧ (s 7).seq.stage = some (long 7) ∧ (long 7).phase = .holding)
      ∧ ((4#8 : Byte).toNat ≤ (s 7).conf.tag.mixes.length ∧ (s 7).conf.tag.mixes.length < (5#8 : Byte).toNat)
      ∧ ((long 7).history.length < 8 ∧ 8 ≤ (long 8).history.length)
      ∧ (station.takesOperator ∧ station.engineer = false) :=
  ⟨⟨⟨⟨⟨rfl, rfl⟩, rfl⟩, rfl⟩, by decide, by decide⟩, by decide, by decide, station_takesOperator, by decide⟩

/-- NEIGHBOUR 0 of one entry and 1 past it, PROFILE 3 and 4, and items that need no configured station. -/
theorem witness_ReadsStatusAndCopies :
    let s := withEntries [entry ⟨1, 12310⟩ .injecting 2 60 false] station
    s.panelFree ∧ s.working = true ∧ State.reset.panelFree
      ∧ ((s.readData 6#8 0#8 0#8).isSome = true ∧ s.readData 6#8 0#8 1#8 = none)
      ∧ ((s.readData 10#8 0#8 3#8).isSome = true ∧ s.readData 10#8 0#8 4#8 = none)
      ∧ ((s.readData 5#8 1#8 0#8).isSome = true ∧ s.readData 6#8 1#8 0#8 = none ∧ s.readData 0#8 0#8 0#8 = none) :=
  ⟨⟨rfl, rfl⟩, rfl, ⟨rfl, rfl⟩, by decide, by decide, by decide⟩

/-- Pmax at p_c and one below it, T at the start step and one below it. -/
theorem witness_EngineerSettings :
    (stationAt true).takesEngineer ∧ (stationAt true).conf.lock = false
      ∧ (profile.tuned 1 1500 = some { profile with pmax := 1500 }
        ∧ profile.tuned 1 1499 = some { profile with pmax := 1499 } ∧ profile.tuned 1 99 = none)
      ∧ (profile.tuned 4 3 = some { profile with top := 3 } ∧ profile.tuned 4 2 = some { profile with top := 2 })
      ∧ (FaultKind.all[(10#8 : Byte).toNat - 1]? = some .countSaturated ∧ 10 < (11#8 : Byte).toNat) :=
  ⟨stationAt_takesEngineer, by decide, by decide, by decide, by decide⟩

/-- A start step of 9 in an invalid profile whose T is 9, and of 10; the profile stays invalid, a T of 8 mends it. -/
theorem test_tune_start_step_up_to_T :
    let s : State := { stationAt true with conf := { station.conf with profiles := [{ profile with top := 9 }] } }
    let tuned (f : Byte) (v : BitVec 32) : Option Status × List (Nat × Nat × Bool) :=
      let t := after (.tune 0#8 f v) s
      (answered t, t.conf.profiles.map fun p => (p.top, p.start, p.valid))
    tuned 5#8 9#32 = (some .ok, [(9, 9, false)]) ∧ (tuned 5#8 10#32).1 = some .badArg
      ∧ tuned 4#8 8#32 = (some .ok, [(8, 3, true)]) := by decide

/-- A field in its range, one out of it, and no such field. -/
theorem witness_EngineerSettings_tuned :
    profile.TunedTo 1 1499 { profile with pmax := 1499 } ∧ profile.TunedTo 4 2 { profile with top := 2 }
      ∧ profile.TunedTo 5 profile.top { profile with start := profile.top }
      ∧ (∀ q, ¬ profile.TunedTo 1 99 q) ∧ (∀ q, ¬ profile.TunedTo 10 1 q) ∧ profile.InRange := by
  refine ⟨by simp [Profile.TunedTo], by simp [Profile.TunedTo], by simp [Profile.TunedTo]; decide,
    by simp [Profile.TunedTo], by simp [Profile.TunedTo], by unfold Profile.InRange; decide⟩

theorem witness_RestartKeepsTheStage :
    ∀ p ∈ [Phase.packed, .testing, .waiting, .injecting, .holding, .closed],
      (withStage (stage p) (stationAt true)).engineer = true ∧ (withStage (stage p) (stationAt true)).working = true
        ∧ (withStage (stage p) (stationAt true)).panel.slot = none
        ∧ (withStage (stage p) (stationAt true)).panel.inProcess = none := by decide

/-- RESTART while SENDING: the character in progress stays on the line and ends on an idle step, and the slot's first
instance waits. -/
theorem witness_RestartKeepsTheStage_sending :
    let s := withSlot (sending 1) (stationAt true)
    let u : State := { s with link := { s.link with charOn := true, sentTime := 1 } }
    let t := after .restart u
    (u.engineer = true ∧ u.working = true ∧ u.link.slot = some (sending 1))
      ∧ (t.link.cut = true ∧ t.link.charOn = true ∧ t.link.slot.map (·.sending) = some false)
      ∧ (t.idle.link.charOn = false ∧ t.idle.link.silence = 0) := by decide

theorem witness_GeneralChecksInOrder :
    (consoleCommand (.unknownCode 0x0E#8 []) = some (.unknown 0x0E#8) ∧ State.reset.panelFree)
      ∧ (consoleCommand .start = some .start ∧ State.reset.working = false ∧ PanelCmd.start.unconfiguredToo = false)
      ∧ (consoleCommand .restart = some .restart ∧ 16 ≤ PanelCmd.restart.code.toNat ∧ station.engineer = false)
      ∧ (consoleCommand (.unknownCode 0x0D#8 [0#8]) = some (.badLength 0x0D#8 [0#8]) ∧ station.panelFree)
      ∧ (∀ code ∈ [0x00#8, 0x0E#8, 0x0F#8, 0x17#8, 0xFF#8],
          consoleCommand (.unknownCode code [1#8]) = some (.unknown code)) :=
  ⟨⟨rfl, rfl, rfl⟩, by decide, by decide, ⟨rfl, rfl, rfl⟩, by decide⟩

theorem witness_OneCommandInProcessOneWaiting :
    let busy : State :=
      { station with panel := { station.panel with inProcess := some ⟨.status, some ⟨1#8, .ok, []⟩⟩ } }
    let full : State := { busy with panel := { busy.panel with slot := some .hold } }
    (full.panel.slot = some .hold ∧ full.panel.inProcess = some ⟨.status, some ⟨1#8, .ok, []⟩⟩)
      ∧ (busy.panel.slot = none ∧ busy.panel.inProcess = some ⟨.status, some ⟨1#8, .ok, []⟩⟩)
      ∧ consoleCommand .snap = some .snap ∧ station.panel.inProcess = none := by decide

/-- Two bytes of a message of three, and of four. -/
theorem witness_PanelReceiverStates :
    station.panel.receiver = .hunting ∧ [4#8, 5#8].length + 1 < 4 ∧ 3 ≤ [3#8, 5#8].length + 1
      ∧ sumBytes ([3#8, 5#8] ++ [0#8]) ≠ 0#8 := by decide

/-- A byte after 50 ms joins the message; after more it is a new length, and the old message a bad frame. -/
theorem witness_PanelReceiverStates_silence :
    let s (n : Nat) : State :=
      { station with panel := { station.panel with receiver := .receiving 4 [4#8, 5#8], silence := n } }
    let t (n : Nat) : State := after (.panelByteReceived 6#8) (s n)
    ((t 500).panel.receiver = .receiving 4 [4#8, 5#8, 6#8] ∧ (t 500).panel.badFrames = 0)
      ∧ ((t 501).panel.receiver = .receiving 6 [6#8] ∧ (t 501).panel.badFrames = 1)
      ∧ (after .panelSilenceTimeout (s 7)).panel.silence = 501 := by decide

theorem witness_PanelDeliversWholeMessages :
    (List.replicate 13 (0#8 : Byte)).length ≤ 13 ∧ station.panel.receiver = .hunting := by decide

/-! ### Invariants: a busy station that meets each, with a step that answers a next state -/

/-- INJECTING with the pump at the cap of its allowance, a neighbour in the table and a log. -/
def busy : State :=
  let s := withLog 2 (withEntries [entry ⟨1, 12310⟩ .injecting 2 60 false] (inPhase .injecting))
  { s with reg := { s.reg with stroke := 200 }, coord := { s.coord with allowance := 300 } }

theorem witness_PumpInvariantKept : PumpInvariant busy :=
  ⟨fun h => absurd h (by decide), by decide, by decide, by decide, by decide, by decide⟩

theorem witness_TableInvariantKept : TableInvariant busy := ⟨by decide, by decide, by decide⟩

theorem witness_StandoffInvariantKept : StandoffFollows busy := fun _ => ⟨by decide, by decide, by decide⟩

theorem witness_LogInvariantKept : LogInvariant busy :=
  ⟨by decide, by decide, fun st h => by cases h; decide⟩

theorem witness_CountersStayBounded : CountersBounded busy := by
  unfold CountersBounded
  simp only [← and_assoc]
  refine ⟨by decide, fun k => ?_⟩
  cases k <;> decide

theorem witness_invariant_step : step busy = .next busy.idle := rfl

/-- The longest bulletin: every section, four suspects, values at the ends of their ranges. -/
def longest : Bulletin where
  identity := ⟨3, 65535⟩
  cls := 4
  weight := 15
  seq := 255
  first := true
  phase := .closed
  stage := some ⟨0, 20000, -32768, 65535, 65535, some 6, true, 65535, ⟨true, true, true, true, true, true, true, true⟩, 8⟩
  uplift := some ⟨.stop, some (-32768), false⟩
  suspects := some [⟨0, 0⟩, ⟨1, 1⟩, ⟨2, 2⟩, ⟨3, 65535⟩]

theorem witness_BulletinRoundTrip : longest.wf := by
  refine ⟨by decide, by decide, by decide, by decide, by decide, by decide, by decide, fun x h => ?_, fun u h => ?_,
    fun l h => ?_⟩
  · cases h
    exact ⟨by decide, by decide, by decide, by decide, by decide, by decide, fun m h => by cases h; decide, by decide,
      by decide⟩
  · cases h
    exact ⟨rfl, by decide, by decide⟩
  · cases h
    decide

theorem witness_BulletinRoundTrip_length : longest.body.length = 39 := by decide

theorem witness_ExactlyOneStationPrecedes : (⟨0, 1⟩ : Identity) ≠ ⟨1, 0⟩ := by decide

/-- A CRITICAL station within Qcap and one beyond it, and a NORMAL one beside a CRITICAL neighbour. -/
theorem witness_CoordinationStaysInBounds_supply :
    let s (critical : Bool) (demand : Nat) : State :=
      let u := withEntries [entry ⟨1, 12310⟩ .injecting 2 700 true] (inPhase .injecting)
      { u with coord := { u.coord with critical := critical, computation := some demand } }
    (s true 500).coord.critical = true ∧ criticalTotalOf (s true 500).participants = 1200 ∧ (s true 500).allowanceNow = 500
      ∧ criticalTotalOf (s true 501).participants = 1201 ∧ (s true 501).allowanceNow = 500
      ∧ (s false 900).coord.critical = false ∧ (s false 900).allowanceNow = 500 := by decide

/-- A station that works, in VACANT and with a stage open, at a boundary. -/
theorem witness_CoordinationStaysInBounds_limits :
    (∀ s ∈ [atBoundary station, atBoundary (inPhase .holding)], s.working = true ∧ s.time.boundaryDue = true)
      ∧ station.phase = .vacant ∧ (inPhase .holding).phase ≠ .vacant := by decide

theorem witness_CoordinationStaysInBounds :
    1 ≤ (inPhase .injecting).profile.top ∧ 1 ≤ (inPhase .injecting).reg.commanded := by decide

end Sys2Proof.Tests
end

section
/-! SUPPORT. Rules of the Measurement Unit: the pieces of a sample set by channel, the classes of a code, and what one
sample makes of a channel or an input (R4 to R12). -/

namespace Sys2Proof

theorem PerChannel.get_set_same {α : Type} (p : PerChannel α) (c : Channel) (v : α) : (p.set c v).get c = v := by
  cases c <;> rfl

theorem PerChannel.get_set_of_ne {α : Type} (p : PerChannel α) {o c : Channel} (h : o ≠ c) (v : α) :
    (p.set c v).get o = p.get o := by
  cases c <;> cases o <;> first | rfl | exact absurd rfl h

end Sys2Proof

namespace Sys2Proof.Machine

/-! ## Codes -/

/-- R4, with the quotient formed on integers. -/
theorem convert_eq (ch : Channel) (code : RawCode) :
    convert ch code =
      if code.toNat < 700 then none
      else if code.toNat < 819 then some (channelZero ch)
      else some (channelZero ch + ((code.toNat : Int) - 819) * (channelSpan ch : Int) / 3276) := by
  unfold convert
  simp only
  split
  · rfl
  · split
    · rfl
    · have hle : 819 ≤ code.toNat := by omega
      push_cast [hle]
      rfl

theorem codeClass_low {code : RawCode} (h : code.toNat < 700) : codeClass code = .low := by
  simp [codeClass, h]

theorem codeClass_full {code : RawCode} (h : code.toNat = 4095) : codeClass code = .full := by
  simp [codeClass, h]

theorem codeClass_good {code : RawCode} (h : 700 ≤ code.toNat) (h' : code.toNat ≤ 4094) : codeClass code = .good := by
  have hlow : ¬ code.toNat < 700 := by omega
  have hfull : code.toNat ≠ 4095 := by omega
  simp [codeClass, hlow, hfull]

/-! ## A VALID channel (R5 to R8) -/

/-- The runs and the last good value of a VALID channel after one code; which codes keep a stuck run does not matter to
them. -/
theorem ChannelState.runs_frame (ch : Channel) (code : RawCode) (stroke : Nat) (c : ChannelState) :
    (c.runs ch code stroke).failed = c.failed
      ∧ (c.runs ch code stroke).lowRun = (if codeClass code = .low then c.lowRun + 1 else 0)
      ∧ (c.runs ch code stroke).fullRun = (if codeClass code = .full then c.fullRun + 1 else 0)
      ∧ (c.runs ch code stroke).lastGood = (if codeClass code = .good then convert ch code else c.lastGood) := by
  unfold ChannelState.runs
  simp only
  (repeat' split) <;> simp_all

/-- R7: a code equal to the reference, under a running pump, carries the stuck run of GAUGE or FLOW on. -/
theorem ChannelState.runs_stuckRun {ch : Channel} {code : RawCode} {stroke : Nat} {c : ChannelState}
    (hch : keepsStuck ch = true) (hpump : 0 < stroke) (hrun : 0 < c.stuckRun) (href : c.stuckRef = some code) :
    (c.runs ch code stroke).stuckRun = c.stuckRun + 1 := by
  have hstroke : stroke ≠ 0 := by omega
  simp [ChannelState.runs, hch, hstroke, hrun, href]

/-- A sample of a VALID channel that completes a test. -/
theorem ChannelState.sample_of_completes {ch : Channel} {code : RawCode} {stroke : Nat} {cause : FailCause}
    {cond : Option Int → Option Int} {c : ChannelState} (hv : c.failed = false)
    (h : (c.runs ch code stroke).completes = some cause) :
    c.sample ch code stroke cond = (c.runs ch code stroke).fail cause cond := by
  simp [ChannelState.sample, hv, h]

/-- A sample of a VALID channel that completes no test. -/
theorem ChannelState.sample_of_completes_none {ch : Channel} {code : RawCode} {stroke : Nat}
    {cond : Option Int → Option Int} {c : ChannelState} (hv : c.failed = false)
    (h : (c.runs ch code stroke).completes = none) :
    (c.sample ch code stroke cond).delivered = (if codeClass code = .low then c.lastGood else convert ch code)
      ∧ (c.sample ch code stroke cond).lastGood = (if codeClass code = .good then convert ch code else c.lastGood) := by
  obtain ⟨-, -, -, hgood⟩ := c.runs_frame ch code stroke
  simp only [ChannelState.sample, hv, h]
  cases hc : codeClass code <;> simp [hgood, hc]

/-- A VALID channel that a sample leaves VALID has completed no test. -/
theorem ChannelState.completes_none_of_sample {ch : Channel} {code : RawCode} {stroke : Nat}
    {cond : Option Int → Option Int} {c : ChannelState} (hv : c.failed = false)
    (h : (c.sample ch code stroke cond).failed = false) : (c.runs ch code stroke).completes = none := by
  cases hr : (c.runs ch code stroke).completes with
  | none => rfl
  | some cause => simp [c.sample_of_completes hv hr, ChannelState.fail] at h

/-- The three ways in which one code completes a test of a VALID channel (R6, R7). -/
theorem ChannelState.runs_completes {ch : Channel} {code : RawCode} {stroke : Nat} {cause : FailCause} {c : ChannelState}
    (h : cause = .openLoop ∧ code.toNat < 700 ∧ c.lowRun = 2
      ∨ cause = .overRange ∧ code.toNat = 4095 ∧ c.fullRun = 9
      ∨ cause = .stuck ∧ 700 ≤ code.toNat ∧ code.toNat ≤ 4094 ∧ (ch = .gauge ∨ ch = .flow) ∧ 0 < stroke
        ∧ c.stuckRun = 599 ∧ c.stuckRef = some code) :
    (c.runs ch code stroke).completes = some cause := by
  obtain ⟨-, hlow, hfull, -⟩ := c.runs_frame ch code stroke
  unfold ChannelState.completes
  rw [hlow, hfull]
  rcases h with ⟨rfl, hcode, hrun⟩ | ⟨rfl, hcode, hrun⟩ | ⟨rfl, hlo, hhi, hch, hpump, hrun, href⟩
  · simp [codeClass_low hcode, hrun]
  · simp [codeClass_full hcode, hrun]
  · have hkeeps : keepsStuck ch = true := by rcases hch with rfl | rfl <;> rfl
    have hstuck := c.runs_stuckRun hkeeps hpump (by omega) href
    simp [codeClass_good hlo hhi, hstuck, hrun]

/-! ## A FAILED channel (R10) -/

/-- The twentieth code that counts returns a FAILED channel to VALID. -/
theorem ChannelState.sample_recovers {ch : Channel} {code : RawCode} {stroke : Nat} {cond : Option Int → Option Int}
    {c : ChannelState} (hf : c.failed = true) (hrun : c.goodRun = 19) (hlo : 700 ≤ code.toNat) (hhi : code.toNat ≤ 4094)
    (hstuck : c.cause = some .stuck → c.stuckRef ≠ some code) :
    c.sample ch code stroke cond = c.recover ch code := by
  have hcounts : c.countsGood code = true := by
    simpa [ChannelState.countsGood, codeClass_good hlo hhi, imp_iff_not_or] using hstuck
  simp [ChannelState.sample, hf, hcounts, hrun]

/-! ## Inputs (R12) -/

theorem Measurement.input_setInput_same (m : Measurement) (i : Input) (x : InputState) : (m.setInput i x).input i = x := by
  cases i <;> rfl

theorem Measurement.input_setInput_of_ne (m : Measurement) {i j : Input} (h : j ≠ i) (x : InputState) :
    (m.setInput i x).input j = m.input j := by
  cases i <;> cases j <;> first | rfl | exact absurd rfl h

theorem Measurement.setInput_channels (m : Measurement) (i : Input) (x : InputState) :
    (m.setInput i x).channels = m.channels := by
  cases i <;> rfl

/-- The contact sample that completes a debounce run. -/
theorem InputState.sample_accepts {i : Input} {level : Bool} {x : InputState} (hne : x.accepted ≠ level)
    (hrun : x.run + 1 = debounceLength i) : x.sample i level = ⟨level, 0⟩ := by
  simp [InputState.sample, hne.symm, hrun]

/-! ## One channel or input in the state -/

/-- A channel that is judged: UPLIFT only while the gauge is fitted (R11). -/
theorem State.channelAfter_of_judged {ch : Channel} {s : State} (h : ch = .uplift → s.upliftFitted = true)
    (code : RawCode) :
    s.channelAfter ch code = (s.meas.channels.get ch).sample ch code s.reg.stroke (s.conditioning ch) := by
  have hj : ¬ (ch = .uplift ∧ s.upliftFitted = false) := by
    rintro ⟨hch, hfit⟩
    rw [h hch] at hfit
    cases hfit
  simp [State.channelAfter, hj]

/-- What one sample makes of a channel depends on the channel, the settings, the Sequencer and S alone. -/
theorem State.channelAfter_congr {ch : Channel} {s t : State} (hc : t.meas.channels.get ch = s.meas.channels.get ch)
    (hconf : t.conf = s.conf) (hseq : t.seq = s.seq) (hreg : t.reg = s.reg) (code : RawCode) :
    t.channelAfter ch code = s.channelAfter ch code := by
  have hcond : t.conditioning ch = s.conditioning ch := by
    funext g
    unfold State.conditioning State.densityConditioning State.phase State.currentMix
    rw [hconf, hseq]
  unfold State.channelAfter State.upliftFitted
  rw [hc, hconf, hreg, hcond]

theorem State.setChannel_meas (ch : Channel) (c : ChannelState) (s : State) :
    (s.setChannel ch c).meas = { s.meas with channels := s.meas.channels.set ch c } := rfl

theorem State.sampleChannel_meas (ch : Channel) (code : RawCode) (s : State) :
    (s.sampleChannel ch code).meas
      = { s.meas with channels := s.meas.channels.set ch (s.channelAfter ch code) } := by
  simp only [State.sampleChannel]
  split <;> simp [State.setChannel_meas]

theorem State.sampleChannel_get_same (ch : Channel) (code : RawCode) (s : State) :
    (s.sampleChannel ch code).meas.channels.get ch = s.channelAfter ch code := by
  rw [State.sampleChannel_meas]
  exact PerChannel.get_set_same _ _ _

theorem State.sampleChannel_get_of_ne {o ch : Channel} (h : o ≠ ch) (code : RawCode) (s : State) :
    (s.sampleChannel ch code).meas.channels.get o = s.meas.channels.get o := by
  rw [State.sampleChannel_meas]
  exact PerChannel.get_set_of_ne _ h _

theorem State.sampleInput_meas (i : Input) (level : Bool) (s : State) :
    (s.sampleInput i level).meas = s.meas.setInput i ((s.meas.input i).sample i level) := rfl

end Sys2Proof.Machine
end


section
/-! SUPPORT. Rules of the fault record, and what the operations that may move the phase make of the six kept conditions
and of the urgent mark: every part of an event that presents nothing leaves the conditions, no part clears the mark. -/

namespace Sys2Proof.Machine

/-! ## Fault record -/

theorem Faults.get_set_same (f : Faults) (k : FaultKind) (e : FaultEntry) : (f.set k e).get k = e := by
  cases k <;> rfl

theorem Faults.get_set_of_ne (f : Faults) {j k : FaultKind} (h : j ≠ k) (e : FaultEntry) :
    (f.set k e).get j = f.get j := by
  cases k <;> cases j <;> first | rfl | exact absurd rfl h

theorem State.report_get_same (k : FaultKind) (d : Option Detail) (s : State) :
    (s.report k d).faults.get k = (s.faults.get k).report s.time.clock d := Faults.get_set_same _ _ _

theorem State.report_get_of_ne {j k : FaultKind} (h : j ≠ k) (d : Option Detail) (s : State) :
    (s.report k d).faults.get j = s.faults.get j := Faults.get_set_of_ne _ h _

theorem State.setPresent_get_of_ne {j k : FaultKind} (h : j ≠ k) (p : Bool) (s : State) :
    (s.setPresent k p).faults.get j = s.faults.get j := Faults.get_set_of_ne _ h _

/-- R185: what an unmasked report leaves in its entry. -/
theorem FaultEntry.report_unmasked {e : FaultEntry} (h : e.masked = false) (clock : Nat) (d : Option Detail) :
    (e.report clock d).count = satSucc 255 e.count ∧ (e.report clock d).detail = d
      ∧ (e.report clock d).last = some clock := by
  simp [FaultEntry.report, h]

theorem FaultEntry.report_present (e : FaultEntry) (clock : Nat) (d : Option Detail) :
    (e.report clock d).present = e.present := by
  unfold FaultEntry.report
  split <;> rfl

/-! ## The kept conditions -/

@[simp] theorem State.modStage_kept (f : StageRecord → StageRecord) (s : State) :
    (s.modStage f).seq.kept = s.seq.kept := rfl

@[simp] theorem State.handover_kept (old new : Phase) (s : State) : (s.handover old new).seq.kept = s.seq.kept := by
  simp [State.handover, Sequencer.handed]

@[simp] theorem State.enterPhase_kept (new : Phase) (s : State) : (s.enterPhase new).seq.kept = s.seq.kept := by
  simp [State.enterPhase]

@[simp] theorem State.abandonTest_kept (s : State) : s.abandonTest.seq.kept = s.seq.kept := rfl

@[simp] theorem State.requestMix_kept (m : Nat) (s : State) : (s.requestMix m).seq.kept = s.seq.kept := rfl

@[simp] theorem State.setRestraints_kept (r : Restraints) (s : State) :
    (s.setRestraints r).seq.kept = s.seq.kept := rfl

@[simp] theorem State.enterInjectingFirst_kept (s : State) : s.enterInjectingFirst.seq.kept = s.seq.kept := by
  simp [State.enterInjectingFirst]

@[simp] theorem State.enterWaiting_kept (r : Restraints) (s : State) : (s.enterWaiting r).seq.kept = s.seq.kept := by
  simp only [State.enterWaiting]
  split <;> simp

@[simp] theorem State.enterHolding_kept (r : Restraints) (s : State) : (s.enterHolding r).seq.kept = s.seq.kept := by
  simp [State.enterHolding]

@[simp] theorem State.changeSet_kept (r : Restraints) (s : State) : (s.changeSet r).seq.kept = s.seq.kept := by
  simp only [State.changeSet]
  (repeat' split) <;> simp

@[simp] theorem State.arrive_kept (r : Restraints) (s : State) : (s.arrive r).seq.kept = s.seq.kept := by
  simp only [State.arrive]
  split <;> simp

/-- R24: after a presentation the kept conditions are those presented, in every phase. -/
@[simp] theorem State.present_kept (kept : Conditions) (r : Restraints) (s : State) :
    (s.present kept r).seq.kept = kept := by
  simp only [State.present]
  (repeat' split) <;> simp

@[simp] theorem State.recomputeStep_kept (n : Nat) (s : State) : (s.recomputeStep n).seq.kept = s.seq.kept := by
  simp only [State.recomputeStep]
  (repeat' split) <;> rfl

@[simp] theorem State.setLimit_kept (n : Nat) (s : State) : (s.setLimit n).seq.kept = s.seq.kept := by
  simp [State.setLimit]

@[simp] theorem State.formLimits_kept (s : State) : s.formLimits.seq.kept = s.seq.kept := by
  simp only [State.formLimits]
  split <;> simp

theorem FieldAndSupplyKept.refl (s : State) : FieldAndSupplyKept s s := ⟨rfl, rfl, rfl⟩

theorem FieldAndSupplyKept.trans {a b c : State} (h : FieldAndSupplyKept a b) (k : FieldAndSupplyKept b c) :
    FieldAndSupplyKept a c := by
  obtain ⟨h1, h2, h3⟩ := h
  obtain ⟨k1, k2, k3⟩ := k
  exact ⟨k1.trans h1, k2.trans h2, k3.trans h3⟩

/-- An evaluation presents STANDOFF, CONNECTION and UPLIFT alone (R149). -/
theorem State.evaluateOnce_fieldAndSupplyKept (s : State) : FieldAndSupplyKept s s.evaluateOnce := by
  unfold State.evaluateOnce
  split
  · simp [FieldAndSupplyKept, State.presentCoordination]
  · exact .refl s

theorem State.evaluate_fieldAndSupplyKept (s : State) : FieldAndSupplyKept s s.evaluate := by
  unfold State.evaluate
  simp only
  split
  · exact s.evaluateOnce_fieldAndSupplyKept
  · exact s.evaluateOnce_fieldAndSupplyKept.trans (State.evaluateOnce_fieldAndSupplyKept _)

theorem State.settle_fieldAndSupplyKept (p : Phase) (s : State) : FieldAndSupplyKept s (s.settle p) := by
  unfold State.settle
  split
  · exact .refl s
  · exact s.evaluate_fieldAndSupplyKept

/-- R14: what a presentation of SENSOR and PACKER leaves kept, with the evaluation it may raise. -/
theorem State.settled_presentField_kept (s : State) :
    (s.settled State.presentField).seq.kept.sensor = (s.failed .gauge || s.failed .flow)
      ∧ (s.settled State.presentField).seq.kept.packer = !s.meas.sealIn.accepted
      ∧ (s.settled State.presentField).seq.kept.supply = s.seq.kept.supply := by
  obtain ⟨hsensor, hpacker, hsupply⟩ := s.presentField.settle_fieldAndSupplyKept s.phase
  unfold State.settled
  rw [hsensor, hpacker, hsupply]
  simp [State.presentField]

/-! ## The urgent mark -/

theorem Link.serveUrgent_urgent {l : Link} (h : l.urgent = true) : l.serveUrgent.urgent = true := by
  unfold Link.serveUrgent
  split
  · exact h
  · exact h

/-- R118: an urgent request of a station that works sets the mark, and a request served keeps it set. -/
theorem State.urgent_sets_mark {s : State} (h : s.working = true) : s.urgent.link.urgent = true := by
  simp only [State.urgent, h, if_true]
  exact Link.serveUrgent_urgent rfl

@[simp] theorem State.urgent_mark {s : State} (h : s.link.urgent = true) : s.urgent.link.urgent = true := by
  cases hw : s.working with
  | true => exact State.urgent_sets_mark hw
  | false => simpa [State.urgent, hw] using h

@[simp] theorem State.handover_mark {old new : Phase} {s : State} (h : s.link.urgent = true) :
    (s.handover old new).link.urgent = true := State.urgent_mark h

@[simp] theorem State.enterPhase_mark {new : Phase} {s : State} (h : s.link.urgent = true) :
    (s.enterPhase new).link.urgent = true := State.handover_mark h

@[simp] theorem State.enterInjectingFirst_mark {s : State} (h : s.link.urgent = true) :
    s.enterInjectingFirst.link.urgent = true := by
  simp [State.enterInjectingFirst, h]

@[simp] theorem State.enterWaiting_mark {r : Restraints} {s : State} (h : s.link.urgent = true) :
    (s.enterWaiting r).link.urgent = true := by
  simp only [State.enterWaiting]
  split <;> simp [h]

@[simp] theorem State.enterHolding_mark {r : Restraints} {s : State} (h : s.link.urgent = true) :
    (s.enterHolding r).link.urgent = true := by
  simp [State.enterHolding, h]

@[simp] theorem State.changeSet_mark {r : Restraints} {s : State} (h : s.link.urgent = true) :
    (s.changeSet r).link.urgent = true := by
  simp only [State.changeSet]
  (repeat' split) <;> simp [h]

@[simp] theorem State.arrive_mark {r : Restraints} {s : State} (h : s.link.urgent = true) :
    (s.arrive r).link.urgent = true := by
  simp only [State.arrive]
  split <;> simp [h]

@[simp] theorem State.present_mark {kept : Conditions} {r : Restraints} {s : State} (h : s.link.urgent = true) :
    (s.present kept r).link.urgent = true := by
  simp only [State.present]
  (repeat' split) <;> simp [h]

@[simp] theorem State.presentSupply_mark {p : Bool} {s : State} (h : s.link.urgent = true) :
    (s.presentSupply p).link.urgent = true := by
  simp only [State.presentSupply]
  split <;> simp [h]

@[simp] theorem State.evaluateOnce_mark {s : State} (h : s.link.urgent = true) :
    s.evaluateOnce.link.urgent = true := by
  simp only [State.evaluateOnce]
  split <;> simp [State.presentCoordination, h]

@[simp] theorem State.evaluate_mark {s : State} (h : s.link.urgent = true) : s.evaluate.link.urgent = true := by
  simp only [State.evaluate]
  split <;> simp [h]

@[simp] theorem State.settle_mark {p : Phase} {s : State} (h : s.link.urgent = true) :
    (s.settle p).link.urgent = true := by
  simp only [State.settle]
  split <;> simp [h]

end Sys2Proof.Machine
end


section
/-! The rows of one channel and one input, the conversion of a code and the power-on values (01, O4 and O6 to O10). -/

namespace Sys2Proof.Machine

/-! ## What the rows of a channel and an input do to the state -/

/-- One channel's sample touches the channels and the fault record alone. -/
theorem State.sampleChannel_eq (ch : Channel) (code : RawCode) (s : State) :
    s.sampleChannel ch code
      = { s with meas := (s.sampleChannel ch code).meas, faults := (s.sampleChannel ch code).faults } := by
  simp only [State.sampleChannel]
  split <;> rfl

theorem Measurement.anyFailed_of_failed {m : Measurement} {ch : Channel} (h : (m.channels.get ch).failed = true) :
    m.anyFailed = true := by
  cases ch <;> simp_all [PerChannel.get, Measurement.anyFailed]

/-- R8: a channel that enters FAILED is reported, on the entry that shows the condition as present. -/
theorem State.sampleChannel_sensor_of_fails {ch : Channel} {code : RawCode} {s : State} (hv : s.failed ch = false)
    (hf : (s.channelAfter ch code).failed = true) :
    (s.sampleChannel ch code).faults.get .sensor
      = ({ s.faults.sensor with present := true } : FaultEntry).report s.time.clock (some (.channel ch)) := by
  have hget : (s.setChannel ch (s.channelAfter ch code)).meas.channels.get ch = s.channelAfter ch code :=
    PerChannel.get_set_same _ _ _
  have hany : (s.setChannel ch (s.channelAfter ch code)).meas.anyFailed = true :=
    Measurement.anyFailed_of_failed (ch := ch) (by rw [hget, hf])
  have hfails : ((s.setChannel ch (s.channelAfter ch code)).setPresent .sensor true).failed ch = true := by
    simp [State.failed, hget, hf]
  simp only [State.sampleChannel, hany, hv, hfails, and_self, if_true, State.report_get_same]
  rfl

/-- A sample after which no channel newly stands FAILED moves the present flag of SENSOR alone. -/
theorem State.sampleChannel_faults_of_not_fails {ch : Channel} {code : RawCode} {s : State}
    (h : ¬ (s.failed ch = false ∧ (s.channelAfter ch code).failed = true)) :
    (s.sampleChannel ch code).faults
      = { s.faults with
          sensor := { s.faults.sensor with present := (s.sampleChannel ch code).meas.anyFailed } } := by
  have hget : (s.setChannel ch (s.channelAfter ch code)).meas.channels.get ch = s.channelAfter ch code :=
    PerChannel.get_set_same _ _ _
  have hstands : ¬ (s.failed ch = false ∧ ((s.setChannel ch (s.channelAfter ch code)).setPresent .sensor
      (s.setChannel ch (s.channelAfter ch code)).meas.anyFailed).failed ch = true) := by
    simpa [State.failed, hget] using h
  simp only [State.sampleChannel, if_neg hstands]
  rfl

/-- Only the SENSOR entry answers to the channels. -/
theorem State.sampleChannel_faults_of_ne {ch : Channel} {code : RawCode} {s : State} {k : FaultKind} (h : k ≠ .sensor) :
    (s.sampleChannel ch code).faults.get k = s.faults.get k := by
  simp only [State.sampleChannel]
  split
  · rw [State.report_get_of_ne h, State.setPresent_get_of_ne h]
    rfl
  · rw [State.setPresent_get_of_ne h]
    rfl

/-- A change of one channel or input, presented, leaves the channels and inputs. -/
theorem State.presentChange_meas (s : State) : s.presentChange.meas = s.amendLatest.meas := by
  simp [State.presentChange, State.settled]

theorem State.presentChange_channels (s : State) : s.presentChange.meas.channels = s.meas.channels := by
  rw [s.presentChange_meas]
  rfl

theorem State.presentChange_input (i : Input) (s : State) : s.presentChange.meas.input i = s.meas.input i := by
  rw [s.presentChange_meas]
  cases i <;> rfl

/-- R14: SENSOR and PACKER stand presented as the channels and SEAL are. -/
theorem State.presentChange_kept (s : State) :
    s.presentChange.seq.kept.sensor = (s.presentChange.failed .gauge || s.presentChange.failed .flow)
      ∧ s.presentChange.seq.kept.packer = !s.presentChange.meas.sealIn.accepted
      ∧ s.presentChange.seq.kept.supply = s.seq.kept.supply := by
  unfold State.failed
  rw [s.presentChange_meas]
  exact s.amendLatest.settled_presentField_kept

/-- Away from the measurement a presented change has the frame of a change of phase. -/
theorem State.presentChange_phaseFrame (s : State) :
    PhaseFrame { s with meas := s.presentChange.meas } s.presentChange := by
  rw [s.presentChange_meas]
  exact PhaseFrame.settled (State.presentField_phaseFrame s.amendLatest)

theorem State.sampleChannel_presentChange_phaseFrame (ch : Channel) (code : RawCode) (s : State) :
    PhaseFrame
      { s with
        meas := (s.sampleChannel ch code).presentChange.meas
        faults := (s.sampleChannel ch code).presentChange.faults }
      (s.sampleChannel ch code).presentChange := by
  have hfaults : (s.sampleChannel ch code).presentChange.faults = (s.sampleChannel ch code).faults := by simp
  have hstate : ({ s with
        meas := (s.sampleChannel ch code).presentChange.meas
        faults := (s.sampleChannel ch code).presentChange.faults } : State)
      = { s.sampleChannel ch code with meas := (s.sampleChannel ch code).presentChange.meas } := by
    rw [hfaults, s.sampleChannel_eq ch code]
  rw [hstate]
  exact State.presentChange_phaseFrame _

/-- The channels after the row of one channel: that channel sampled, the others as they were. -/
theorem State.sampleChannel_presentChange_get (ch : Channel) (code : RawCode) (s : State) :
    (s.sampleChannel ch code).presentChange.meas.channels.get ch = s.channelAfter ch code
      ∧ ∀ o, o ≠ ch →
        (s.sampleChannel ch code).presentChange.meas.channels.get o = s.meas.channels.get o := by
  rw [State.presentChange_channels]
  exact ⟨s.sampleChannel_get_same ch code, fun o ho => State.sampleChannel_get_of_ne ho code s⟩

theorem exec_channelFail {ch : Channel} {code : RawCode} {s : State} (hv : s.failed ch = false)
    (hf : (s.channelAfter ch code).failed = true) :
    exec (.channelFail ch code) s = .next (s.sampleChannel ch code).presentChange := by
  simp [exec, execChannelFail, hv, hf]

theorem exec_channelRecover {ch : Channel} {code : RawCode} {s : State} (hf : s.failed ch = true)
    (hv : (s.channelAfter ch code).failed = false) :
    exec (.channelRecover ch code) s = .next (s.sampleChannel ch code).presentChange := by
  simp [exec, execChannelRecover, hv, hf]

theorem exec_inputDebounceAccept {i : Input} {level : Bool} {s : State} (h : s.accepts i level = true) :
    exec (.inputDebounceAccept i level) s = .next (s.sampleInput i level).presentChange := by
  simp [exec, execInputDebounceAccept, h]

/-! ## Settled -/

/-- Settles O4: the state after the row is that of reset, with the queue and the free values drawn. -/
theorem powerOnReset : Obligations.PowerOnReset := by
  intro s
  have hchannels : ∀ ch, Measurement.powerOn.channels.get ch
      = .powerOn (match ch with | .gauge | .flow | .hole | .header => some 0 | .density => some 1000 | .uplift => none) := by
    intro ch
    cases ch <;> rfl
  have hinputs : ∀ i, Measurement.powerOn.input i = ⟨false, 0⟩ := by
    intro i
    cases i <;> rfl
  refine ⟨{ State.reset with pending := s.pending, freeCount := s.freeCount }, rfl, ?_⟩
  refine ⟨rfl, rfl, rfl, rfl, rfl, rfl, hchannels, hinputs, rfl, ?_⟩
  -- the Stage Sequencer, the Pump Regulator and the Envelope Unit
  refine ⟨rfl, rfl, rfl, rfl, rfl, rfl, rfl, rfl, rfl, rfl, rfl, rfl, rfl, ?_⟩
  -- the Take Counters and the Link Controller
  refine ⟨rfl, rfl, rfl, rfl, rfl, rfl, rfl, rfl, rfl, rfl, rfl, rfl, rfl, rfl, rfl, rfl, rfl, rfl, rfl, rfl, ?_⟩
  -- the Neighbour Table and the Coordination Unit
  refine ⟨rfl, rfl, rfl, rfl, rfl, rfl, rfl, rfl, rfl, rfl, rfl, rfl, rfl, rfl, rfl, rfl, rfl, ?_⟩
  -- the Panel Port, the fault record with the alarm relay, and the queue
  exact ⟨rfl, rfl, rfl, rfl, rfl, rfl, rfl, rfl⟩

/-- Settles O6, by R4's table of zeros and spans. -/
theorem conversionOfCodes : Obligations.ConversionOfCodes := by
  intro ch code
  have h := convert_eq ch code
  cases ch <;> exact h

/-- Settles O7, by the class of the code. -/
theorem deliveredWhileValid : Obligations.DeliveredWhileValid := by
  intro ch code stroke cond c hv hs
  obtain ⟨hdelivered, hgood⟩ := ChannelState.sample_of_completes_none (cond := cond) hv
    (ChannelState.completes_none_of_sample hv hs)
  rw [hdelivered, hgood]
  refine ⟨fun hlo hhi => ?_, fun hcode => ?_, fun hcode => ?_⟩
  · simp [codeClass_good hlo hhi]
  · simp [codeClass_full hcode]
  · simp [codeClass_low hcode]

/-- Settles O8: the sample fails the channel, whose entry is reported, and the change is presented. -/
theorem completedTestFailsChannel : Obligations.CompletedTestFailsChannel := by
  intro ch code s cause hv hfit htest
  have hafter : s.channelAfter ch code
      = ((s.meas.channels.get ch).runs ch code s.reg.stroke).fail cause (s.conditioning ch) := by
    rw [State.channelAfter_of_judged hfit]
    exact ChannelState.sample_of_completes hv (ChannelState.runs_completes htest)
  have hf : (s.channelAfter ch code).failed = true := by rw [hafter]; rfl
  have hfaults : (s.sampleChannel ch code).presentChange.faults = (s.sampleChannel ch code).faults := by simp
  have hsensor : (s.sampleChannel ch code).presentChange.faults.sensor
      = ({ s.faults.sensor with present := true } : FaultEntry).report s.time.clock (some (.channel ch)) := by
    rw [hfaults]
    exact State.sampleChannel_sensor_of_fails hv hf
  obtain ⟨hget, hothers⟩ := s.sampleChannel_presentChange_get ch code
  obtain ⟨hkeptSensor, hkeptPacker, hkeptSupply⟩ := (s.sampleChannel ch code).presentChange_kept
  refine ⟨_, _, exec_channelFail hv hf, hget.trans hafter, rfl, rfl, rfl, rfl, rfl, rfl, rfl, hothers, ?_, ?_, ?_,
    hkeptSensor, hkeptPacker, ?_, s.sampleChannel_presentChange_phaseFrame ch code⟩
  · rw [hsensor, FaultEntry.report_present]
  · intro hmasked
    rw [hsensor]
    exact FaultEntry.report_unmasked (e := { s.faults.sensor with present := true }) hmasked _ _
  · intro k hk
    rw [hfaults]
    exact State.sampleChannel_faults_of_ne hk
  · simpa using hkeptSupply

/-- Settles O9: the sample recovers the channel, nothing is reported, and the change is presented. -/
theorem twentiethGoodSampleRecovers : Obligations.TwentiethGoodSampleRecovers := by
  intro ch code s hf hfit hrun hlo hhi hstuck
  have hafter : s.channelAfter ch code = (s.meas.channels.get ch).recover ch code := by
    rw [State.channelAfter_of_judged hfit]
    exact ChannelState.sample_recovers hf hrun hlo hhi hstuck
  have hv : (s.channelAfter ch code).failed = false := by rw [hafter]; rfl
  have hfaults : (s.sampleChannel ch code).presentChange.faults = { s.faults with sensor := { s.faults.sensor with
      present := (s.sampleChannel ch code).presentChange.meas.anyFailed } } := by
    have hany : (s.sampleChannel ch code).presentChange.meas.anyFailed = (s.sampleChannel ch code).meas.anyFailed := by
      rw [State.presentChange_meas]
      rfl
    rw [hany, ← State.sampleChannel_faults_of_not_fails (by simp [hf])]
    simp
  obtain ⟨hget, hothers⟩ := s.sampleChannel_presentChange_get ch code
  obtain ⟨hkeptSensor, hkeptPacker, hkeptSupply⟩ := (s.sampleChannel ch code).presentChange_kept
  refine ⟨_, _, exec_channelRecover hf hv, hget.trans hafter, rfl, rfl, rfl, rfl, rfl, rfl, rfl, rfl, hothers, ?_,
    hkeptSensor, hkeptPacker, ?_, hfaults, s.sampleChannel_presentChange_phaseFrame ch code⟩
  · rw [hfaults]
  · simpa using hkeptSupply

/-- Settles O10: the sample accepts the level and the change is presented. -/
theorem debouncedInputIsAccepted : Obligations.DebouncedInputIsAccepted := by
  intro i level s hne hrun
  have hlength : (s.meas.input i).run + 1 = debounceLength i := by cases i <;> exact hrun
  have hsample : (s.meas.input i).sample i level = ⟨level, 0⟩ := InputState.sample_accepts hne hlength
  have haccepts : s.accepts i level = true := by simpa [State.accepts, hsample] using hne.symm
  have hinput : (s.sampleInput i level).presentChange.meas.input i = ⟨level, 0⟩ := by
    rw [State.presentChange_input, State.sampleInput_meas, Measurement.input_setInput_same, hsample]
  obtain ⟨hkeptSensor, hkeptPacker, hkeptSupply⟩ := (s.sampleInput i level).presentChange_kept
  refine ⟨_, exec_inputDebounceAccept haccepts, hinput, fun j hj => ?_, ?_, hkeptSensor, hkeptPacker, fun hkey => ?_, ?_,
    (s.sampleInput i level).presentChange_phaseFrame⟩
  · rw [State.presentChange_input, State.sampleInput_meas, Measurement.input_setInput_of_ne _ hj]
  · rw [State.presentChange_channels, State.sampleInput_meas, Measurement.setInput_channels]
  · subst hkey
    exact congrArg InputState.accepted hinput
  · simpa using hkeptSupply

end Sys2Proof.Machine
end


section
/-! SUPPORT. The order in which the parts of one event are taken: each part once, and what comes before a part. -/

namespace Sys2Proof.Machine

section
variable {α : Type} [BEq α] [LawfulBEq α]

theorem mem_firstOnly {l : List α} {a : α} : a ∈ firstOnly l ↔ a ∈ l := by
  induction l with
  | nil => simp [firstOnly]
  | cons x rest ih =>
    by_cases h : a = x
    · simp [firstOnly, h]
    · simp [firstOnly, h, ih]

theorem nodup_firstOnly (l : List α) : (firstOnly l).Nodup := by
  induction l with
  | nil => simp [firstOnly]
  | cons x rest ih => simpa [firstOnly] using ih.filter _

/-- Dropping another element does not move the end of what comes before `a`. -/
theorem takeWhile_filter_ne [DecidableEq α] {a x : α} (h : a ≠ x) (l : List α) :
    (l.filter fun y => !(y == x)).takeWhile (· ≠ a) = (l.takeWhile (· ≠ a)).filter fun y => !(y == x) := by
  induction l with
  | nil => rfl
  | cons y rest ih =>
    by_cases hx : y = x
    · subst hx
      simpa [Ne.symm h] using ih
    · by_cases ha : y = a
      · simp [ha, h]
      · simpa [hx, ha] using ih

/-- What comes before `a` in an order without repetitions came before `a` already. -/
theorem takeWhile_firstOnly [DecidableEq α] (a : α) (l : List α) :
    (firstOnly l).takeWhile (· ≠ a) = firstOnly (l.takeWhile (· ≠ a)) := by
  induction l with
  | nil => rfl
  | cons x rest ih =>
    by_cases h : x = a
    · simp [firstOnly, h]
    · have hne : a ≠ x := Ne.symm h
      have htail := takeWhile_filter_ne hne (firstOnly rest)
      rw [ih] at htail
      simpa [firstOnly, h] using htail

end

/-- An order that names `a` once: what comes before it, `a`, and what comes after it, neither naming `a` again. -/
theorem eq_takeWhile_append_cons {α : Type} [DecidableEq α] {a : α} {l : List α} (hmem : a ∈ l) (hnodup : l.Nodup) :
    ∃ post, l = l.takeWhile (· ≠ a) ++ a :: post ∧ a ∉ post := by
  induction l with
  | nil => simp at hmem
  | cons x rest ih =>
    obtain ⟨hx, hrest⟩ := List.nodup_cons.mp hnodup
    by_cases h : x = a
    · subst h
      exact ⟨rest, by simp, hx⟩
    · obtain ⟨post, heq, hpost⟩ := ih (by simpa [Ne.symm h] using hmem) hrest
      refine ⟨post, ?_, hpost⟩
      simpa [h] using heq

theorem ne_of_mem_takeWhile {α : Type} [DecidableEq α] {a x : α} {l : List α} (h : x ∈ l.takeWhile (· ≠ a)) : x ≠ a := by
  simpa using List.mem_takeWhile_imp h

/-! ## A sample set -/

theorem mem_sampleSchedule (task : SampleTask) (ord : List SampleTask) : task ∈ sampleSchedule ord := by
  unfold sampleSchedule
  rw [mem_firstOnly]
  refine List.mem_flatMap.mpr ⟨task, ?_, by simp⟩
  cases task <;> simp

theorem nodup_sampleSchedule (ord : List SampleTask) : (sampleSchedule ord).Nodup := nodup_firstOnly _

/-- A part asked for with what it needs begins with the trip, or is of the parts that move no phase. -/
theorem trip_first_or_still (task : SampleTask) :
    (taskNeeds task ++ [task]).head? = some .trip
      ∨ ∀ x ∈ taskNeeds task ++ [task], x = .counters ∨ x = .envelope ∨ x = .confirm := by
  cases task <;> decide

/-- Before the trip come only parts that move no phase (R23; log entry 5). -/
theorem before_trip (ord : List SampleTask) :
    ∀ x ∈ (sampleSchedule ord).takeWhile (· ≠ .trip), x = .counters ∨ x = .envelope ∨ x = .confirm := by
  intro x hx
  unfold sampleSchedule at hx
  rw [takeWhile_firstOnly, mem_firstOnly] at hx
  generalize ord ++ [.trip, .field, .counters, .envelope, .confirm, .uplift, .connection, .header] = wanted at hx
  induction wanted with
  | nil => simp at hx
  | cons task rest ih =>
    rw [List.flatMap_cons] at hx
    rcases trip_first_or_still task with hfirst | hstill
    · obtain ⟨block, hblock⟩ := List.head?_eq_some_iff.mp hfirst
      rw [hblock] at hx
      simp at hx
    · have hpass : ∀ y ∈ taskNeeds task ++ [task], decide (y ≠ SampleTask.trip) = true := by
        intro y hy
        rcases hstill y hy with rfl | rfl | rfl <;> rfl
      rw [List.takeWhile_append_of_pos hpass] at hx
      exact (List.mem_append.mp hx).elim (hstill x) ih

/-- The work of a sample set around one of its parts: the parts before it, related by `R`, that part once, and the parts
after it, related by `Q`. -/
theorem State.sampleWork_at (task : SampleTask) {set : SampleSet} {ord : List SampleTask} {R Q : State → State → Prop}
    (hR : ∀ s, R s s) (hRt : ∀ {a b c}, R a b → R b c → R a c) (hQ : ∀ s, Q s s)
    (hQt : ∀ {a b c}, Q a b → Q b c → Q a c)
    (before : ∀ x ∈ (sampleSchedule ord).takeWhile (· ≠ task), ∀ p, R p.1 (State.sampleTask set x p).1)
    (after : ∀ x, x ≠ task → ∀ p, Q p.1 (State.sampleTask set x p).1) (stroke : Nat) (s : State) :
    ∃ p : State × Nat, R s p.1 ∧ Q (State.sampleTask set task p).1 (s.sampleWork set ord stroke) := by
  obtain ⟨post, heq, hpost⟩ := eq_takeWhile_append_cons (mem_sampleSchedule task ord) (nodup_sampleSchedule ord)
  refine ⟨((sampleSchedule ord).takeWhile (· ≠ task)).foldl (fun p t => State.sampleTask set t p) (s, stroke), ?_, ?_⟩
  · exact List.foldlRecOn (motive := fun p : State × Nat => R s p.1) _ _ (hR s) fun p hp x hx => hRt hp (before x hx p)
  · unfold State.sampleWork
    rw [heq, List.foldl_append, List.foldl_cons, ← heq]
    generalize State.sampleTask set task _ = q
    refine List.foldlRecOn (motive := fun p : State × Nat => Q q.1 p.1) _ _ (hQ q.1) fun p hp x hx => hQt hp (after x ?_ p)
    rintro rfl
    exact hpost hx

/-! ## A second boundary -/

theorem mem_boundarySchedule (task : BoundaryTask) (ord : List BoundaryTask) : task ∈ boundarySchedule ord := by
  unfold boundarySchedule
  rw [mem_firstOnly]
  cases task <;> simp

theorem nodup_boundarySchedule (ord : List BoundaryTask) : (boundarySchedule ord).Nodup := nodup_firstOnly _

/-- The part that the order names first is taken first. -/
theorem before_first_boundaryTask {task : BoundaryTask} {ord : List BoundaryTask} (h : ord.head? = some task) :
    (boundarySchedule ord).takeWhile (· ≠ task) = [] := by
  obtain ⟨rest, rfl⟩ := List.head?_eq_some_iff.mp h
  simp [boundarySchedule, firstOnly]

end Sys2Proof.Machine
end


section
/-! SUPPORT. A stage that TRIP holds in WAITING or HOLDING stays there through every presentation and evaluation (R23, R24,
R27), and how it comes there (R15, R26). -/

namespace Sys2Proof.Machine

/-! ## What a change to the stage record leaves -/

theorem State.modStage_phase {f : StageRecord → StageRecord} (h : ∀ st, (f st).phase = st.phase) (s : State) :
    (s.modStage f).phase = s.phase := by
  unfold State.phase State.modStage
  cases s.seq.stage <;> simp [h]

theorem State.modStage_restraints {f : StageRecord → StageRecord} (h : ∀ st, (f st).restraints = st.restraints)
    (s : State) : (s.modStage f).restraints = s.restraints := by
  unfold State.restraints State.modStage
  cases s.seq.stage <;> simp [h]

theorem State.phase_congr {s t : State} (h : t.seq.stage = s.seq.stage) : t.phase = s.phase := by
  simp only [State.phase, h]

theorem State.restraints_congr {s t : State} (h : t.seq.stage = s.seq.stage) : t.restraints = s.restraints := by
  simp only [State.restraints, h]

theorem State.exists_stage_of_phase {s : State} (h : s.phase ≠ .vacant) :
    ∃ st, s.seq.stage = some st ∧ st.phase = s.phase := by
  unfold State.phase at h ⊢
  cases hs : s.seq.stage with
  | none => simp [hs] at h
  | some st => exact ⟨st, rfl, rfl⟩

theorem State.phase_of_stage {s : State} {st : StageRecord} (h : s.seq.stage = some st) : s.phase = st.phase := by
  simp only [State.phase, h]

theorem State.restraints_of_stage {s : State} {st : StageRecord} (h : s.seq.stage = some st) :
    s.restraints = st.restraints := by
  simp only [State.restraints, h]

theorem State.modStage_stage (f : StageRecord → StageRecord) (s : State) :
    (s.modStage f).seq.stage = s.seq.stage.map f := rfl

/-- R20, R22: the stage record after a change of phase. -/
theorem State.enterPhase_stage (new : Phase) (s : State) :
    (s.enterPhase new).seq.stage = s.seq.stage.map fun st =>
      { st with phase := new, restraints := if new.restrained then st.restraints else .none } := by
  simp [State.enterPhase, State.handover, State.modStage, Sequencer.handed]

/-- R20, R73 to R75: the Regulator after a change of phase. -/
theorem State.enterPhase_reg (new : Phase) (s : State) : (s.enterPhase new).reg = s.reg.handed s.phase new := by
  simp [State.enterPhase, State.handover]

/-! ## The hold -/

/-- A set with TRIP is no empty set. -/
theorem Restraints.isEmpty_of_trip {r : Restraints} (h : r.trip = true) : r.isEmpty = false := by
  simp only [Restraints.isEmpty, beq_eq_false_iff_ne]
  rintro rfl
  cases h

/-- A stage in WAITING or HOLDING with TRIP in its set in `s` stands so in `t`, with S, the valve and the test results as
they were. -/
def KeepsTripHold (s t : State) : Prop :=
  s.phase.restrained = true → s.restraints.trip = true →
    t.phase = s.phase ∧ t.restraints.trip = true ∧ t.reg.stroke = s.reg.stroke ∧ t.reg.valveOpen = s.reg.valveOpen
      ∧ t.seq.stage.map (·.results) = s.seq.stage.map (·.results)

theorem KeepsTripHold.refl (s : State) : KeepsTripHold s s := fun _ h => ⟨rfl, h, rfl, rfl, rfl⟩

theorem KeepsTripHold.trans {a b c : State} (h : KeepsTripHold a b) (k : KeepsTripHold b c) : KeepsTripHold a c := by
  intro hp ht
  obtain ⟨hphase, htrip, hstroke, hvalve, hresults⟩ := h hp ht
  obtain ⟨kphase, ktrip, kstroke, kvalve, kresults⟩ := k (hphase ▸ hp) htrip
  exact ⟨kphase.trans hphase, ktrip, kstroke.trans hstroke, kvalve.trans hvalve, kresults.trans hresults⟩

theorem KeepsTripHold.of_stage_eq {s t : State} (hstage : t.seq.stage = s.seq.stage)
    (hstroke : t.reg.stroke = s.reg.stroke) (hvalve : t.reg.valveOpen = s.reg.valveOpen) : KeepsTripHold s t :=
  fun _ ht => ⟨State.phase_congr hstage, (State.restraints_congr hstage).symm ▸ ht, hstroke, hvalve, by rw [hstage]⟩

theorem State.modStage_keepsTripHold {f : StageRecord → StageRecord}
    (h : ∀ st, (f st).phase = st.phase ∧ (f st).restraints = st.restraints ∧ (f st).results = st.results) (s : State) :
    KeepsTripHold s (s.modStage f) := by
  choose hphase hset hresults using h
  intro _ ht
  refine ⟨State.modStage_phase hphase s, ?_, rfl, rfl, ?_⟩
  · rwa [State.modStage_restraints hset]
  · rw [State.modStage_stage]
    cases s.seq.stage <;> simp [hresults]

theorem State.urgent_keepsTripHold (s : State) : KeepsTripHold s s.urgent :=
  .of_stage_eq (by simp) (by simp) (by simp)

/-- A new value of the set that still has TRIP moves no phase. -/
theorem State.changeSet_keepsTripHold {r : Restraints} (h : r.trip = true) (s : State) :
    KeepsTripHold s (s.changeSet r) := by
  have hset : KeepsTripHold s (s.setRestraints r) := by
    intro hp _
    have hne : s.phase ≠ .vacant := by
      intro hv
      simp [hv, Phase.restrained] at hp
    obtain ⟨st, hst, -⟩ := State.exists_stage_of_phase hne
    refine ⟨State.modStage_phase (f := fun st => { st with restraints := r }) (fun _ => rfl) s, ?_, rfl, rfl, ?_⟩
    · simp [State.restraints, State.setRestraints, State.modStage, hst, h]
    · simp [State.setRestraints, State.modStage, hst]
  unfold State.changeSet
  split
  · exact .refl s
  · simp only [Restraints.isEmpty_of_trip h]
    exact hset.trans (State.urgent_keepsTripHold _)

/-- R24: conditions presented to a held stage leave the latched TRIP in its set. -/
theorem State.present_keepsTripHold (kept : Conditions) (r : Restraints) (s : State) :
    KeepsTripHold s (s.present kept r) := by
  intro hp ht
  have hkept : KeepsTripHold s { s with seq := { s.seq with kept := kept } } := .of_stage_eq rfl rfl rfl
  have htrip : (s.restraints.latched.union kept.toRestraints).trip = true := by
    simp [Restraints.union, Restraints.latched, ht]
  have hchange := hkept.trans (State.changeSet_keepsTripHold htrip _) hp ht
  cases hphase : s.phase <;> simp only [hphase, Phase.restrained] at hp
  case waiting => simpa only [State.present, hphase] using hchange
  case holding => simpa only [State.present, hphase] using hchange
  all_goals cases hp

theorem State.presentSupply_keepsTripHold (p : Bool) (s : State) : KeepsTripHold s (s.presentSupply p) := by
  unfold State.presentSupply
  split
  · exact .refl s
  · exact State.present_keepsTripHold _ _ s

theorem State.recomputeStep_keepsTripHold (n : Nat) (s : State) : KeepsTripHold s (s.recomputeStep n) := by
  have hruns : KeepsTripHold s { s with reg := { s.reg with arrivalRun := 0, advanceCount := 0 } } :=
    .of_stage_eq rfl rfl rfl
  unfold State.recomputeStep
  split
  · exact .refl s
  · simp only
    split
    · refine hruns.trans (State.modStage_keepsTripHold ?_ _)
      intro st
      split <;> exact ⟨rfl, rfl, rfl⟩
    · exact hruns

theorem State.setLimit_keepsTripHold (n : Nat) (s : State) : KeepsTripHold s (s.setLimit n) :=
  (KeepsTripHold.of_stage_eq (t := { s with coord := { s.coord with limit := n } }) rfl rfl rfl).trans
    (State.recomputeStep_keepsTripHold _ _)

theorem State.formLimits_keepsTripHold (s : State) : KeepsTripHold s s.formLimits := by
  unfold State.formLimits
  simp only
  split
  · refine KeepsTripHold.trans ?_ (State.setLimit_keepsTripHold _ _)
    exact .of_stage_eq rfl rfl rfl
  · exact .of_stage_eq rfl rfl rfl

theorem State.evaluateOnce_keepsTripHold (s : State) : KeepsTripHold s s.evaluateOnce := by
  have hdemand : KeepsTripHold s s.formDemand := .of_stage_eq rfl rfl rfl
  unfold State.evaluateOnce
  split
  · exact (hdemand.trans (State.formLimits_keepsTripHold _)).trans (State.present_keepsTripHold _ _ _)
  · exact .refl s

theorem State.evaluate_keepsTripHold (s : State) : KeepsTripHold s s.evaluate := by
  unfold State.evaluate
  simp only
  split
  · exact s.evaluateOnce_keepsTripHold
  · exact s.evaluateOnce_keepsTripHold.trans (State.evaluateOnce_keepsTripHold _)

theorem State.settle_keepsTripHold (p : Phase) (s : State) : KeepsTripHold s (s.settle p) := by
  unfold State.settle
  split
  · exact .refl s
  · exact s.evaluate_keepsTripHold

/-! ## The trip -/

/-- R26: TRIP arriving in TESTING abandons the test for WAITING, where TRIP alone keeps the set from being empty. -/
theorem State.arrive_onlyTrip_testing {s : State} (h : s.phase = .testing) :
    (s.arrive .onlyTrip).phase = .waiting ∧ (s.arrive .onlyTrip).restraints.trip = true
      ∧ (s.arrive .onlyTrip).reg.stroke = 0 ∧ (s.arrive .onlyTrip).reg.valveOpen = false
      ∧ (s.arrive .onlyTrip).seq.stage.map (·.results) = some .abandoned := by
  obtain ⟨st, hst, -⟩ := State.exists_stage_of_phase (s := s) (by simp [h])
  let set := Restraints.onlyTrip.union s.seq.kept.toRestraints
  have hset : (Restraints.onlyTrip.union s.abandonTest.seq.kept.toRestraints).trip = true := rfl
  have hto : s.arrive .onlyTrip = (s.abandonTest.enterPhase .waiting).setRestraints set := by
    simp only [State.arrive, h, State.enterWaiting, Restraints.isEmpty_of_trip hset]
    rfl
  have hstage : (s.arrive .onlyTrip).seq.stage
      = some { st with results := .abandoned, phase := .waiting, restraints := set } := by
    simp [hto, State.setRestraints, State.modStage_stage, State.enterPhase_stage, State.abandonTest, hst]
  have hreg : (s.arrive .onlyTrip).reg = s.reg.handed s.abandonTest.phase .waiting := by
    simp [hto, State.enterPhase_reg]
  rw [State.phase_of_stage hstage, State.restraints_of_stage hstage, hreg, hstage]
  exact ⟨rfl, rfl, rfl, rfl, rfl⟩

/-- R27: TRIP arriving in INJECTING brings the stage into HOLDING. -/
theorem State.arrive_onlyTrip_injecting {s : State} (h : s.phase = .injecting) :
    (s.arrive .onlyTrip).phase = .holding ∧ (s.arrive .onlyTrip).restraints.trip = true
      ∧ (s.arrive .onlyTrip).reg.stroke = 0 ∧ (s.arrive .onlyTrip).reg.valveOpen = false := by
  obtain ⟨st, hst, -⟩ := State.exists_stage_of_phase (s := s) (by simp [h])
  have hto : s.arrive .onlyTrip = s.enterHolding .onlyTrip := by simp only [State.arrive, h]
  have hstage : (s.arrive .onlyTrip).seq.stage = some { st with
      phase := .holding, restraints := Restraints.onlyTrip.union s.seq.kept.toRestraints, holdTimer := 0 } := by
    simp [hto, State.enterHolding, State.modStage_stage, State.enterPhase_stage, hst]
  have hreg : (s.arrive .onlyTrip).reg = s.reg.handed s.phase .holding := by
    simp [hto, State.enterHolding, State.enterPhase_reg]
  rw [State.phase_of_stage hstage, State.restraints_of_stage hstage, hreg]
  exact ⟨rfl, rfl, rfl, rfl⟩

/-- R15: after the trip of a pumping stage the pump stands and TRIP holds the stage. -/
theorem State.trip_holds {s : State} (h : s.phase.pumping = true) :
    s.trip.phase.restrained = true ∧ s.trip.restraints.trip = true ∧ s.trip.reg.stroke = 0
      ∧ s.trip.reg.valveOpen = false
      ∧ (s.phase = .testing → s.trip.phase = .waiting ∧ s.trip.seq.stage.map (·.results) = some .abandoned)
      ∧ (s.phase = .injecting → s.trip.phase = .holding) := by
  let u : State := s.stopPump.report .overpressure (some (.channel .gauge))
  have hu : u.phase = s.phase := State.phase_congr (by simp [u])
  have hkeep : KeepsTripHold (u.arrive .onlyTrip) s.trip := State.settle_keepsTripHold _ _
  have hcases : s.phase = .testing ∨ s.phase = .injecting := by
    cases hp : s.phase <;> simp [hp, Phase.pumping] at h ⊢
  rcases hcases with hp | hp
  · obtain ⟨hphase, htrip, hstroke, hvalve, hresults⟩ := State.arrive_onlyTrip_testing (hu.trans hp)
    obtain ⟨kphase, ktrip, kstroke, kvalve, kresults⟩ := hkeep (by rw [hphase]; rfl) htrip
    rw [kphase, kstroke, kvalve, kresults, hphase, hstroke, hvalve, hresults]
    simp [ktrip, Phase.restrained, hp]
  · obtain ⟨hphase, htrip, hstroke, hvalve⟩ := State.arrive_onlyTrip_injecting (hu.trans hp)
    obtain ⟨kphase, ktrip, kstroke, kvalve, -⟩ := hkeep (by rw [hphase]; rfl) htrip
    rw [kphase, kstroke, kvalve, hphase, hstroke, hvalve]
    simp [ktrip, Phase.restrained, hp]

/-- R15, R185: the trip reports OVERPRESSURE of GAUGE, and nothing else. -/
theorem State.trip_faults (s : State) :
    s.trip.faults = (s.report .overpressure (some (.channel .gauge))).faults := by
  simp [State.trip, State.settled]
  rfl

end Sys2Proof.Machine
end


section
/-! SUPPORT. The parts of a sample set (R13): the channels and inputs judged, what every part of the work leaves as it is,
and which part alone touches the kept conditions, the own uplift and OVERPRESSURE. -/

namespace Sys2Proof.Machine

/-! ## The channels and inputs judged -/

theorem State.sampleChannel_onlyChanges (ch : Channel) (code : RawCode) (s : State) :
    OnlyChanges [.meas, .faults] s (s.sampleChannel ch code) := by
  rw [s.sampleChannel_eq ch code]
  intro b hb
  cases b <;> first | rfl | simp at hb

theorem State.sampleInput_onlyChanges (i : Input) (level : Bool) (s : State) :
    OnlyChanges [.meas, .faults] s (s.sampleInput i level) := by
  intro b hb
  cases b <;> first | rfl | simp at hb

/-- Channels sampled one after the other: each of the list by one sample of the state before them all. -/
theorem State.sampleChannels_get (codes : PerChannel RawCode) {l : List Channel} (hl : l.Nodup) (o : Channel) (s : State) :
    (l.foldl (fun s ch => s.sampleChannel ch (codes.get ch)) s).meas.channels.get o
      = if o ∈ l then s.channelAfter o (codes.get o) else s.meas.channels.get o := by
  induction l generalizing s with
  | nil => rfl
  | cons c rest ih =>
    obtain ⟨hc, hrest⟩ := List.nodup_cons.mp hl
    rw [List.foldl_cons, ih hrest]
    by_cases ho : o = c
    · subst ho
      simp [hc, State.sampleChannel_get_same]
    · have hget := State.sampleChannel_get_of_ne ho (codes.get c) s
      have hafter : (s.sampleChannel c (codes.get c)).channelAfter o (codes.get o) = s.channelAfter o (codes.get o) :=
        State.channelAfter_congr hget (by simp) (by simp) (by simp) _
      simp only [List.mem_cons, ho, false_or, hget, hafter]

/-- Of the Measurement Unit, channels sampled move the channels alone. -/
theorem State.sampleChannels_meas (codes : PerChannel RawCode) (l : List Channel) (s : State) :
    (l.foldl (fun s ch => s.sampleChannel ch (codes.get ch)) s).meas
      = { s.meas with channels := (l.foldl (fun s ch => s.sampleChannel ch (codes.get ch)) s).meas.channels } := by
  refine List.foldlRecOn (motive := fun t : State => t.meas = { s.meas with channels := t.meas.channels }) l _ rfl ?_
  intro t ht ch _
  rw [State.sampleChannel_meas]
  rw [ht]

theorem State.sampleChannels_onlyChanges (codes : PerChannel RawCode) (l : List Channel) (s : State) :
    OnlyChanges [.meas, .faults] s (l.foldl (fun s ch => s.sampleChannel ch (codes.get ch)) s) :=
  List.foldlRecOn (motive := fun t => OnlyChanges [.meas, .faults] s t) l _ (.refl _ s) fun t ht ch _ =>
    ht.trans (t.sampleChannel_onlyChanges ch (codes.get ch))

theorem State.sampleChannels_faults_of_ne (codes : PerChannel RawCode) (l : List Channel) (s : State) {k : FaultKind}
    (h : k ≠ .sensor) :
    (l.foldl (fun s ch => s.sampleChannel ch (codes.get ch)) s).faults.get k = s.faults.get k :=
  List.foldlRecOn (motive := fun t : State => t.faults.get k = s.faults.get k) l _ rfl fun _ ht _ _ =>
    (State.sampleChannel_faults_of_ne h).trans ht

theorem mem_channelOrder (ch : Channel) (l : List Channel) : ch ∈ channelOrder l := by
  unfold channelOrder
  rw [mem_firstOnly]
  cases ch <;> simp

theorem nodup_channelOrder (l : List Channel) : (channelOrder l).Nodup := nodup_firstOnly _

/-- Every channel and every input is what one sample makes of it; the record and its number stand. -/
theorem State.judgeInputs_meas (inp : SampleInput) (order : List Channel) (s : State) :
    (∀ ch, (s.judgeInputs inp order).meas.channels.get ch = s.channelAfter ch (inp.codes.get ch))
      ∧ (s.judgeInputs inp order).meas.sealIn = s.meas.sealIn.sample .sealIn inp.sealIn
      ∧ (s.judgeInputs inp order).meas.leakIn = s.meas.leakIn.sample .leakIn inp.leakIn
      ∧ (s.judgeInputs inp order).meas.keyIn = s.meas.keyIn.sample .keyIn inp.keyIn
      ∧ (s.judgeInputs inp order).meas.nextSeq = s.meas.nextSeq := by
  have hmeas := s.sampleChannels_meas inp.codes (channelOrder order)
  refine ⟨fun ch => ?_, ?_, ?_, ?_, ?_⟩
  · have hget := s.sampleChannels_get inp.codes (nodup_channelOrder order) ch
    rw [if_pos (mem_channelOrder ch order)] at hget
    exact hget
  all_goals
    simp only [State.judgeInputs, State.sampleInput, Measurement.setInput, Measurement.input]
    rw [hmeas]

theorem State.judgeInputs_onlyChanges (inp : SampleInput) (order : List Channel) (s : State) :
    OnlyChanges [.meas, .faults] s (s.judgeInputs inp order) :=
  (((s.sampleChannels_onlyChanges inp.codes _).trans (State.sampleInput_onlyChanges _ _ _)).trans
    (State.sampleInput_onlyChanges _ _ _)).trans (State.sampleInput_onlyChanges _ _ _)

/-- The state that the work of a sample set begins from: its advance made, the inputs judged, the record built. -/
def State.judged (inp : SampleInput) (ord : SampleOrder) (s : State) : State :=
  (({ s with time := s.time.forSample } : State).judgeInputs inp ord.channels).buildSet

/-- The record of that set. -/
def State.judgedSet (inp : SampleInput) (ord : SampleOrder) (s : State) : SampleSet :=
  (s.judged inp ord).sampleRecord s.meas.nextSeq (s.judged inp ord).time.clock (s.judged inp ord).time.tenths

theorem State.judged_onlyChanges (inp : SampleInput) (ord : SampleOrder) (s : State) :
    OnlyChanges [.time, .meas, .faults] s (s.judged inp ord) := by
  have hadvance : OnlyChanges [.time, .meas, .faults] s { s with time := s.time.forSample } := by
    intro b hb
    cases b <;> first | rfl | simp at hb
  have hjudge := (State.judgeInputs_onlyChanges inp ord.channels { s with time := s.time.forSample }).mono
    (m := [.time, .meas, .faults]) (by simp)
  have hbuild : OnlyChanges [.time, .meas, .faults]
      (({ s with time := s.time.forSample } : State).judgeInputs inp ord.channels) (s.judged inp ord) := by
    intro b hb
    cases b <;> first | rfl | simp at hb
  exact (hadvance.trans hjudge).trans hbuild

theorem State.judged_time (inp : SampleInput) (ord : SampleOrder) (s : State) :
    (s.judged inp ord).time = s.time.forSample :=
  State.judgeInputs_onlyChanges inp ord.channels { s with time := s.time.forSample } .time (by simp)

/-- R13: the Measurement Unit once its record is built. -/
theorem State.judged_meas (inp : SampleInput) (ord : SampleOrder) (s : State) :
    (∀ ch, (s.judged inp ord).meas.channels.get ch = s.channelAfter ch (inp.codes.get ch))
      ∧ (s.judged inp ord).meas.sealIn = s.meas.sealIn.sample .sealIn inp.sealIn
      ∧ (s.judged inp ord).meas.leakIn = s.meas.leakIn.sample .leakIn inp.leakIn
      ∧ (s.judged inp ord).meas.keyIn = s.meas.keyIn.sample .keyIn inp.keyIn
      ∧ (s.judged inp ord).meas.latest = some (s.judgedSet inp ord)
      ∧ (s.judged inp ord).meas.nextSeq = (s.meas.nextSeq + 1) % 65536 := by
  obtain ⟨hchannels, hseal, hleak, hkey, hnext⟩ :=
    State.judgeInputs_meas inp ord.channels { s with time := s.time.forSample }
  refine ⟨fun ch => (hchannels ch).trans (State.channelAfter_congr rfl rfl rfl rfl _), hseal, hleak, hkey, ?_, ?_⟩
  · simp only [State.judgedSet, State.judged, State.buildSet, hnext]
    rfl
  · simp only [State.judged, State.buildSet, hnext]

theorem State.judged_faults_of_ne {k : FaultKind} (h : k ≠ .sensor) (inp : SampleInput) (ord : SampleOrder) (s : State) :
    (s.judged inp ord).faults.get k = s.faults.get k :=
  State.sampleChannels_faults_of_ne inp.codes (channelOrder ord.channels) { s with time := s.time.forSample } h

theorem State.takeSampleSet_of_latest {inp : SampleInput} {ord : SampleOrder} {s : State} {set : SampleSet}
    (h : (s.judgeInputs inp ord.channels).buildSet.meas.latest = some set) :
    s.takeSampleSet inp ord = (s.judgeInputs inp ord.channels).buildSet.sampleWork set ord.tasks s.reg.stroke := by
  simp only [State.takeSampleSet, h]

/-- With no boundary overdue a sample set is the work on the judged state. -/
theorem State.sampleSet_eq {s : State} (h : s.time.boundaryDue = false) (inp : SampleInput) (ord : SampleOrder) :
    s.sampleSet inp ord = (s.judged inp ord).sampleWork (s.judgedSet inp ord) ord.tasks s.reg.stroke := by
  have hnone : s.overdueBoundary = s := by simp [State.overdueBoundary, h]
  obtain ⟨-, -, -, -, hlatest, -⟩ := s.judged_meas inp ord
  simp only [State.sampleSet, hnone]
  exact State.takeSampleSet_of_latest (s := { s with time := s.time.forSample }) hlatest

/-! ## What the parts of the work leave -/

/-- What every part of a sample set leaves as it is: the time, the channels and inputs, the settings, the table, the
panel, the queue and the free values, the commanded and reached steps, the number counter and what OPEN fixed; and it
clears no urgent mark and ends no hold of TRIP. -/
def SamplePartFrame (s t : State) : Prop :=
  OnlyChanges [.seq, .env, .reg, .take, .link, .coord, .faults] s t
    ∧ t.reg.commanded = s.reg.commanded ∧ t.reg.reached = s.reg.reached ∧ t.seq.counter = s.seq.counter
    ∧ t.seq.stage.map (·.asOpened) = s.seq.stage.map (·.asOpened)
    ∧ (s.link.urgent = true → t.link.urgent = true) ∧ KeepsTripHold s t

/-- SENSOR and PACKER as the Sequencer keeps them stand. -/
def FieldKept (s t : State) : Prop :=
  t.seq.kept.sensor = s.seq.kept.sensor ∧ t.seq.kept.packer = s.seq.kept.packer

/-- What the parts of a sample set other than `task` leave besides: to the presentation of SENSOR and PACKER its two
conditions, to the judgement of the uplift the own uplift, to the trip the OVERPRESSURE entry. -/
def LeavesTo (task : SampleTask) (s t : State) : Prop :=
  SamplePartFrame s t ∧ (task = .field → FieldKept s t)
    ∧ (task = .uplift → t.coord.uplift = s.coord.uplift)
    ∧ (task = .trip → t.faults.get .overpressure = s.faults.get .overpressure)

theorem SamplePartFrame.refl (s : State) : SamplePartFrame s s :=
  ⟨.refl _ s, rfl, rfl, rfl, rfl, id, .refl s⟩

theorem SamplePartFrame.trans {a b c : State} (h : SamplePartFrame a b) (k : SamplePartFrame b c) :
    SamplePartFrame a c := by
  obtain ⟨hblocks, hcommanded, hreached, hcounter, hopened, hmark, htrip⟩ := h
  obtain ⟨kblocks, kcommanded, kreached, kcounter, kopened, kmark, ktrip⟩ := k
  exact ⟨hblocks.trans kblocks, kcommanded.trans hcommanded, kreached.trans hreached, kcounter.trans hcounter,
    kopened.trans hopened, kmark ∘ hmark, htrip.trans ktrip⟩

theorem LeavesTo.refl (task : SampleTask) (s : State) : LeavesTo task s s :=
  ⟨.refl s, fun _ => ⟨rfl, rfl⟩, fun _ => rfl, fun _ => rfl⟩

theorem LeavesTo.trans {task : SampleTask} {a b c : State} (h : LeavesTo task a b) (k : LeavesTo task b c) :
    LeavesTo task a c := by
  obtain ⟨hframe, hfield, huplift, htrip⟩ := h
  obtain ⟨kframe, kfield, kuplift, ktrip⟩ := k
  refine ⟨hframe.trans kframe, fun ht => ?_, fun ht => (kuplift ht).trans (huplift ht), fun ht =>
    (ktrip ht).trans (htrip ht)⟩
  obtain ⟨hsensor, hpacker⟩ := hfield ht
  obtain ⟨ksensor, kpacker⟩ := kfield ht
  exact ⟨ksensor.trans hsensor, kpacker.trans hpacker⟩

theorem SamplePartFrame.of_phaseFrame {s t : State} (h : PhaseFrame s t)
    (hmark : s.link.urgent = true → t.link.urgent = true) (htrip : KeepsTripHold s t) : SamplePartFrame s t := by
  obtain ⟨hblocks, hcommanded, hreached, hcounter, -, hopened, -⟩ := h
  exact ⟨hblocks.mono (by simp [phaseBlocks]), hcommanded, hreached, hcounter, hopened, hmark, htrip⟩

/-- An operation with the frame of a change of phase that presents neither SENSOR nor PACKER. -/
theorem LeavesTo.of_phaseFrame {task : SampleTask} {s t : State} (h : PhaseFrame s t)
    (hmark : s.link.urgent = true → t.link.urgent = true) (htrip : KeepsTripHold s t) (hfield : FieldKept s t) :
    LeavesTo task s t := by
  have hframe := SamplePartFrame.of_phaseFrame h hmark htrip
  obtain ⟨hblocks, -, -, -, -, -, -, -, -, -, -, -, -, huplift, -⟩ := h
  have hfaults : t.faults = s.faults := hblocks .faults (by simp [phaseBlocks])
  exact ⟨hframe, fun _ => hfield, fun _ => huplift, fun _ => by rw [hfaults]⟩

theorem FieldKept.of_fieldAndSupplyKept {s t : State} (h : FieldAndSupplyKept s t) : FieldKept s t := by
  obtain ⟨hsensor, hpacker, -⟩ := h
  exact ⟨hsensor, hpacker⟩

theorem State.evaluate_leavesTo (task : SampleTask) (s : State) : LeavesTo task s s.evaluate :=
  .of_phaseFrame s.evaluate_phaseFrame State.evaluate_mark s.evaluate_keepsTripHold
    (.of_fieldAndSupplyKept s.evaluate_fieldAndSupplyKept)

theorem State.settle_leavesTo (task : SampleTask) (p : Phase) (s : State) : LeavesTo task s (s.settle p) :=
  .of_phaseFrame (s.settle_phaseFrame p) State.settle_mark (s.settle_keepsTripHold p)
    (.of_fieldAndSupplyKept (s.settle_fieldAndSupplyKept p))

theorem State.urgent_leavesTo (task : SampleTask) (s : State) : LeavesTo task s s.urgent :=
  .of_phaseFrame s.urgent_phaseFrame State.urgent_mark s.urgent_keepsTripHold (by simp [FieldKept])

theorem State.presentSupply_leavesTo (task : SampleTask) (p : Bool) (s : State) : LeavesTo task s (s.presentSupply p) := by
  refine .of_phaseFrame (s.presentSupply_phaseFrame p) State.presentSupply_mark (s.presentSupply_keepsTripHold p) ?_
  unfold State.presentSupply
  split <;> simp [FieldKept]

theorem State.settled_presentSupply_leavesTo (task : SampleTask) (p : Bool) (s : State) :
    LeavesTo task s (s.settled (State.presentSupply p)) :=
  (s.presentSupply_leavesTo task p).trans (State.settle_leavesTo task _ _)

/-- A change of the Coordination Unit alone. -/
theorem LeavesTo.of_coord {task : SampleTask} {s : State} {c : Coordination}
    (h : task = .uplift → c.uplift = s.coord.uplift) : LeavesTo task s { s with coord := c } := by
  refine ⟨⟨?_, rfl, rfl, rfl, rfl, id, .of_stage_eq rfl rfl rfl⟩, fun _ => ⟨rfl, rfl⟩, h, fun _ => rfl⟩
  intro b hb
  cases b <;> first | rfl | simp at hb

/-- A change of the stage record that leaves what OPEN fixed and what a hold rests on, with changes of the reckoning, the
counters, the fault record away from OVERPRESSURE and the Sequencer's runs. -/
theorem LeavesTo.of_stage {task : SampleTask} {s t : State} {f : StageRecord → StageRecord}
    (hblocks : OnlyChanges [.seq, .env, .take, .faults] s t) (hstage : t.seq.stage = s.seq.stage.map f)
    (hopened : ∀ st, (f st).asOpened = st.asOpened)
    (hheld : ∀ st, (f st).phase = st.phase ∧ (f st).restraints = st.restraints ∧ (f st).results = st.results)
    (hcounter : t.seq.counter = s.seq.counter) (hkept : t.seq.kept = s.seq.kept)
    (hfaults : t.faults.get .overpressure = s.faults.get .overpressure) : LeavesTo task s t := by
  have hreg : t.reg = s.reg := hblocks .reg (by simp)
  have hlink : t.link = s.link := hblocks .link (by simp)
  have hcoord : t.coord = s.coord := hblocks .coord (by simp)
  have htrip : KeepsTripHold s t :=
    (State.modStage_keepsTripHold hheld s).trans (.of_stage_eq hstage (by rw [hreg]; rfl) (by rw [hreg]; rfl))
  refine ⟨⟨hblocks.mono (by simp), by rw [hreg], by rw [hreg], hcounter, ?_, by rw [hlink]; exact id, htrip⟩,
    fun _ => by simp [FieldKept, hkept], fun _ => by rw [hcoord], fun _ => hfaults⟩
  rw [hstage]
  cases s.seq.stage <;> simp [hopened]

/-! ## Part by part -/

theorem State.modStage_leavesTo {f : StageRecord → StageRecord} (task : SampleTask)
    (hopened : ∀ st, (f st).asOpened = st.asOpened)
    (hheld : ∀ st, (f st).phase = st.phase ∧ (f st).restraints = st.restraints ∧ (f st).results = st.results) (s : State) :
    LeavesTo task s (s.modStage f) := by
  refine .of_stage ?_ (s.modStage_stage f) hopened hheld rfl rfl rfl
  intro b hb
  cases b <;> first | rfl | simp at hb

/-- The confirmation run and the base pressure are the Sequencer's own. -/
theorem LeavesTo.of_runs (task : SampleTask) (s : State) (n : Nat) (p : Option Int) :
    LeavesTo task s { s with seq := { s.seq with confirmRun := n, basePressure := p } } := by
  refine .of_stage (f := id) ?_ (by simp) (fun _ => rfl) (fun _ => ⟨rfl, rfl, rfl⟩) rfl rfl rfl
  intro b hb
  cases b <;> first | rfl | simp at hb

/-- R89: a confirmation changes the stage record and tells the link. -/
theorem State.confirmMix_leavesTo (task : SampleTask) (m : Nat) (s : State) : LeavesTo task s (s.confirmMix m) := by
  have hconfirmed := State.modStage_leavesTo
    (f := fun st => { st with history := modNewest (fun x => { x with confirmed := true }) st.history })
    task (fun _ => rfl) (fun _ => ⟨rfl, rfl, rfl⟩) s
  have hcurrent (t : State) := (State.modStage_leavesTo
    (f := fun st => { st with currentMix := some m, pendingMix := none })
    task (fun _ => rfl) (fun _ => ⟨rfl, rfl, rfl⟩) t).trans (.of_runs task _ 0 none)
  unfold State.confirmMix State.makeCurrent
  simp only
  split
  · exact (hconfirmed.trans (hcurrent _)).trans (State.urgent_leavesTo task _)
  · exact hconfirmed.trans (hcurrent _)

theorem State.sampleConfirm_leavesTo (task : SampleTask) (s : State) : LeavesTo task s s.sampleConfirm := by
  unfold State.sampleConfirm
  split
  · exact .refl task s
  · split
    · split
      · exact s.confirmMix_leavesTo task _
      · exact .of_runs task s _ s.seq.basePressure
    · exact .of_runs task s _ s.seq.basePressure

theorem State.makeCurrent_stage (m : Nat) (s : State) :
    (s.makeCurrent m).seq.stage = s.seq.stage.map fun st => { st with currentMix := some m, pendingMix := none } := by
  unfold State.makeCurrent
  simp only
  split <;> simp [State.modStage_stage]

theorem State.makeCurrent_phase (m : Nat) (s : State) : (s.makeCurrent m).phase = s.phase :=
  (State.phase_congr ((s.makeCurrent_stage m).trans (s.modStage_stage _).symm)).trans
    (State.modStage_phase (by intro st; rfl) s)

/-- A confirmation moves no phase. -/
theorem State.sampleConfirm_phase (s : State) : s.sampleConfirm.phase = s.phase := by
  unfold State.sampleConfirm
  split
  · rfl
  · split
    · split
      · exact (State.makeCurrent_phase _ _).trans (State.modStage_phase (by intro st; rfl) s)
      · rfl
    · rfl

/-- R41, R43: the Envelope Unit takes the set into its own block. -/
theorem State.offerSet_leavesTo (task : SampleTask) (set : SampleSet) (s : State) : LeavesTo task s (s.offerSet set) := by
  refine .of_stage (f := id) ?_ (by simp) (fun _ => rfl) (fun _ => ⟨rfl, rfl, rfl⟩) (by simp) (by simp) (by simp)
  intro b hb
  cases b <;> simp at hb <;> simp [sameBlock]

/-- R106: COUNT_SATURATED is the only kind that a counter reports. -/
theorem State.noteSaturation_faults_of_ne {k : FaultKind} (h : k ≠ .countSaturated) (hit flag : Bool)
    (set : Saturated → Saturated) (s : State) : (s.noteSaturation hit flag set).faults.get k = s.faults.get k := by
  unfold State.noteSaturation
  split
  · rw [State.report_get_of_ne h]
    simp
  · rfl

theorem State.sampleCounters_faults_of_ne {k : FaultKind} (h : k ≠ .countSaturated) (flow gauge stroke : Nat) (s : State) :
    (s.sampleCounters flow gauge stroke).faults.get k = s.faults.get k := by
  unfold State.sampleCounters
  simp only
  (repeat' split) <;>
    simp [State.countGrout, State.countWater, State.countStrokes, State.noteSaturation_faults_of_ne h]

/-- R86, R101: of the stage record the Take Counters touch the volumes of the mix history alone. -/
theorem State.sampleCounters_seq (flow gauge stroke : Nat) (s : State) :
    ∃ f : StageRecord → StageRecord, (s.sampleCounters flow gauge stroke).seq = (s.modStage f).seq
      ∧ (∀ st, (f st).asOpened = st.asOpened)
      ∧ ∀ st, (f st).phase = st.phase ∧ (f st).restraints = st.restraints ∧ (f st).results = st.results := by
  by_cases h : s.phase = .injecting ∨ s.phase = .holding
  · let units := (s.take.remGrout + flow) / 600
    let f : StageRecord → StageRecord := fun st =>
      { st with history := modNewest (fun x => { x with volume := raise32 x.volume units }) st.history }
    have hgrout : (s.countGrout flow).seq = (s.modStage f).seq := by
      simp only [State.countGrout, State.noteSaturation_frame]
      rfl
    refine ⟨f, Eq.trans ?_ hgrout, fun _ => rfl, fun _ => ⟨rfl, rfl, rfl⟩⟩
    unfold State.sampleCounters
    simp only [h, if_true]
    (repeat' split) <;> simp
  · refine ⟨id, ?_, fun _ => rfl, fun _ => ⟨rfl, rfl, rfl⟩⟩
    unfold State.sampleCounters
    simp only [h, if_false]
    (repeat' split) <;> simp [State.modStage]

theorem State.sampleCounters_leavesTo (task : SampleTask) (flow gauge stroke : Nat) (s : State) :
    LeavesTo task s (s.sampleCounters flow gauge stroke) := by
  have hblocks : OnlyChanges [.seq, .env, .take, .faults] s (s.sampleCounters flow gauge stroke) := by
    intro b hb
    cases b <;> simp at hb <;> simp [sameBlock]
  obtain ⟨f, h, hopened, hheld⟩ := s.sampleCounters_seq flow gauge stroke
  exact .of_stage hblocks (by rw [h]; rfl) hopened hheld (by rw [h]; rfl) (by rw [h]; rfl)
    (State.sampleCounters_faults_of_ne (by simp) flow gauge stroke s)

/-- The Take Counters move no phase. -/
theorem State.sampleCounters_phase (flow gauge stroke : Nat) (s : State) :
    (s.sampleCounters flow gauge stroke).phase = s.phase := by
  obtain ⟨f, h, -, hheld⟩ := s.sampleCounters_seq flow gauge stroke
  choose hphase _ using hheld
  exact (State.phase_congr (by rw [h])).trans (State.modStage_phase hphase s)

/-- R157: the reporter side changes its own runs, and an evaluation follows a report that starts or clears. -/
theorem State.sampleConnection_leavesTo (task : SampleTask) (s : State) : LeavesTo task s s.sampleConnection := by
  have hruns (c : Coordination) (h : c.uplift = s.coord.uplift) : LeavesTo task s { s with coord := c } :=
    .of_coord fun _ => h
  have htold (c : Coordination) (h : c.uplift = s.coord.uplift) :
      LeavesTo task s (State.evaluate (State.urgent { s with coord := c })) :=
    ((hruns c h).trans (State.urgent_leavesTo task _)).trans (State.evaluate_leavesTo task _)
  unfold State.sampleConnection
  split
  · split
    · exact hruns _ rfl
    · split
      · exact htold _ rfl
      · split
        · exact htold _ rfl
        · split <;> exact hruns _ rfl
  · exact .refl task s

/-- R167: the header-low run, and SUPPLY presented when it reaches its length. -/
theorem State.sampleHeader_leavesTo (task : SampleTask) (s : State) : LeavesTo task s s.sampleHeader := by
  have hrun (c : Coordination) (h : c.uplift = s.coord.uplift) : LeavesTo task s { s with coord := c } :=
    .of_coord fun _ => h
  unfold State.sampleHeader
  split
  · simp only
    generalize (if s.deliveredNat .header < s.conf.tag.hMin then min 20 (s.coord.headerRun + 1) else 0) = run
    split
    · exact (hrun _ (by rfl)).trans (State.settled_presentSupply_leavesTo task true _)
    · exact hrun _ rfl
  · exact .refl task s

/-- R161: the judgement of the own uplift, and the evaluation of a change of state. -/
theorem State.sampleUplift_leavesTo {task : SampleTask} (h : task ≠ .uplift) (s : State) :
    LeavesTo task s s.sampleUplift := by
  have hown (u : Uplift) : LeavesTo task s { s with coord := { s.coord with uplift := some u } } :=
    .of_coord fun ht => absurd ht h
  unfold State.sampleUplift
  split
  · split
    · exact .refl task s
    · simp only
      split
      · exact hown _
      · exact ((hown _).trans (State.urgent_leavesTo task _)).trans (State.evaluate_leavesTo task _)
  · exact .refl task s

/-- R14: the presentation of SENSOR and PACKER. -/
theorem State.settled_presentField_leavesTo {task : SampleTask} (h : task ≠ .field) (s : State) :
    LeavesTo task s (s.settled State.presentField) := by
  have hframe : SamplePartFrame s s.presentField :=
    .of_phaseFrame s.presentField_phaseFrame State.present_mark (State.present_keepsTripHold _ _ s)
  have hcoord : s.presentField.coord.uplift = s.coord.uplift := by
    obtain ⟨-, -, -, -, -, -, -, -, -, -, -, -, -, huplift, -⟩ := s.presentField_phaseFrame
    exact huplift
  have hpresented : LeavesTo task s s.presentField :=
    ⟨hframe, fun ht => absurd ht h, fun _ => hcoord, fun _ => by simp⟩
  exact hpresented.trans (State.settle_leavesTo task _ _)

/-- R15: when the trip fires. -/
theorem State.trips_iff (s : State) :
    s.trips = true ↔ s.phase.pumping = true ∧ s.conf.inForce = true ∧ s.failed .gauge = false
      ∧ s.conf.tag.gTrip ≤ s.deliveredNat .gauge := by
  simp [State.trips, and_assoc]

/-- R15: the trip stops the pump, reports OVERPRESSURE and brings TRIP. -/
theorem State.trip_leavesTo {task : SampleTask} (h : task ≠ .trip) {s : State} (hpump : s.phase.pumping = true) :
    LeavesTo task s s.trip := by
  let u : State := s.stopPump.report .overpressure (some (.channel .gauge))
  have hu : u.phase = s.phase := State.phase_congr (by simp [u])
  have hfree {t : State} : KeepsTripHold s t := by
    intro hheld
    cases hp : s.phase <;> simp [hp, Phase.pumping, Phase.restrained] at hpump hheld
  have hstop : LeavesTo task s u := by
    refine ⟨⟨?_, rfl, rfl, rfl, rfl, id, hfree⟩, fun _ => ⟨rfl, rfl⟩, fun _ => rfl, fun ht => absurd ht h⟩
    intro b hb
    cases b <;> first | rfl | simp at hb
  have hfree' : KeepsTripHold u (u.arrive .onlyTrip) := by
    intro hheld
    rw [hu] at hheld
    cases hp : s.phase <;> simp [hp, Phase.pumping, Phase.restrained] at hpump hheld
  have harrive : LeavesTo task u (u.arrive .onlyTrip) :=
    .of_phaseFrame (u.arrive_phaseFrame .onlyTrip) State.arrive_mark hfree' (by simp [FieldKept])
  exact (hstop.trans harrive).trans (State.settle_leavesTo task _ _)

/-- A part of a sample set leaves to another part what that part alone touches. -/
theorem State.sampleTask_leavesTo {task x : SampleTask} (h : x ≠ task) (set : SampleSet) (p : State × Nat) :
    LeavesTo task p.1 (State.sampleTask set x p).1 := by
  obtain ⟨s, stroke⟩ := p
  cases x with
  | trip =>
    simp only [State.sampleTask]
    split
    · next htrips =>
      obtain ⟨hpump, -⟩ := s.trips_iff.mp htrips
      exact State.trip_leavesTo h.symm hpump
    · exact .refl task s
  | field => exact s.settled_presentField_leavesTo h.symm
  | counters => exact s.sampleCounters_leavesTo task _ _ _
  | envelope => exact s.offerSet_leavesTo task _
  | confirm => exact s.sampleConfirm_leavesTo task
  | uplift => exact s.sampleUplift_leavesTo h.symm
  | connection => exact s.sampleConnection_leavesTo task
  | header => exact s.sampleHeader_leavesTo task

/-- The work of a sample set around one of its parts. -/
theorem State.sampleWork_around (task : SampleTask) (set : SampleSet) (ord : List SampleTask) (stroke : Nat) (s : State) :
    ∃ p : State × Nat, LeavesTo task s p.1 ∧ LeavesTo task (State.sampleTask set task p).1 (s.sampleWork set ord stroke) :=
  State.sampleWork_at task (LeavesTo.refl task) LeavesTo.trans (LeavesTo.refl task) LeavesTo.trans
    (fun _ hx p => State.sampleTask_leavesTo (ne_of_mem_takeWhile hx) set p)
    (fun _ hx p => State.sampleTask_leavesTo hx set p) stroke s

end Sys2Proof.Machine
end


section
/-! One sample set as a whole (01, O5 and O11). -/

namespace Sys2Proof.Machine

/-! ## What a sample set does, block by block -/

theorem State.working_congr {s t : State} (h : t.conf = s.conf) : t.working = s.working := by
  simp only [State.working, h]

theorem State.failed_congr {s t : State} (h : t.meas = s.meas) (ch : Channel) : t.failed ch = s.failed ch := by
  simp only [State.failed, h]

theorem State.deliveredNat_congr {s t : State} (h : t.meas = s.meas) (ch : Channel) :
    t.deliveredNat ch = s.deliveredNat ch := by
  simp only [State.deliveredNat, h]

/-- R1, R3: the time after an advance, as its sample set leaves it. -/
theorem Timebase.forSample_eq {t : Timebase} (h : t.boundaryDue = false) :
    t.forSample =
      if t.sampleDue then ⟨t.clock, t.tenths, false, false⟩
      else if t.tenths < 9 then ⟨t.clock, t.tenths + 1, false, false⟩
      else ⟨(t.clock + 1) % 4294967296, 0, false, true⟩ := by
  unfold Timebase.forSample Timebase.tick Timebase.rolls two32
  split
  · simp [h]
  · next hdue => split <;> simp_all

theorem State.sampleTask_frame (set : SampleSet) (x : SampleTask) (p : State × Nat) :
    SamplePartFrame p.1 (State.sampleTask set x p).1 := by
  by_cases h : x = .trip
  · obtain ⟨hframe, -⟩ := State.sampleTask_leavesTo (task := .field) (x := x) (by simp [h]) set p
    exact hframe
  · obtain ⟨hframe, -⟩ := State.sampleTask_leavesTo h set p
    exact hframe

theorem State.sampleWork_frame (set : SampleSet) (ord : List SampleTask) (stroke : Nat) (s : State) :
    SamplePartFrame s (s.sampleWork set ord stroke) :=
  List.foldlRecOn (motive := fun p : State × Nat => SamplePartFrame s p.1) _ _ (.refl s) fun p hp x _ =>
    hp.trans (State.sampleTask_frame set x p)

theorem SamplePartFrame.blocks {s t : State} (h : SamplePartFrame s t) :
    t.time = s.time ∧ t.meas = s.meas ∧ t.conf = s.conf := by
  obtain ⟨hblocks, -⟩ := h
  exact ⟨hblocks .time (by simp), hblocks .meas (by simp), hblocks .conf (by simp)⟩

/-- R14: after the work SENSOR stands presented exactly while GAUGE or FLOW is FAILED, and PACKER while SEAL is
deasserted. -/
theorem State.sampleWork_kept (set : SampleSet) (ord : List SampleTask) (stroke : Nat) (s : State) :
    (s.sampleWork set ord stroke).seq.kept.sensor = (s.failed .gauge || s.failed .flow)
      ∧ (s.sampleWork set ord stroke).seq.kept.packer = !s.meas.sealIn.accepted := by
  obtain ⟨p, ⟨hbefore, -⟩, -, hafter, -⟩ := s.sampleWork_around .field set ord stroke
  obtain ⟨-, hmeas, -⟩ := hbefore.blocks
  obtain ⟨hsensor, hpacker, -⟩ := p.1.settled_presentField_kept
  obtain ⟨ksensor, kpacker⟩ := hafter rfl
  rw [ksensor, kpacker]
  rw [State.failed_congr hmeas, State.failed_congr hmeas] at hsensor
  rw [hmeas] at hpacker
  exact ⟨hsensor, hpacker⟩

/-! ## The own uplift -/

/-- R161: the rows of the table, state by state. -/
theorem upliftAfter_eq_upliftRow (t : Tag) (before : UpliftState) (v : Int) :
    upliftAfter t before v = upliftRow t before v := by
  cases before <;> simp [upliftAfter, upliftRow]

theorem State.sampleUplift_uplift {s : State} {u : Uplift} (hw : s.working = true) (hf : s.upliftFitted = true)
    (hu : s.coord.uplift = some u) :
    s.sampleUplift.coord.uplift = some (s.upliftSample u)
      ∧ ((s.upliftSample u).state ≠ u.state → s.sampleUplift.link.urgent = true) := by
  let t : State := { s with coord := { s.coord with uplift := some (s.upliftSample u) } }
  have hto : s.sampleUplift = if (s.upliftSample u).state = u.state then t else t.urgent.evaluate := by
    simp only [State.sampleUplift, hw, hf, hu]
    rfl
  obtain ⟨-, -, -, -, -, -, -, -, -, -, -, -, -, huplift, -⟩ := t.urgent.evaluate_phaseFrame
  rw [hto]
  split
  · next hstands => exact ⟨rfl, fun h => absurd hstands h⟩
  · have hcoord : t.urgent.coord = t.coord := by simp
    exact ⟨by rw [huplift, hcoord], fun _ => State.evaluate_mark (State.urgent_sets_mark (s := t) hw)⟩

theorem State.sampleUplift_of_idle {s : State} (h : s.working = false ∨ s.upliftFitted = false) :
    s.sampleUplift = s := by
  rcases h with h | h <;> simp [State.sampleUplift, h]

/-- The own uplift after the work is what the judgement of one state makes of it, that has the channels, the settings and
the uplift of the state that the work begins from. -/
theorem State.sampleWork_uplift (set : SampleSet) (ord : List SampleTask) (stroke : Nat) (s : State) :
    ∃ x : State, x.meas = s.meas ∧ x.conf = s.conf ∧ x.coord.uplift = s.coord.uplift
      ∧ (s.sampleWork set ord stroke).coord.uplift = x.sampleUplift.coord.uplift
      ∧ (x.sampleUplift.link.urgent = true → (s.sampleWork set ord stroke).link.urgent = true) := by
  obtain ⟨p, ⟨hbefore, -, huplift, -⟩, ⟨-, -, -, -, -, hmark, -⟩, -, hafter, -⟩ :=
    s.sampleWork_around .uplift set ord stroke
  obtain ⟨-, hmeas, hconf⟩ := hbefore.blocks
  exact ⟨p.1, hmeas, hconf, huplift rfl, hafter rfl, hmark⟩

/-- R161: the own uplift of a working station with the gauge fitted. -/
theorem State.sampleWork_uplift_judged (set : SampleSet) (ord : List SampleTask) (stroke : Nat) {s : State} {u : Uplift}
    (hw : s.working = true) (hf : s.upliftFitted = true) (hu : s.coord.uplift = some u) :
    (s.sampleWork set ord stroke).coord.uplift = some (s.upliftSample u)
      ∧ ((s.upliftSample u).state ≠ u.state → (s.sampleWork set ord stroke).link.urgent = true) := by
  obtain ⟨x, hmeas, hconf, huplift, hto, hmark⟩ := s.sampleWork_uplift set ord stroke
  have hsample : x.upliftSample u = s.upliftSample u := by
    unfold State.upliftSample State.failed
    rw [hmeas, hconf]
  obtain ⟨hjudged, hurgent⟩ := State.sampleUplift_uplift (s := x) ((State.working_congr hconf).trans hw)
    (by simpa only [State.upliftFitted, hconf] using hf) (huplift.trans hu)
  rw [hsample] at hjudged hurgent
  exact ⟨hto.trans hjudged, hmark ∘ hurgent⟩

/-- R148: on any other station the own uplift stands. -/
theorem State.sampleWork_uplift_stands (set : SampleSet) (ord : List SampleTask) (stroke : Nat) {s : State}
    (h : s.working = false ∨ s.upliftFitted = false) :
    (s.sampleWork set ord stroke).coord.uplift = s.coord.uplift := by
  obtain ⟨x, -, hconf, huplift, hto, -⟩ := s.sampleWork_uplift set ord stroke
  have hidle : x.working = false ∨ x.upliftFitted = false := by
    simpa only [State.working, State.upliftFitted, hconf] using h
  rw [hto, State.sampleUplift_of_idle hidle, huplift]

/-! ## The trip -/

/-- The work around the trip: it is judged on the phase, the channels and the settings that the work begins with, and all
that follows leaves what it did. -/
theorem State.sampleWork_trip (set : SampleSet) (ord : List SampleTask) (stroke : Nat) (s : State) :
    ∃ x : State, x.phase = s.phase ∧ SamplePartFrame s x ∧ x.faults.get .overpressure = s.faults.get .overpressure
      ∧ LeavesTo .trip (if x.trips then x.trip else x) (s.sampleWork set ord stroke) := by
  have hmoves : ∀ x ∈ (sampleSchedule ord).takeWhile (· ≠ .trip), ∀ p : State × Nat,
      LeavesTo .trip p.1 (State.sampleTask set x p).1 ∧ (State.sampleTask set x p).1.phase = p.1.phase := by
    intro x hx p
    refine ⟨State.sampleTask_leavesTo (ne_of_mem_takeWhile hx) set p, ?_⟩
    rcases before_trip ord x hx with rfl | rfl | rfl
    · exact State.sampleCounters_phase _ _ _ _
    · exact State.phase_congr (by simp [State.sampleTask])
    · exact State.sampleConfirm_phase _
  obtain ⟨p, ⟨⟨hframe, -, -, hfaults⟩, hphase⟩, hafter⟩ := State.sampleWork_at .trip
    (R := fun a b => LeavesTo .trip a b ∧ b.phase = a.phase) (fun s => ⟨.refl _ s, rfl⟩)
    (fun ⟨h, hp⟩ ⟨k, kp⟩ => ⟨h.trans k, kp.trans hp⟩) (LeavesTo.refl .trip) LeavesTo.trans hmoves
    (fun _ hx p => State.sampleTask_leavesTo hx set p) stroke s
  refine ⟨p.1, hphase, hframe, hfaults rfl, ?_⟩
  have htrip : (State.sampleTask set .trip p).1 = if p.1.trips then p.1.trip else p.1 := by
    simp only [State.sampleTask]
    split <;> rfl
  rwa [← htrip]

/-! ## Settled -/

/-- Settles O5: the advance, the inputs judged one by one, and the work, whose parts leave all but their own. -/
theorem sampleSetAdvancesAndJudges : Obligations.SampleSetAdvancesAndJudges := by
  intro inp ord s hdue
  refine ⟨s.sampleSet inp ord, rfl, ?_⟩
  rw [State.sampleSet_eq hdue]
  have hfound := s.judged_onlyChanges inp ord
  have hconf : (s.judged inp ord).conf = s.conf := hfound .conf (by simp)
  have hcoord : (s.judged inp ord).coord = s.coord := hfound .coord (by simp)
  have hreg : (s.judged inp ord).reg = s.reg := hfound .reg (by simp)
  have hseq : (s.judged inp ord).seq = s.seq := hfound .seq (by simp)
  have hworking : (s.judged inp ord).working = s.working := State.working_congr hconf
  have hfitted : (s.judged inp ord).upliftFitted = s.upliftFitted := by simp only [State.upliftFitted, hconf]
  obtain ⟨hchannels, hseal, hleak, hkey, hlatest, hnext⟩ := s.judged_meas inp ord
  have hframe := (s.judged inp ord).sampleWork_frame (s.judgedSet inp ord) ord.tasks s.reg.stroke
  obtain ⟨htime, hmeas, -⟩ := hframe.blocks
  obtain ⟨hsensor, hpacker⟩ := (s.judged inp ord).sampleWork_kept (s.judgedSet inp ord) ord.tasks s.reg.stroke
  have hjudged := @State.sampleWork_uplift_judged (s.judgedSet inp ord) ord.tasks s.reg.stroke (s.judged inp ord)
  have hstands := @State.sampleWork_uplift_stands (s.judgedSet inp ord) ord.tasks s.reg.stroke (s.judged inp ord)
  obtain ⟨hblocks, hcommanded, hreached, hcounter, hopened, -, -⟩ := hframe
  have hall := (hfound.mono (m := [.time, .meas, .seq, .env, .reg, .take, .link, .coord, .faults]) (by simp)).trans
    (hblocks.mono (by simp))
  generalize (s.judged inp ord).sampleWork (s.judgedSet inp ord) ord.tasks s.reg.stroke = t at *
  refine ⟨?_, fun ch => ?_, ?_, ?_, ?_, ?_, ?_, ?_, ?_, ?_, ?_, ?_, ?_, ?_, ?_, hall⟩
  · rw [htime, s.judged_time inp ord, Timebase.forSample_eq hdue]
  · rw [hmeas, hchannels]
  · rw [hmeas, hseal]
  · rw [hmeas, hleak]
  · rw [hmeas, hkey]
  · simp only [State.deliveredNat, State.failed, hmeas, htime, hlatest]
    rfl
  · rw [hmeas, hnext]
  · rw [hsensor, State.failed_congr hmeas, State.failed_congr hmeas]
  · rw [hpacker, hmeas]
  · intro u hw hf hu
    obtain ⟨huplift, hmark⟩ := hjudged (hworking.trans hw) (hfitted.trans hf) (hcoord ▸ hu)
    rw [huplift, State.failed_congr hmeas, hmeas]
    refine ⟨fun hfail => ?_, fun v hvalid hv => ?_, fun hchange => hmark ?_⟩
    · simp [State.upliftSample, hfail]
    · simp [State.upliftSample, hvalid, hv, upliftAfter_eq_upliftRow, hconf]
    · simpa using hchange
  · intro hidle
    rw [hstands (by rwa [hworking, hfitted]), hcoord]
  · rw [hcommanded, hreg]
  · rw [hreached, hreg]
  · rw [hcounter, hseq]
  · rw [hopened, hseq]

/-- Settles O11: the trip is judged on what the set finds, and no later part of the set ends the hold of TRIP. -/
theorem overpressureTrips : Obligations.OverpressureTrips := by
  intro inp ord s hdue
  refine ⟨s.sampleSet inp ord, rfl, ?_⟩
  rw [State.sampleSet_eq hdue]
  have hfound := s.judged_onlyChanges inp ord
  obtain ⟨x, hphase, hbefore, hfaults, hafter, -, -, hstands⟩ :=
    (s.judged inp ord).sampleWork_trip (s.judgedSet inp ord) ord.tasks s.reg.stroke
  generalize (s.judged inp ord).sampleWork (s.judgedSet inp ord) ord.tasks s.reg.stroke = t at *
  obtain ⟨htime, hmeas, hconf⟩ := hbefore.blocks
  have hpressure : x.faults.get .overpressure = s.faults.overpressure :=
    hfaults.trans (State.judged_faults_of_ne (by simp) inp ord s)
  have hxphase : x.phase = s.phase :=
    hphase.trans (State.phase_congr (by rw [show (s.judged inp ord).seq = s.seq from hfound .seq (by simp)]))
  have hxconf : x.conf = s.conf := hconf.trans (hfound .conf (by simp))
  obtain ⟨ktime, kmeas⟩ : (if x.trips then x.trip else x).time = x.time
      ∧ (if x.trips then x.trip else x).meas = x.meas := by
    split <;> simp
  obtain ⟨httime, htmeas, -⟩ := hafter.blocks
  rw [ktime] at httime
  rw [kmeas] at htmeas
  have hfires := x.trips_iff
  rw [hxphase, hxconf, ← State.failed_congr htmeas, ← State.deliveredNat_congr htmeas] at hfires
  have hentry : t.faults.get .overpressure = _ := hstands rfl
  cases htrips : x.trips with
  | false =>
    rw [if_neg (by rw [← hfires, htrips]; simp)]
    rw [htrips] at hentry
    exact hentry.trans hpressure
  | true =>
    rw [if_pos (hfires.mp htrips)]
    obtain ⟨hpump, -⟩ := x.trips_iff.mp htrips
    obtain ⟨hheld, htrip, hstroke, hvalve, htesting, hinjecting⟩ := State.trip_holds hpump
    obtain ⟨-, -, -, -, -, -, hkeeps⟩ := hafter
    simp only [htrips, if_true] at hkeeps hentry
    obtain ⟨kphase, ktrip, kstroke, kvalve, kresults⟩ := hkeeps hheld htrip
    rw [kphase, kstroke, kvalve, kresults, hstroke, hvalve]
    rw [hxphase] at htesting hinjecting
    have hreport : t.faults.overpressure = s.faults.overpressure.report t.time.clock (some (.channel .gauge)) := by
      rw [httime, ← hpressure, ← State.report_get_same, ← State.trip_faults]
      exact hentry
    refine ⟨rfl, rfl, ktrip, htesting, hinjecting, fun hmasked => ?_, by simp [State.relayClosed, ktrip]⟩
    obtain ⟨-, hdetail, hlast⟩ := FaultEntry.report_unmasked hmasked t.time.clock (some (.channel .gauge))
    rw [hreport]
    exact ⟨hdetail, hlast⟩

end Sys2Proof.Machine
end


section
/-! One second boundary as a whole (06, O25): what every part but that of the Take Counters leaves, and the work of the
Take Counters (R104, R106 to R110). -/

namespace Sys2Proof.Machine

/-! ## The Take Counters at a boundary -/

theorem FaultEntry.report_eq_afterReports (e : FaultEntry) (clock : Nat) :
    e.report clock none = e.afterReports 1 clock := by
  unfold FaultEntry.report FaultEntry.afterReports
  cases hmasked : e.masked with
  | true => simp
  | false =>
    have hcount : satSucc 255 e.count = max e.count (min 255 (e.count + 1)) := by
      unfold satSucc
      split <;> omega
    simp [hcount]

theorem FaultEntry.afterReports_zero (e : FaultEntry) (clock : Nat) : e.afterReports 0 clock = e := by
  simp [FaultEntry.afterReports]

/-- R106: a hit leaves its flag set, whether it stood so or not. -/
theorem State.noteSaturation_take {hit flag : Bool} {set : Saturated → Saturated} {s : State}
    (h : flag = true ↔ set s.take.live.saturated = s.take.live.saturated) :
    (s.noteSaturation hit flag set).take = { s.take with live := { s.take.live with
      saturated := if hit then set s.take.live.saturated else s.take.live.saturated } } := by
  unfold State.noteSaturation
  cases hit with
  | false => simp
  | true =>
    cases flag with
    | false => simp [State.modLive]
    | true => simp [h.mp rfl]

/-- R106: COUNT_SATURATED is reported exactly where a flag is newly set. -/
theorem State.noteSaturation_reports {hit flag : Bool} {set : Saturated → Saturated} {s : State}
    (h : flag = true ↔ set s.take.live.saturated = s.take.live.saturated) :
    (s.noteSaturation hit flag set).faults.get .countSaturated
      = (s.faults.get .countSaturated).afterReports
          (if (s.noteSaturation hit flag set).take.live.saturated = s.take.live.saturated then 0 else 1)
          s.time.clock := by
  rw [State.noteSaturation_take h]
  unfold State.noteSaturation
  cases hit with
  | false => simp [FaultEntry.afterReports_zero]
  | true =>
    cases flag with
    | false =>
      have hnew : set s.take.live.saturated ≠ s.take.live.saturated := fun heq => Bool.noConfusion (h.mpr heq)
      simp [hnew, State.report_get_same, FaultEntry.report_eq_afterReports]
    | true => simp [h.mp rfl, FaultEntry.afterReports_zero]

theorem Saturated.waiting_set_iff (x : Saturated) : x.waiting = true ↔ { x with waiting := true } = x :=
  ⟨fun h => by rw [← h], fun h => (congrArg Saturated.waiting h).symm⟩

theorem Saturated.injecting_set_iff (x : Saturated) : x.injecting = true ↔ { x with injecting := true } = x :=
  ⟨fun h => by rw [← h], fun h => (congrArg Saturated.injecting h).symm⟩

theorem Saturated.holding_set_iff (x : Saturated) : x.holding = true ↔ { x with holding := true } = x :=
  ⟨fun h => by rw [← h], fun h => (congrArg Saturated.holding h).symm⟩

theorem reaches32_one (n : Nat) : reaches32 n 1 = decide (4294967295 ≤ n + 1) := by
  simp [reaches32, max32]

theorem raise32_one (n : Nat) : raise32 n 1 = min 4294967295 (n + 1) := rfl

/-- R104: the second is counted in the phase found. -/
theorem State.countSecond_take (s : State) :
    s.countSecond.take =
      { s.take with live := { s.take.live with
          secWaiting := if s.phase = .waiting then min 4294967295 (s.take.live.secWaiting + 1) else s.take.live.secWaiting
          secInjecting :=
            if s.phase = .injecting then min 4294967295 (s.take.live.secInjecting + 1) else s.take.live.secInjecting
          secHolding := if s.phase = .holding then min 4294967295 (s.take.live.secHolding + 1) else s.take.live.secHolding
          saturated := { s.take.live.saturated with
            waiting := s.take.live.saturated.waiting
              || (decide (s.phase = .waiting) && decide (4294967295 ≤ s.take.live.secWaiting + 1))
            injecting := s.take.live.saturated.injecting
              || (decide (s.phase = .injecting) && decide (4294967295 ≤ s.take.live.secInjecting + 1))
            holding := s.take.live.saturated.holding
              || (decide (s.phase = .holding) && decide (4294967295 ≤ s.take.live.secHolding + 1)) } } } := by
  unfold State.countSecond
  cases hp : s.phase with
  | waiting =>
    simp only
    rw [State.noteSaturation_take (Saturated.waiting_set_iff _), reaches32_one]
    by_cases hit : 4294967295 ≤ s.take.live.secWaiting + 1 <;> simp [hit, State.modLive, raise32_one]
  | injecting =>
    simp only
    rw [State.noteSaturation_take (Saturated.injecting_set_iff _), reaches32_one]
    by_cases hit : 4294967295 ≤ s.take.live.secInjecting + 1 <;> simp [hit, State.modLive, raise32_one]
  | holding =>
    simp only
    rw [State.noteSaturation_take (Saturated.holding_set_iff _), reaches32_one]
    by_cases hit : 4294967295 ≤ s.take.live.secHolding + 1 <;> simp [hit, State.modLive, raise32_one]
  | vacant => simp
  | packed => simp
  | testing => simp
  | closed => simp

/-- R106: the report of a second that saturates its counter. -/
theorem State.countSecond_reports (s : State) :
    s.countSecond.faults.get .countSaturated
      = (s.faults.get .countSaturated).afterReports
          (if s.countSecond.take.live.saturated = s.take.live.saturated then 0 else 1) s.time.clock := by
  unfold State.countSecond
  cases s.phase with
  | waiting => exact State.noteSaturation_reports (Saturated.waiting_set_iff _)
  | injecting => exact State.noteSaturation_reports (Saturated.injecting_set_iff _)
  | holding => exact State.noteSaturation_reports (Saturated.holding_set_iff _)
  | vacant => simp [FaultEntry.afterReports_zero]
  | packed => simp [FaultEntry.afterReports_zero]
  | testing => simp [FaultEntry.afterReports_zero]
  | closed => simp [FaultEntry.afterReports_zero]

/-- R108: whether the closing window may raise the stage's p-p peak. -/
theorem State.peakCounts_iff (s : State) :
    s.peakCounts = true ↔ s.phase ≠ .vacant ∧ s.phase ≠ .closed ∧ s.take.window.pumping = true := by
  simp [State.peakCounts, State.isOpen, and_assoc]

/-- The counting of a second touches no phase and no window, so it does not bear on the peak. -/
theorem State.countSecond_peakCounts (s : State) : s.countSecond.peakCounts = s.peakCounts := by
  have hphase : s.countSecond.phase = s.phase := State.phase_congr (by simp)
  simp only [State.peakCounts, State.isOpen, hphase, s.countSecond_take]

/-- R104, R108: counters, peak and last second after the work of the Take Counters. -/
theorem State.boundaryCounters_take (s : State) :
    s.boundaryCounters.take.second = s.take.window.close ∧ s.boundaryCounters.take.window = .fresh
      ∧ s.boundaryCounters.take.live = { s.countSecond.take.live with
          ppPeak :=
            if s.phase ≠ .vacant ∧ s.phase ≠ .closed ∧ s.take.window.pumping = true then
              max s.take.live.ppPeak (s.take.window.close.pp.getD 0)
            else s.take.live.ppPeak } := by
  have hclosed : s.boundaryCounters.take.second = s.countSecond.closeWindow.take.second
      ∧ s.boundaryCounters.take.window = s.countSecond.closeWindow.take.window
      ∧ s.boundaryCounters.take.live = s.countSecond.closeWindow.take.live := by
    unfold State.boundaryCounters
    simp only
    split <;> exact ⟨rfl, rfl, rfl⟩
  obtain ⟨hsecond, hwindow, hlive⟩ := hclosed
  rw [hsecond, hwindow, hlive]
  refine ⟨?_, rfl, ?_⟩
  · simp only [State.closeWindow, s.countSecond_take]
  · simp only [State.closeWindow, s.countSecond_peakCounts, s.peakCounts_iff, s.countSecond_take]

/-- R109, R110: the HELD copy is of this boundary while AUTO is on, and stands while it is off. -/
theorem State.boundaryCounters_held (s : State) :
    (s.take.autoCopy = true →
        s.boundaryCounters.take.held.time = some (s.time.clock, s.time.tenths)
          ∧ s.boundaryCounters.take.held.cause = .auto
          ∧ s.boundaryCounters.take.held.second = s.boundaryCounters.take.second
          ∧ s.boundaryCounters.take.held.record = s.env.record)
      ∧ (s.take.autoCopy = false → s.boundaryCounters.take.held = s.take.held) := by
  have hauto : s.countSecond.closeWindow.take.autoCopy = s.take.autoCopy := by
    simp only [State.closeWindow, s.countSecond_take]
  have hheld : s.countSecond.closeWindow.take.held = s.take.held := by
    simp only [State.closeWindow, s.countSecond_take]
  unfold State.boundaryCounters
  simp only [hauto]
  refine ⟨fun h => ?_, fun h => ?_⟩
  · simp [h, State.takeCopy]
  · simpa [h] using hheld

theorem State.boundaryCounters_reports (s : State) :
    s.boundaryCounters.faults.get .countSaturated
      = (s.faults.get .countSaturated).afterReports
          (if s.boundaryCounters.take.live.saturated = s.take.live.saturated then 0 else 1) s.time.clock := by
  obtain ⟨-, -, hlive⟩ := s.boundaryCounters_take
  have hfaults : s.boundaryCounters.faults = s.countSecond.faults := by
    unfold State.boundaryCounters
    simp only
    split <;> simp
  rw [hfaults, hlive]
  exact s.countSecond_reports

/-! ## The other parts -/

/-- What every part of a second boundary but the Take Counters' leaves as it is. -/
def LeavesToCounters (s t : State) : Prop :=
  t.time = s.time ∧ t.meas = s.meas ∧ t.env = s.env ∧ t.take = s.take ∧ t.panel = s.panel ∧ t.pending = s.pending
    ∧ t.faults.get .countSaturated = s.faults.get .countSaturated

theorem LeavesToCounters.refl (s : State) : LeavesToCounters s s := ⟨rfl, rfl, rfl, rfl, rfl, rfl, rfl⟩

theorem LeavesToCounters.trans {a b c : State} (h : LeavesToCounters a b) (k : LeavesToCounters b c) :
    LeavesToCounters a c := by
  obtain ⟨h1, h2, h3, h4, h5, h6, h7⟩ := h
  obtain ⟨k1, k2, k3, k4, k5, k6, k7⟩ := k
  exact ⟨k1.trans h1, k2.trans h2, k3.trans h3, k4.trans h4, k5.trans h5, k6.trans h6, k7.trans h7⟩

/-- R181: a load that the boundary completes as ABSENT touches the configuration and CONFIG_BAD. -/
theorem State.boundaryTag_leavesToCounters (s : State) : LeavesToCounters s s.boundaryTag := by
  unfold State.boundaryTag
  split
  · refine ⟨by simp, ?_, by simp, by simp, by simp, by simp, ?_⟩
    · simp [State.loadCompleted]
    · simp only [State.loadCompleted, State.unconfigure]
      rw [State.report_get_of_ne (by simp), State.setPresent_get_of_ne (by simp)]
  · exact .refl s

/-- R90: the timeout of a mix reports MIX_TIMEOUT; nothing else of the Sequencer's work is reported. -/
theorem State.boundarySequencer_countSaturated (s : State) :
    s.boundarySequencer.faults.get .countSaturated = s.faults.get .countSaturated := by
  unfold State.boundarySequencer
  split
  · simp
  · unfold State.boundaryMix
    split
    · split
      · simp only [State.timeoutMix, State.makeCurrent_frame, State.modStage_frame]
        exact State.report_get_of_ne (by simp) _ s
      · simp
    · rfl
  · rfl

theorem State.reportAll_countSaturated (l : List Entry) (s : State) :
    (l.foldl State.reportSilent s).faults.get .countSaturated = s.faults.get .countSaturated := by
  refine List.foldlRecOn (motive := fun t : State => t.faults.get .countSaturated = s.faults.get .countSaturated)
    l _ rfl fun t ht e _ => Eq.trans ?_ ht
  unfold State.reportSilent
  split
  · exact State.report_get_of_ne (by simp) _ t
  · rfl

theorem State.ageEntries_countSaturated (n : Nat) (s : State) :
    (s.ageEntries n).faults.get .countSaturated = s.faults.get .countSaturated := by
  unfold State.ageEntries
  simp only
  split
  · rfl
  · simp [State.reportAll_countSaturated]

/-- R185: only condition kinds have their last-seen time refreshed. -/
theorem State.boundaryFaults_countSaturated (s : State) :
    s.boundaryFaults.faults.get .countSaturated = s.faults.get .countSaturated := rfl

theorem State.boundaryDuplicate_countSaturated (s : State) :
    s.boundaryDuplicate.faults.get .countSaturated = s.faults.get .countSaturated := by
  unfold State.boundaryDuplicate
  split
  · simp only [State.clearDuplicate, State.evaluate_frame]
    exact State.setPresent_get_of_ne (by simp) _ _
  · rfl

theorem State.boundaryTask_leavesToCounters {task : BoundaryTask} (h : task ≠ .counters) (n : Nat) (s : State) :
    LeavesToCounters s (s.boundaryTask n task) := by
  cases task with
  | tagTimeout => exact s.boundaryTag_leavesToCounters
  | sequencer =>
    refine ⟨?_, ?_, ?_, ?_, ?_, ?_, ?_⟩
    case refine_7 => simpa [State.boundaryTask, State.settled] using s.boundarySequencer_countSaturated
    all_goals simp [State.boundaryTask, State.settled]
  | counters => exact absurd rfl h
  | duplicate =>
    exact ⟨by simp, by simp [State.boundaryTask], by simp, by simp [State.boundaryTask], by simp, by simp,
      s.boundaryDuplicate_countSaturated⟩
  | aging =>
    exact ⟨by simp, by simp [State.boundaryTask], by simp, by simp [State.boundaryTask], by simp, by simp,
      s.ageEntries_countSaturated n⟩
  | coordination =>
    exact ⟨by simp, by simp [State.boundaryTask], by simp, by simp [State.boundaryTask], by simp, by simp,
      by simp [State.boundaryTask]⟩
  | faults =>
    exact ⟨by simp, by simp [State.boundaryTask], by simp, by simp [State.boundaryTask], by simp, by simp,
      s.boundaryFaults_countSaturated⟩

/-! ## The boundary -/

/-- The boundary around the work of the Take Counters, which comes once: they find the phase of R104, the parts before
them have left them all else, and the parts after them leave what they did. -/
theorem State.boundaryWork_around_counters (ord : BoundaryOrder) (s : State) :
    ∃ u : State, u.phase = s.phaseAtBoundary ord ∧ LeavesToCounters s.atNewSecond u
      ∧ LeavesToCounters u.boundaryCounters (s.atNewSecond.boundaryWork ord) := by
  obtain ⟨post, heq, hpost⟩ :=
    eq_takeWhile_append_cons (mem_boundarySchedule .counters ord.tasks) (nodup_boundarySchedule ord.tasks)
  refine ⟨((boundarySchedule ord.tasks).takeWhile (· ≠ .counters)).foldl
    (fun u task => u.boundaryTask ord.lastSilent task) s.atNewSecond, rfl, ?_, ?_⟩
  · exact List.foldlRecOn (motive := LeavesToCounters s.atNewSecond) _ _ (.refl _) fun t ht x hx =>
      ht.trans (State.boundaryTask_leavesToCounters (ne_of_mem_takeWhile hx) _ t)
  · unfold State.boundaryWork
    rw [heq, List.foldl_append, List.foldl_cons, ← heq]
    refine List.foldlRecOn (motive := LeavesToCounters _) _ _ (.refl _) fun t ht x hx =>
      ht.trans (State.boundaryTask_leavesToCounters ?_ _ t)
    rintro rfl
    exact hpost hx

/-- Counters first in the order find the phase as it was. -/
theorem State.phaseAtBoundary_of_first {ord : BoundaryOrder} (h : ord.tasks.head? = some .counters) (s : State) :
    s.phaseAtBoundary ord = s.phase := by
  unfold State.phaseAtBoundary
  rw [before_first_boundaryTask h]
  rfl

theorem State.boundaryPossible_iff (s : State) : s.time.boundaryPossible = true ↔ s.boundaryOpen := by
  simp [Timebase.boundaryPossible, Timebase.rolls, State.boundaryOpen]

/-- R1, R3: the time after an advance, as its second boundary leaves it. -/
theorem State.forBoundary_eq {s : State} (h : s.boundaryOpen) :
    s.time.forBoundary =
      if s.time.boundaryDue then ⟨s.time.clock, s.time.tenths, s.time.sampleDue, false⟩
      else ⟨(s.time.clock + 1) % 4294967296, 0, true, s.time.boundaryDue⟩ := by
  unfold Timebase.forBoundary
  split
  · rfl
  · next hdue =>
    have hrolls : ¬ s.time.tenths < 9 := by
      rcases h with hraised | ⟨hnine, -⟩
      · exact absurd hraised hdue
      · omega
    simp [Timebase.tick, hrolls, two32]

/-- R108: the swing of a window that holds a sample set, and of one that holds none. -/
theorem Window.close_pp (w : Window) :
    (∀ a b, w.gaugeMin = some a → w.gaugeMax = some b → w.close.pp = some (b - a))
      ∧ ((w.gaugeMin = none ∨ w.gaugeMax = none) → w.close.pp = none) := by
  refine ⟨fun a b ha hb => ?_, fun h => ?_⟩
  · simp [Window.close, ha, hb]
  · rcases h with h | h
    · simp [Window.close, h]
    · cases hmin : w.gaugeMin <;> simp [Window.close, h, hmin]

theorem exec_secondBoundary_of_open {s : State} (h : s.boundaryOpen) (ord : BoundaryOrder) :
    exec (.secondBoundary ord) s = .next (s.atNewSecond.boundaryWork ord) := by
  simp only [exec, execSecondBoundary, State.secondBoundary, s.boundaryPossible_iff.mpr h, if_true]
  rfl

theorem exec_secondBoundary_of_closed {s : State} (h : ¬ s.boundaryOpen) (ord : BoundaryOrder) :
    exec (.secondBoundary ord) s = .next s := by
  have himpossible : ¬ s.time.boundaryPossible = true := fun hp => h (s.boundaryPossible_iff.mp hp)
  simp only [exec, execSecondBoundary, State.secondBoundary, himpossible]
  rfl

/-- Settles O25: the Take Counters' work, once, on what they find; every other part leaves its results alone. -/
theorem secondBoundaryClosesWindow : Obligations.SecondBoundaryClosesWindow := by
  refine ⟨fun ord s hopen => ?_, fun ord s hdue hnone => exec_secondBoundary_of_closed ?_ ord⟩
  · refine ⟨_, exec_secondBoundary_of_open hopen ord, ?_⟩
    obtain ⟨u, hphase, ⟨ftime, fmeas, fenv, ftake, fpanel, fpending, ffaults⟩,
      ⟨htime, hmeas, henv, htake, hpanel, hpending, hfaults⟩⟩ := s.boundaryWork_around_counters ord
    generalize s.atNewSecond.boundaryWork ord = t at *
    obtain ⟨ktime, kmeas, -, kenv, -, -, -, -, kpanel, -, kpending⟩ := u.boundaryCounters_frame
    obtain ⟨hsecond, hwindow, hlive⟩ := u.boundaryCounters_take
    obtain ⟨hcopied, hstands⟩ := u.boundaryCounters_held
    have hreports := u.boundaryCounters_reports
    have hu : u.take = s.take := ftake
    have hut : t.time = u.time := htime.trans ktime
    rw [u.countSecond_take] at hlive
    rw [← htake, hu] at hsecond hlive hcopied hstands hreports
    rw [← htake] at hwindow
    rw [← hut] at hcopied hreports
    rw [hphase, ← hsecond] at hlive
    obtain ⟨hswing, hnoSwing⟩ := s.take.window.close_pp
    rw [← hsecond] at hswing hnoSwing
    refine ⟨(hut.trans ftime).trans (State.forBoundary_eq hopen), by rw [hsecond]; rfl, by rw [hsecond]; rfl, hswing,
      hnoSwing, by rw [hsecond]; rfl, hwindow, ⟨hlive, ?_, fun h => State.phaseAtBoundary_of_first h s⟩, ?_, hstands,
      (hmeas.trans kmeas).trans fmeas, (henv.trans kenv).trans fenv, (hpanel.trans kpanel).trans fpanel,
      (hpending.trans kpending).trans fpending⟩
    · exact (hfaults.trans hreports).trans (by rw [ffaults]; rfl)
    · rwa [fenv] at hcopied
  · rintro (hraised | ⟨hnine, hfirst⟩)
    · simp [hdue] at hraised
    · rcases hnone with h | h
      · omega
      · simp [hfirst] at h

end Sys2Proof.Machine
end

section
/-! SUPPORT. Rules of the operations that move the phase, and of the general evaluation: what conditions are read from,
the stage record and the pump after each operation (R20 to R27, R65, R148, R149). -/

namespace Sys2Proof.Machine

/-! ## What OPEN fixed -/

/-- What OPEN fixed reads back from the part of the record that it fixed. -/
theorem StageRecord.opened_fields {a b : StageRecord} (h : a.asOpened = b.asOpened) :
    a.number = b.number ∧ a.top = b.top ∧ a.bottom = b.bottom ∧ a.length = b.length ∧ a.profile = b.profile
      ∧ a.openedAt = b.openedAt := by
  simp only [StageRecord.asOpened, StageRecord.opened, StageRecord.mk.injEq] at h
  simp [h]

/-- Both states hold a stage with the same part that OPEN fixed, or neither holds one. -/
theorem stages_opened_alike {s t : State}
    (h : t.seq.stage.map (·.asOpened) = s.seq.stage.map (·.asOpened)) :
    (s.seq.stage = none ∧ t.seq.stage = none)
      ∨ ∃ a b, s.seq.stage = some a ∧ t.seq.stage = some b ∧ b.asOpened = a.asOpened := by
  cases hs : s.seq.stage <;> cases ht : t.seq.stage <;> simp_all

theorem State.stageSecond_congr {s t : State} (htime : t.time = s.time)
    (h : t.seq.stage.map (·.asOpened) = s.seq.stage.map (·.asOpened)) : t.stageSecond = s.stageSecond := by
  obtain ⟨hs, ht⟩ | ⟨a, b, hs, ht, hab⟩ := stages_opened_alike h
  · simp [State.stageSecond, hs, ht]
  · obtain ⟨-, -, -, -, -, hopened⟩ := StageRecord.opened_fields hab
    simp [State.stageSecond, hs, ht, hopened, htime]

theorem State.profile_congr {s t : State} (hconf : t.conf = s.conf)
    (h : t.seq.stage.map (·.asOpened) = s.seq.stage.map (·.asOpened)) : t.profile = s.profile := by
  obtain ⟨hs, ht⟩ | ⟨a, b, hs, ht, hab⟩ := stages_opened_alike h
  · simp [State.profile, hs, ht]
  · obtain ⟨-, -, -, -, hprofile, -⟩ := StageRecord.opened_fields hab
    simp [State.profile, State.profileAt, hs, ht, hprofile, hconf]

/-! ## What the three conditions of an evaluation are read from -/

theorem State.conflicts_congr {s t : State} (htag : t.conf.tag = s.conf.tag)
    (h : t.seq.stage.map (·.asOpened) = s.seq.stage.map (·.asOpened)) (e : Entry) : t.conflicts e = s.conflicts e := by
  obtain ⟨hs, ht⟩ | ⟨a, b, hs, ht, hab⟩ := stages_opened_alike h
  · simp [State.conflicts, hs, ht]
  · obtain ⟨-, htop, hbottom, -⟩ := StageRecord.opened_fields hab
    cases he : e.stage <;> simp [State.conflicts, hs, ht, he, htop, hbottom, htag]

theorem State.entryPrecedes_congr {s t : State} (htag : t.conf.tag = s.conf.tag) (e : Entry) :
    t.entryPrecedes e = s.entryPrecedes e := by
  simp [State.entryPrecedes, State.own, htag]

theorem State.standoffCauses_congr {s t : State} (hstation : t.conf.station = s.conf.station)
    (htag : t.conf.tag = s.conf.tag) (hentries : t.table.entries = s.table.entries)
    (hduplicate : t.table.duplicate = s.table.duplicate)
    (h : t.seq.stage.map (·.asOpened) = s.seq.stage.map (·.asOpened)) (hphase : t.phase = s.phase) :
    t.standoffCauses = s.standoffCauses := by
  simp only [State.standoffCauses, hstation, hentries, hduplicate, hphase, State.conflicts_congr htag h,
    State.entryPrecedes_congr htag]

theorem State.upliftCondition_congr {s t : State} (htag : t.conf.tag = s.conf.tag)
    (hentries : t.table.entries = s.table.entries) (huplift : t.coord.uplift = s.coord.uplift) :
    t.upliftCondition = s.upliftCondition := by
  simp only [State.upliftCondition, State.upliftSources, htag, hentries, huplift]

theorem State.named_congr {s t : State} (hentries : t.table.entries = s.table.entries) : t.named = s.named := by
  simp only [State.named, hentries]

theorem State.isOpen_congr {s t : State} (hphase : t.phase = s.phase) : t.isOpen = s.isOpen := by
  simp only [State.isOpen, hphase]

theorem State.connectionCondition_congr {s t : State} (hconf : t.conf = s.conf)
    (hentries : t.table.entries = s.table.entries) (hreport : t.coord.report = s.coord.report)
    (h : t.seq.stage.map (·.asOpened) = s.seq.stage.map (·.asOpened)) (hphase : t.phase = s.phase) :
    t.connectionCondition = s.connectionCondition := by
  simp only [State.connectionCondition, hphase, hreport, State.isOpen_congr hphase, State.named_congr hentries,
    State.profile_congr hconf h]

/-- R152: STANDOFF, cause by cause. -/
theorem State.standoffCauses_any_iff (s : State) :
    s.standoffCauses.any = true ↔
      ((s.phase = .packed ∨ s.phase = .waiting) ∧
          ∃ e ∈ s.table.entries, s.conflicts e = true
            ∧ (e.phase.active = true ∨ e.phase = .waiting ∧ s.entryPrecedes e = true))
        ∨ (s.phase.active = true ∧ ∃ e ∈ s.table.entries, s.heldOffBy e = true)
        ∨ s.conf.station = .listen ∨ s.table.duplicate = true := by
  simp only [Causes.any, State.standoffCauses, State.heldOffBy, Bool.or_eq_true, Bool.and_eq_true, List.any_eq_true,
    beq_iff_eq]
  constructor
  · rintro ((((⟨hp, e, he, hc, ha⟩ | ⟨hp, e, he, ⟨hc, hw⟩, hpr⟩) | ⟨hp, e, he, h⟩) | h) | h)
    · exact .inl ⟨hp, e, he, hc, .inl ha⟩
    · exact .inl ⟨hp, e, he, hc, .inr ⟨hw, hpr⟩⟩
    · exact .inr (.inl ⟨hp, e, he, h⟩)
    · exact .inr (.inr (.inl h))
    · exact .inr (.inr (.inr h))
  · rintro (⟨hp, e, he, hc, ha | ⟨hw, hpr⟩⟩ | ⟨hp, e, he, h⟩ | h | h)
    · exact .inl (.inl (.inl (.inl ⟨hp, e, he, hc, ha⟩)))
    · exact .inl (.inl (.inl (.inr ⟨hp, e, he, ⟨hc, hw⟩, hpr⟩)))
    · exact .inl (.inl (.inr ⟨hp, e, he, h⟩))
    · exact .inl (.inr h)
    · exact .inr h

/-! ## The step limit handed to the Regulator -/

/-- R96: the refusal timer of an open stage at 0; a CLOSED record is frozen (R34). -/
def StageRecord.timerZeroed (st : StageRecord) : StageRecord :=
  if st.phase = .closed then st else { st with refusalTimer := 0 }

@[simp] theorem StageRecord.timerZeroed_frame (st : StageRecord) :
    st.timerZeroed.asOpened = st.asOpened ∧ st.timerZeroed.phase = st.phase
      ∧ st.timerZeroed.restraints = st.restraints := by
  unfold StageRecord.timerZeroed
  split <;> exact ⟨rfl, rfl, rfl⟩

/-- R65: the two runs that a change of the effective step ends. -/
def Regulator.runsZeroed (r : Regulator) : Regulator := { r with arrivalRun := 0, advanceCount := 0 }

/-- What the recomputation of the effective step may bring: the runs at 0, and the refusal timer at 0 (R65, R96). -/
def StepRecomputed (s t : State) : Prop :=
  (t.seq = s.seq ∨ t.seq = { s.seq with stage := s.seq.stage.map StageRecord.timerZeroed })
    ∧ (t.reg = s.reg ∨ t.reg = s.reg.runsZeroed)

theorem State.recomputeStep_recomputed (before : Nat) (s : State) : StepRecomputed s (s.recomputeStep before) := by
  unfold State.recomputeStep
  split
  · exact ⟨.inl rfl, .inl rfl⟩
  · simp only
    split
    · exact ⟨.inr rfl, .inr rfl⟩
    · exact ⟨.inl rfl, .inr rfl⟩

/-- R163 to R165: what the first part of an evaluation, which forms the demand and the limits, brings. -/
def LimitsHanded (s t : State) : Prop :=
  StepRecomputed s t
    ∧ t.coord = { s.coord with
        causes := t.coord.causes, limitConnection := t.coord.limitConnection, limitUplift := t.coord.limitUplift
        limitDerate := t.coord.limitDerate, derateCount := t.coord.derateCount, limit := t.coord.limit
        critical := t.coord.critical, published := t.coord.published, computation := t.coord.computation }

theorem State.formLimits_handed (s : State) : LimitsHanded s s.formDemand.formLimits := by
  refine ⟨?_, ?_⟩
  · unfold State.formLimits
    simp only
    split
    · exact State.recomputeStep_recomputed _ _
    · exact ⟨.inl rfl, .inl rfl⟩
  · unfold State.formLimits State.setLimit
    simp only
    split
    · simp [State.formDemand]
    · simp [State.formDemand]

theorem StepRecomputed.stage {s t : State} (h : StepRecomputed s t) :
    t.seq.stage = s.seq.stage ∨ t.seq.stage = s.seq.stage.map StageRecord.timerZeroed := by
  obtain ⟨h | h, -⟩ := h
  · exact .inl (by rw [h])
  · exact .inr (by rw [h])

/-- A recomputed step leaves the phase, the set and what OPEN fixed. -/
theorem StepRecomputed.standing {s t : State} (h : StepRecomputed s t) :
    t.phase = s.phase ∧ t.restraints = s.restraints
      ∧ t.seq.stage.map (·.asOpened) = s.seq.stage.map (·.asOpened) ∧ t.seq.kept = s.seq.kept
      ∧ t.seq.counter = s.seq.counter := by
  have hkept : t.seq.kept = s.seq.kept ∧ t.seq.counter = s.seq.counter := by
    obtain ⟨h | h, -⟩ := h <;> simp [h]
  obtain ⟨hkept, hcounter⟩ := hkept
  rcases h.stage with h | h
  · exact ⟨State.phase_congr h, State.restraints_congr h, by rw [h], hkept, hcounter⟩
  · refine ⟨?_, ?_, ?_, hkept, hcounter⟩
    · unfold State.phase
      rw [h]
      cases s.seq.stage <;> simp
    · unfold State.restraints
      rw [h]
      cases s.seq.stage <;> simp
    · rw [h]
      cases s.seq.stage <;> simp

/-- A recomputed step leaves what the pump shows. -/
theorem StepRecomputed.pump {s t : State} (h : StepRecomputed s t) :
    t.reg.stroke = s.reg.stroke ∧ t.reg.valveOpen = s.reg.valveOpen ∧ t.reg.suctionWater = s.reg.suctionWater
      ∧ t.reg.commanded = s.reg.commanded ∧ t.reg.reached = s.reg.reached := by
  obtain ⟨-, h | h⟩ := h <;> simp [h, Regulator.runsZeroed]

/-! ## One evaluation as one presentation -/

/-- R149: the six conditions after an evaluation. -/
def State.keptAnew (s : State) : Conditions :=
  { s.seq.kept with standoff := s.standoffCauses.any, connection := s.connectionCondition, uplift := s.upliftCondition }

/-- R149: what an evaluation presents as present. -/
def State.arrivingAnew (s : State) : Restraints :=
  { Restraints.none with
    standoff := s.standoffCauses.any, connection := s.connectionCondition, uplift := s.upliftCondition }

/-- Two states whose evaluations read the same. -/
theorem State.anew_congr {s t : State} (hconf : t.conf = s.conf) (htable : t.table = s.table)
    (hreport : t.coord.report = s.coord.report) (huplift : t.coord.uplift = s.coord.uplift)
    (h : t.seq.stage.map (·.asOpened) = s.seq.stage.map (·.asOpened)) (hphase : t.phase = s.phase)
    (hkept : t.seq.kept = s.seq.kept) : t.keptAnew = s.keptAnew ∧ t.arrivingAnew = s.arrivingAnew := by
  have hcauses := State.standoffCauses_congr (by rw [hconf]) (by rw [hconf]) (by rw [htable]) (by rw [htable]) h hphase
  have hconnection := State.connectionCondition_congr hconf (by rw [htable]) hreport h hphase
  have hup := State.upliftCondition_congr (s := s) (t := t) (by rw [hconf]) (by rw [htable]) huplift
  simp only [State.keptAnew, State.arrivingAnew, hcauses, hconnection, hup, hkept, and_self]

/-- R148, R149: an evaluation presents the three conditions on a state with the limits handed. -/
theorem State.evaluateOnce_eq {s : State} (h : s.working = true) :
    s.evaluateOnce = s.formDemand.formLimits.present s.keptAnew s.arrivingAnew := by
  obtain ⟨hstep, hcoord⟩ := s.formLimits_handed
  obtain ⟨hphase, -, hopened, hkept, -⟩ := hstep.standing
  obtain ⟨hnew, harriving⟩ := State.anew_congr (s := s) (t := s.formDemand.formLimits) (by simp) (by simp)
    (by rw [hcoord]) (by rw [hcoord]) hopened hphase hkept
  rw [← hnew, ← harriving]
  simp only [State.evaluateOnce, h, if_true]
  rfl

theorem State.evaluateOnce_of_idle {s : State} (h : s.working = false) : s.evaluateOnce = s := by
  simp [State.evaluateOnce, h]

/-- R148: an evaluation that moves no phase is the only one. -/
theorem State.evaluate_of_still {s : State} (h : s.evaluateOnce.phase = s.phase) : s.evaluate = s.evaluateOnce := by
  simp [State.evaluate, h]

theorem State.evaluate_of_moved {s : State} (h : s.evaluateOnce.phase ≠ s.phase) :
    s.evaluate = s.evaluateOnce.evaluateOnce := by
  simp [State.evaluate, h]

/-! ## A presentation, phase by phase (R22 to R27) -/

/-- The conditions last presented take new values. -/
def State.keep (kept : Conditions) (s : State) : State := { s with seq := { s.seq with kept := kept } }

/-- In VACANT, PACKED and CLOSED a presentation is only remembered. -/
theorem State.present_of_still {s : State} (hp : s.phase.pumping = false) (hr : s.phase.restrained = false)
    (kept : Conditions) (r : Restraints) : s.present kept r = s.keep kept := by
  unfold State.present State.keep
  cases hphase : s.phase <;> simp_all [Phase.pumping, Phase.restrained]

/-- A pumping stage for which nothing arrives goes on. -/
theorem State.present_of_none {s : State} (hp : s.phase.pumping = true) {r : Restraints} (h : r.isEmpty = true)
    (kept : Conditions) : s.present kept r = s.keep kept := by
  unfold State.present State.keep
  cases hphase : s.phase <;> simp_all [Phase.pumping]

theorem State.present_testing {s : State} (hp : s.phase = .testing) {r : Restraints} (h : r.isEmpty = false)
    (kept : Conditions) : s.present kept r = (s.keep kept).abandonTest.enterWaiting r := by
  have hk : (s.keep kept).phase = .testing := hp
  simp only [State.present, hp, h, Bool.false_eq_true, if_false]
  simp only [State.keep] at hk
  simp only [State.arrive, hk]
  rfl

theorem State.present_injecting {s : State} (hp : s.phase = .injecting) {r : Restraints} (h : r.isEmpty = false)
    (kept : Conditions) : s.present kept r = (s.keep kept).enterHolding r := by
  have hk : (s.keep kept).phase = .injecting := hp
  simp only [State.present, hp, h, Bool.false_eq_true, if_false]
  simp only [State.keep] at hk
  simp only [State.arrive, hk]
  rfl

theorem State.present_restrained {s : State} (hp : s.phase.restrained = true) (kept : Conditions) (r : Restraints) :
    s.present kept r = (s.keep kept).changeSet (s.restraints.latched.union kept.toRestraints) := by
  unfold State.present
  cases hphase : s.phase <;> simp_all [Phase.restrained, State.keep]

end Sys2Proof.Machine
end

section
/-! SUPPORT. The stage record, the Sequencer's registers and the pump after each operation that moves the phase (R20 to
R27, R34, R73 to R75). -/

namespace Sys2Proof.Machine

/-! ## The pump after a change of phase -/

/-- The pump stands as a change of phase hands it over: S 0, the valve and the suction by the phase (R73 to R75). -/
def PumpHanded (t : State) : Prop :=
  t.reg.stroke = 0 ∧ t.reg.valveOpen = t.phase.pumping ∧ t.reg.suctionWater = (t.phase == .testing)

/-- From `s` to `t` the phase and the pump stand, or the phase has been handed over to the pump. -/
def PumpMoves (s t : State) : Prop :=
  (t.phase = s.phase ∧ t.reg.stroke = s.reg.stroke ∧ t.reg.valveOpen = s.reg.valveOpen
      ∧ t.reg.suctionWater = s.reg.suctionWater)
    ∨ PumpHanded t

theorem PumpMoves.of_same {s t : State} (hphase : t.phase = s.phase) (hreg : t.reg = s.reg) : PumpMoves s t := by
  left
  simp [hphase, hreg]

theorem PumpMoves.refl (s : State) : PumpMoves s s := .of_same rfl rfl

theorem PumpMoves.trans {a b c : State} (h : PumpMoves a b) (k : PumpMoves b c) : PumpMoves a c := by
  obtain ⟨kphase, kstroke, kvalve, ksuction⟩ | k := k
  · obtain ⟨hphase, hstroke, hvalve, hsuction⟩ | ⟨hstroke, hvalve, hsuction⟩ := h
    · exact .inl ⟨kphase.trans hphase, kstroke.trans hstroke, kvalve.trans hvalve, ksuction.trans hsuction⟩
    · refine .inr ⟨kstroke.trans hstroke, ?_, ?_⟩
      · rw [kvalve, hvalve, kphase]
      · rw [ksuction, hsuction, kphase]
  · exact .inr k

theorem PumpMoves.handed {s t : State} (h : PumpMoves s t) (hphase : t.phase ≠ s.phase) : PumpHanded t :=
  h.resolve_left fun hsame => hphase hsame.1

theorem State.enterPhase_phase {s : State} (h : s.phase ≠ .vacant) (new : Phase) : (s.enterPhase new).phase = new := by
  obtain ⟨st, hst, -⟩ := State.exists_stage_of_phase h
  simp [State.phase, State.enterPhase_stage, hst]

theorem State.enterPhase_handed {s : State} (h : s.phase ≠ .vacant) (new : Phase) : PumpHanded (s.enterPhase new) := by
  rw [PumpHanded, State.enterPhase_phase h, State.enterPhase_reg]
  exact ⟨rfl, rfl, rfl⟩

/-! ## Registers of the Sequencer after a change of phase -/

/-- R20, R22, R79, R88: the Sequencer after a change of phase. -/
theorem State.enterPhase_seq (new : Phase) (s : State) :
    (s.enterPhase new).seq = { s.seq with
      stage := s.seq.stage.map fun st =>
        { st with phase := new, restraints := if new.restrained then st.restraints else .none }
      test := if new = .testing then s.seq.test else none
      confirmRun := if s.phase = .injecting then 0 else s.seq.confirmRun } := by
  simp [State.enterPhase, State.handover, State.modStage, Sequencer.handed]

/-- R157, R158: the Coordination Unit after a change of phase. -/
theorem State.enterPhase_coord (new : Phase) (s : State) :
    (s.enterPhase new).coord = s.coord.handed new (s.deliveredNat .hole) := by
  simp [State.enterPhase, State.handover, State.modStage]
  rfl

/-- R20: a change of phase of a station that works is told to the link at once. -/
theorem State.enterPhase_urgent {s : State} (h : s.working = true) (new : Phase) :
    (s.enterPhase new).link.urgent = true := by
  unfold State.enterPhase State.handover
  exact State.urgent_sets_mark (by simpa [State.working] using h)

/-! ## WAITING and the first entry into INJECTING (R25) -/

/-- R25, R85 to R87: the record of a stage that enters INJECTING from WAITING. -/
def StageRecord.injectingFirst (t : Tag) (clock sec : Nat) (st : StageRecord) : StageRecord :=
  { st with
    phase := .injecting
    restraints := .none
    startMix := some (startMixOf t st.results)
    currentMix := some (startMixOf t st.results)
    injectionAt := some clock
    history := st.history ++ [⟨startMixOf t st.results, 0, sec, false⟩]
    pendingMix := some ⟨startMixOf t st.results, sec, 0⟩ }

theorem State.modStage_opened {f : StageRecord → StageRecord} (h : ∀ st, (f st).asOpened = st.asOpened) (s : State) :
    (s.modStage f).seq.stage.map (·.asOpened) = s.seq.stage.map (·.asOpened) := by
  rw [State.modStage_stage]
  cases s.seq.stage <;> simp [h]

theorem State.enterPhase_opened (new : Phase) (s : State) :
    (s.enterPhase new).seq.stage.map (·.asOpened) = s.seq.stage.map (·.asOpened) := by
  rw [State.enterPhase_stage]
  cases s.seq.stage <;> rfl

theorem State.enterInjectingFirst_stage (s : State) :
    s.enterInjectingFirst.seq.stage
      = s.seq.stage.map (StageRecord.injectingFirst s.conf.tag s.time.clock s.stageSecond) := by
  cases hs : s.seq.stage with
  | none => simp [State.enterInjectingFirst, State.requestMix, State.modStage, State.enterPhase_stage, hs]
  | some st =>
    simp [State.enterInjectingFirst, State.requestMix, State.modStage, State.enterPhase_stage, hs,
      StageRecord.injectingFirst, Phase.restrained, State.stageSecond]

theorem State.enterInjectingFirst_seq (s : State) :
    s.enterInjectingFirst.seq = { s.seq with
      stage := s.seq.stage.map (StageRecord.injectingFirst s.conf.tag s.time.clock s.stageSecond)
      test := none, basePressure := none, confirmRun := 0 } := by
  rw [← State.enterInjectingFirst_stage]
  simp [State.enterInjectingFirst, State.requestMix, State.modStage, State.enterPhase_seq]

theorem State.enterInjectingFirst_reg (s : State) : s.enterInjectingFirst.reg = s.reg.handed s.phase .injecting := by
  simp [State.enterInjectingFirst, State.enterPhase_reg]

theorem State.enterInjectingFirst_coord (s : State) :
    s.enterInjectingFirst.coord = s.coord.handed .injecting (s.deliveredNat .hole) := by
  simp [State.enterInjectingFirst, State.enterPhase_coord]

theorem State.enterInjectingFirst_phase {s : State} (h : s.phase ≠ .vacant) :
    s.enterInjectingFirst.phase = .injecting := by
  obtain ⟨st, hst, -⟩ := State.exists_stage_of_phase h
  simp [State.phase, State.enterInjectingFirst_stage, hst, StageRecord.injectingFirst]

theorem State.enterInjectingFirst_handed {s : State} (h : s.phase ≠ .vacant) : PumpHanded s.enterInjectingFirst := by
  rw [PumpHanded, State.enterInjectingFirst_phase h, State.enterInjectingFirst_reg]
  exact ⟨rfl, rfl, rfl⟩

/-- R25: an entry into WAITING whose set has a member stays there. -/
theorem State.enterWaiting_of_some {s : State} {b : Restraints}
    (h : (b.union s.seq.kept.toRestraints).isEmpty = false) :
    s.enterWaiting b = (s.enterPhase .waiting).setRestraints (b.union s.seq.kept.toRestraints) := by
  simp [State.enterWaiting, h]

/-- R25: an entry into WAITING with an empty set passes on into INJECTING. -/
theorem State.enterWaiting_of_none {s : State} {b : Restraints}
    (h : (b.union s.seq.kept.toRestraints).isEmpty = true) :
    s.enterWaiting b
      = ((s.enterPhase .waiting).setRestraints (b.union s.seq.kept.toRestraints)).enterInjectingFirst := by
  simp [State.enterWaiting, h]

theorem State.setRestraints_phase (r : Restraints) (s : State) : (s.setRestraints r).phase = s.phase :=
  State.modStage_phase (f := fun st => { st with restraints := r }) (fun _ => rfl) s

theorem State.setRestraints_restraints {s : State} (h : s.phase ≠ .vacant) (r : Restraints) :
    (s.setRestraints r).restraints = r := by
  obtain ⟨st, hst, -⟩ := State.exists_stage_of_phase h
  simp [State.restraints, State.setRestraints, State.modStage, hst]

theorem State.abandonTest_phase (s : State) : s.abandonTest.phase = s.phase :=
  State.modStage_phase (f := fun st => { st with results := .abandoned }) (fun _ => rfl) s

theorem State.enterWaiting_handed {s : State} (h : s.phase ≠ .vacant) (b : Restraints) :
    PumpHanded (s.enterWaiting b) := by
  have hwaiting : ((s.enterPhase .waiting).setRestraints (b.union s.seq.kept.toRestraints)).phase = .waiting := by
    rw [State.setRestraints_phase, State.enterPhase_phase h]
  cases hset : (b.union s.seq.kept.toRestraints).isEmpty with
  | true =>
    rw [State.enterWaiting_of_none hset]
    exact State.enterInjectingFirst_handed (by simp [hwaiting])
  | false =>
    have hhanded := State.enterPhase_handed h .waiting
    rw [PumpHanded, State.enterPhase_phase h] at hhanded
    rw [State.enterWaiting_of_some hset, PumpHanded, hwaiting]
    exact hhanded

/-- R25: an entry into WAITING comes to WAITING, or through it into INJECTING. -/
theorem State.enterWaiting_phase {s : State} (h : s.phase ≠ .vacant) (b : Restraints) :
    (s.enterWaiting b).phase
      = if (b.union s.seq.kept.toRestraints).isEmpty then .injecting else .waiting := by
  have hwaiting : ((s.enterPhase .waiting).setRestraints (b.union s.seq.kept.toRestraints)).phase = .waiting := by
    rw [State.setRestraints_phase, State.enterPhase_phase h]
  cases hset : (b.union s.seq.kept.toRestraints).isEmpty with
  | true =>
    rw [State.enterWaiting_of_none hset]
    exact State.enterInjectingFirst_phase (by simp [hwaiting])
  | false =>
    rw [State.enterWaiting_of_some hset]
    exact hwaiting

/-! ## HOLDING (R27, R28) -/

/-- R27: the stage record after an entry into HOLDING. -/
theorem State.enterHolding_stage (b : Restraints) (s : State) :
    (s.enterHolding b).seq.stage = s.seq.stage.map fun st =>
      { st with phase := .holding, restraints := b.union s.seq.kept.toRestraints, holdTimer := 0 } := by
  simp [State.enterHolding, State.modStage_stage, State.enterPhase_stage, Function.comp_def]

theorem State.enterHolding_reg (b : Restraints) (s : State) :
    (s.enterHolding b).reg = s.reg.handed s.phase .holding := by
  simp [State.enterHolding, State.enterPhase_reg]

theorem State.enterHolding_phase {s : State} (h : s.phase ≠ .vacant) (b : Restraints) :
    (s.enterHolding b).phase = .holding := by
  obtain ⟨st, hst, -⟩ := State.exists_stage_of_phase h
  simp [State.phase, State.enterHolding_stage, hst]

theorem State.enterHolding_handed {s : State} (h : s.phase ≠ .vacant) (b : Restraints) :
    PumpHanded (s.enterHolding b) := by
  rw [PumpHanded, State.enterHolding_phase h, State.enterHolding_reg]
  exact ⟨rfl, rfl, rfl⟩

/-! ## The set in WAITING and HOLDING (R22, R27) -/

/-- A set that keeps a member moves no phase. -/
theorem State.changeSet_of_some {s : State} {r : Restraints} (h : r.isEmpty = false) :
    (s.changeSet r).seq = (s.setRestraints r).seq ∧ (s.changeSet r).reg = s.reg ∧ (s.changeSet r).coord = s.coord := by
  unfold State.changeSet
  split
  · next heq =>
    refine ⟨?_, rfl, rfl⟩
    subst heq
    have hstage : s.seq.stage = s.seq.stage.map fun st => { st with restraints := s.restraints } := by
      unfold State.restraints
      cases hs : s.seq.stage <;> simp
    unfold State.setRestraints State.modStage
    rw [← hstage]
  · simp [h, State.setRestraints]

theorem State.changeSet_same {s : State} {r : Restraints} (h : r = s.restraints) : s.changeSet r = s := by
  simp [State.changeSet, h]

/-- R25, R27: an emptied set takes the stage into INJECTING. -/
theorem State.changeSet_of_none {s : State} {r : Restraints} (h : r.isEmpty = true) (hne : r ≠ s.restraints) :
    s.changeSet r
      = if s.phase = .waiting then (s.setRestraints r).enterInjectingFirst
        else (s.setRestraints r).enterPhase .injecting := by
  simp [State.changeSet, h, hne]

/-- R22: what a change of the set does to the phase. -/
theorem State.changeSet_phase {s : State} (h : s.phase ≠ .vacant) (r : Restraints) :
    (s.changeSet r).phase = s.phase ∨ ((s.changeSet r).phase = .injecting ∧ r.isEmpty = true) := by
  cases hr : r.isEmpty with
  | false =>
    obtain ⟨hseq, -⟩ := State.changeSet_of_some (s := s) hr
    left
    rw [State.phase_congr (congrArg Sequencer.stage hseq), State.setRestraints_phase]
  | true =>
    by_cases hsame : r = s.restraints
    · left
      rw [State.changeSet_same hsame]
    · right
      rw [State.changeSet_of_none hr hsame]
      split
      · exact ⟨State.enterInjectingFirst_phase (by rwa [State.setRestraints_phase]), rfl⟩
      · exact ⟨State.enterPhase_phase (by rwa [State.setRestraints_phase]) _, rfl⟩

theorem State.changeSet_pump {s : State} (h : s.phase ≠ .vacant) (r : Restraints) : PumpMoves s (s.changeSet r) := by
  cases hr : r.isEmpty with
  | false =>
    obtain ⟨hseq, hreg, -⟩ := State.changeSet_of_some (s := s) hr
    exact .of_same ((State.phase_congr (congrArg Sequencer.stage hseq)).trans (State.setRestraints_phase r s)) hreg
  | true =>
    by_cases hsame : r = s.restraints
    · rw [State.changeSet_same hsame]
      exact .refl s
    · right
      rw [State.changeSet_of_none hr hsame]
      split
      · exact State.enterInjectingFirst_handed (by rwa [State.setRestraints_phase])
      · exact State.enterPhase_handed (by rwa [State.setRestraints_phase]) _

/-- The set after a change of it that leaves the phase. -/
theorem State.changeSet_restraints {s : State} (h : s.phase.restrained = true) {r : Restraints}
    (hphase : (s.changeSet r).phase = s.phase) : (s.changeSet r).restraints = r := by
  have hopen : s.phase ≠ .vacant := by
    rintro hv
    simp [hv, Phase.restrained] at h
  cases hr : r.isEmpty with
  | false =>
    obtain ⟨hseq, -⟩ := State.changeSet_of_some (s := s) hr
    rw [State.restraints_congr (congrArg Sequencer.stage hseq), State.setRestraints_restraints hopen]
  | true =>
    by_cases hsame : r = s.restraints
    · rw [State.changeSet_same hsame, hsame]
    · rw [State.changeSet_of_none hr hsame] at hphase
      split at hphase
      · rw [State.enterInjectingFirst_phase (by rwa [State.setRestraints_phase])] at hphase
        simp [← hphase, Phase.restrained] at h
      · rw [State.enterPhase_phase (by rwa [State.setRestraints_phase])] at hphase
        simp [← hphase, Phase.restrained] at h

/-! ## Arrivals and presentations -/

theorem State.keep_pump (kept : Conditions) (s : State) : PumpMoves s (s.keep kept) := .of_same rfl rfl

/-- A restrained or pumping phase belongs to a stage. -/
theorem Phase.ne_vacant_of_restrained {p : Phase} (h : p.restrained = true) : p ≠ .vacant := by
  rintro rfl
  simp [Phase.restrained] at h

theorem Phase.pumping_iff {p : Phase} : p.pumping = true ↔ p = .testing ∨ p = .injecting := by
  cases p <;> simp [Phase.pumping]

theorem Phase.restrained_iff {p : Phase} : p.restrained = true ↔ p = .waiting ∨ p = .holding := by
  cases p <;> simp [Phase.restrained]

theorem State.arrive_pump (r : Restraints) (s : State) : PumpMoves s (s.arrive r) := by
  unfold State.arrive
  split
  · next h => exact .inr (State.enterWaiting_handed (by simp [State.abandonTest_phase, h]) r)
  · next h => exact .inr (State.enterHolding_handed (by simp [h]) r)
  · next h => exact State.changeSet_pump (by simp [h]) _
  · next h => exact State.changeSet_pump (by simp [h]) _
  · exact .refl s

theorem State.present_pump (kept : Conditions) (r : Restraints) (s : State) : PumpMoves s (s.present kept r) := by
  have hkeep := s.keep_pump kept
  unfold State.present
  simp only
  split
  · split
    · exact hkeep
    · exact hkeep.trans (State.arrive_pump _ _)
  · split
    · exact hkeep
    · exact hkeep.trans (State.arrive_pump _ _)
  · next h => exact hkeep.trans (State.changeSet_pump (s := s.keep kept)
      (by simp [State.phase_congr (s := s) (t := s.keep kept) rfl, h]) _)
  · next h => exact hkeep.trans (State.changeSet_pump (s := s.keep kept)
      (by simp [State.phase_congr (s := s) (t := s.keep kept) rfl, h]) _)
  · exact hkeep

theorem StepRecomputed.pumpMoves {s t : State} (h : StepRecomputed s t) : PumpMoves s t := by
  obtain ⟨hphase, -⟩ := h.standing
  obtain ⟨hstroke, hvalve, hsuction, -⟩ := h.pump
  exact .inl ⟨hphase, hstroke, hvalve, hsuction⟩

theorem State.evaluateOnce_pump (s : State) : PumpMoves s s.evaluateOnce := by
  cases hw : s.working with
  | false =>
    rw [State.evaluateOnce_of_idle hw]
    exact .refl s
  | true =>
    rw [State.evaluateOnce_eq hw]
    obtain ⟨hstep, -⟩ := s.formLimits_handed
    exact hstep.pumpMoves.trans (State.present_pump _ _ _)

theorem State.evaluate_pump (s : State) : PumpMoves s s.evaluate := by
  unfold State.evaluate
  simp only
  split
  · exact s.evaluateOnce_pump
  · exact s.evaluateOnce_pump.trans (State.evaluateOnce_pump _)

/-! ## The close (R34) -/

/-- R34, R35: the record as its close leaves it. -/
def StageRecord.closedAs (o : Outcome) (c : Criteria) (r : ReckRecord) (clock commanded reached : Nat)
    (st : StageRecord) : StageRecord :=
  { st with
    phase := .closed
    outcome := some o
    criteria := c
    closedAt := some clock
    finals := finalsOf r st.number
    stepsAtClose := some (commanded, reached)
    pendingMix := none
    restraints := .none
    results := if st.phase = .testing then .abandoned else st.results }

theorem State.closeStage_stage (o : Outcome) (c : Criteria) (r : ReckRecord) (s : State) :
    (s.closeStage o c r).seq.stage
      = s.seq.stage.map (StageRecord.closedAs o c r s.time.clock s.reg.commanded s.reg.reached) := by
  simp [State.closeStage, State.enterPhase_stage, State.modStage_stage, Function.comp_def]
  rfl

theorem State.closeStage_phase {s : State} (h : s.phase ≠ .vacant) (o : Outcome) (c : Criteria) (r : ReckRecord) :
    (s.closeStage o c r).phase = .closed := by
  obtain ⟨st, hst, -⟩ := State.exists_stage_of_phase h
  simp [State.phase, State.closeStage_stage, hst, StageRecord.closedAs]

theorem State.closeStage_handed {s : State} (h : s.phase ≠ .vacant) (o : Outcome) (c : Criteria) (r : ReckRecord) :
    PumpHanded (s.closeStage o c r) := by
  unfold State.closeStage
  refine State.enterPhase_handed ?_ _
  rwa [State.modStage_phase]
  exact fun _ => rfl

end Sys2Proof.Machine
end

section
/-! SUPPORT. A general evaluation settles (log entry 8): the evaluation that a change of phase raises moves the phase no
further, so after it STANDOFF stands as its causes give (R148, R149, R152). -/

namespace Sys2Proof.Machine

/-! ## Conditions across a change of phase -/

/-- The conditions of two states are read from the same settings, table, uplift and stage as OPEN fixed it. -/
def ConditionsAlike (s t : State) : Prop :=
  t.conf = s.conf ∧ t.table = s.table ∧ t.coord.uplift = s.coord.uplift
    ∧ t.seq.stage.map (·.asOpened) = s.seq.stage.map (·.asOpened)

theorem ConditionsAlike.symm {s t : State} (h : ConditionsAlike s t) : ConditionsAlike t s := by
  obtain ⟨hconf, htable, huplift, hopened⟩ := h
  exact ⟨hconf.symm, htable.symm, huplift.symm, hopened.symm⟩

/-- The blocks that a change of phase leaves alone. -/
theorem PhaseFrame.blocks {s t : State} (h : PhaseFrame s t) :
    t.time = s.time ∧ t.meas = s.meas ∧ t.env = s.env ∧ t.take = s.take ∧ t.table = s.table ∧ t.panel = s.panel
      ∧ t.conf = s.conf ∧ t.faults = s.faults ∧ t.pending = s.pending ∧ t.freeCount = s.freeCount := by
  obtain ⟨hblocks, -⟩ := h
  exact ⟨hblocks .time (by simp [phaseBlocks]), hblocks .meas (by simp [phaseBlocks]),
    hblocks .env (by simp [phaseBlocks]), hblocks .take (by simp [phaseBlocks]),
    hblocks .table (by simp [phaseBlocks]), hblocks .panel (by simp [phaseBlocks]),
    hblocks .conf (by simp [phaseBlocks]), hblocks .faults (by simp [phaseBlocks]),
    hblocks .queue (by simp [phaseBlocks]), hblocks .free (by simp [phaseBlocks])⟩

theorem PhaseFrame.opened {s t : State} (h : PhaseFrame s t) :
    t.seq.stage.map (·.asOpened) = s.seq.stage.map (·.asOpened) := by
  obtain ⟨-, -, -, -, -, hopened, -⟩ := h
  exact hopened

theorem PhaseFrame.counter {s t : State} (h : PhaseFrame s t) : t.seq.counter = s.seq.counter := by
  obtain ⟨-, -, -, hcounter, -⟩ := h
  exact hcounter

theorem PhaseFrame.allowance {s t : State} (h : PhaseFrame s t) : t.coord.allowance = s.coord.allowance := by
  obtain ⟨-, -, -, -, -, -, -, hallowance, -⟩ := h
  exact hallowance

theorem ConditionsAlike.of_phaseFrame {s t : State} (h : PhaseFrame s t) : ConditionsAlike s t := by
  obtain ⟨-, -, -, -, htable, -, hconf, -⟩ := h.blocks
  have hopened := h.opened
  obtain ⟨-, -, -, -, -, -, -, -, -, -, -, -, -, huplift, -⟩ := h
  exact ⟨hconf, htable, huplift, hopened⟩

/-- R159, R160: CONNECTION, cause by cause. -/
theorem State.connectionCondition_iff (s : State) :
    s.connectionCondition = true ↔
      ((s.phase = .packed ∨ s.phase = .waiting) ∧ s.coord.report = true)
        ∨ (s.phase ≠ .vacant ∧ s.named = true ∧ s.profile.action = .hold) := by
  simp [State.connectionCondition, State.isOpen, and_assoc]

/-- R152: an active stage that a neighbour holds off is held off in WAITING and in every active phase. -/
theorem ConditionsAlike.standoff_carries {s t : State} (h : ConditionsAlike s t) (hs : s.phase.active = true)
    (ht : t.phase = .waiting ∨ t.phase.active = true) (hstands : s.standoffCauses.any = true) :
    t.standoffCauses.any = true := by
  obtain ⟨hconf, htable, -, hopened⟩ := h
  have htag : t.conf.tag = s.conf.tag := by rw [hconf]
  rw [State.standoffCauses_any_iff] at hstands ⊢
  rw [hconf, htable]
  rcases hstands with ⟨hearly, -⟩ | ⟨-, e, he, hheld⟩ | hlisten | hduplicate
  · rcases hearly with hp | hp <;> simp [hp, Phase.active] at hs
  · obtain ⟨⟨hconflict, hactive⟩, hprecedes⟩ :
        (s.conflicts e = true ∧ e.phase.active = true) ∧ s.entryPrecedes e = true := by
      simpa [State.heldOffBy] using hheld
    rw [← State.conflicts_congr htag hopened] at hconflict
    rw [← State.entryPrecedes_congr htag] at hprecedes
    rcases ht with ht | ht
    · exact .inl ⟨.inr ht, e, he, hconflict, .inl hactive⟩
    · exact .inr (.inl ⟨ht, e, he, by simp [State.heldOffBy, hconflict, hactive, hprecedes]⟩)
  · exact .inr (.inr (.inl hlisten))
  · exact .inr (.inr (.inr hduplicate))

theorem ConditionsAlike.connection_carries {s t : State} (h : ConditionsAlike s t) (hs : s.phase.active = true)
    (ht : t.phase = .waiting ∨ t.phase.active = true) (hstands : s.connectionCondition = true) :
    t.connectionCondition = true := by
  obtain ⟨hconf, htable, -, hopened⟩ := h
  rw [State.connectionCondition_iff] at hstands ⊢
  rw [State.profile_congr hconf hopened, State.named_congr (s := s) (by rw [htable])]
  rcases hstands with ⟨hearly, -⟩ | ⟨-, hstands⟩
  · rcases hearly with hp | hp <;> simp [hp, Phase.active] at hs
  · refine .inr ⟨?_, hstands⟩
    rintro hv
    rcases ht with ht | ht <;> simp [hv, Phase.active] at ht

theorem ConditionsAlike.uplift {s t : State} (h : ConditionsAlike s t) : t.upliftCondition = s.upliftCondition := by
  obtain ⟨hconf, htable, huplift, -⟩ := h
  exact State.upliftCondition_congr (by rw [hconf]) (by rw [htable]) huplift

theorem Restraints.isEmpty_iff (r : Restraints) : r.isEmpty = true ↔ r = .none := by
  simp [Restraints.isEmpty]

theorem Restraints.union_isEmpty (a b : Restraints) :
    (a.union b).isEmpty = (a.isEmpty && b.isEmpty) := by
  rw [Bool.eq_iff_iff]
  simp only [Restraints.isEmpty_iff, Bool.and_eq_true]
  constructor
  · intro h
    simp only [Restraints.union, Restraints.none, Restraints.mk.injEq, Bool.or_eq_false_iff] at h
    obtain ⟨⟨h1, k1⟩, ⟨h2, k2⟩, ⟨h3, k3⟩, ⟨h4, k4⟩, ⟨h5, k5⟩, ⟨h6, k6⟩, ⟨h7, k7⟩, ⟨h8, k8⟩⟩ := h
    constructor
    · exact Restraints.mk.injEq .. ▸ ⟨h1, h2, h3, h4, h5, h6, h7, h8⟩
    · exact Restraints.mk.injEq .. ▸ ⟨k1, k2, k3, k4, k5, k6, k7, k8⟩
  · rintro ⟨rfl, rfl⟩
    rfl

/-- Nothing arrives at an evaluation exactly when none of the three conditions stands. -/
theorem State.arrivingAnew_isEmpty_iff (s : State) :
    s.arrivingAnew.isEmpty = true ↔
      s.standoffCauses.any = false ∧ s.connectionCondition = false ∧ s.upliftCondition = false := by
  simp [Restraints.isEmpty_iff, State.arrivingAnew, Restraints.none]

/-- The conditions that arrive are among those kept anew. -/
theorem State.arrivingAnew_isEmpty_of_kept {s : State} (h : s.keptAnew.toRestraints.isEmpty = true) :
    s.arrivingAnew.isEmpty = true := by
  rw [Restraints.isEmpty_iff] at h
  rw [State.arrivingAnew_isEmpty_iff]
  simp only [Conditions.toRestraints, State.keptAnew, Restraints.none, Restraints.mk.injEq] at h
  simp [h]

/-- What arrives at an active stage arrives in WAITING and in every active phase. -/
theorem ConditionsAlike.arrivals_carry {s t : State} (h : ConditionsAlike s t) (hs : s.phase.active = true)
    (ht : t.phase = .waiting ∨ t.phase.active = true) (hnone : t.arrivingAnew.isEmpty = true) :
    s.arrivingAnew.isEmpty = true := by
  rw [State.arrivingAnew_isEmpty_iff] at hnone ⊢
  obtain ⟨hstandoff, hconnection, huplift⟩ := hnone
  refine ⟨?_, ?_, h.uplift ▸ huplift⟩
  · cases hc : s.standoffCauses.any with
    | false => rfl
    | true => exact absurd (h.standoff_carries hs ht hc) (by simp [hstandoff])
  · cases hc : s.connectionCondition with
    | false => rfl
    | true => exact absurd (h.connection_carries hs ht hc) (by simp [hconnection])

/-! ## The second evaluation moves no phase -/

theorem State.evaluateOnce_working (s : State) : s.evaluateOnce.working = s.working :=
  State.working_congr (by simp)

theorem State.evaluate_working (s : State) : s.evaluate.working = s.working := State.working_congr (by simp)

theorem State.evaluateOnce_kept {s : State} (h : s.working = true) : s.evaluateOnce.seq.kept = s.keptAnew := by
  rw [State.evaluateOnce_eq h, State.present_kept]

/-- The phase after one evaluation, by the phase that it finds (R22, R26, R27, R149). -/
theorem State.evaluateOnce_phase {s : State} (h : s.working = true) :
    (s.phase = .testing → s.evaluateOnce.phase = if s.arrivingAnew.isEmpty then .testing else .waiting)
      ∧ (s.phase = .injecting → s.evaluateOnce.phase = if s.arrivingAnew.isEmpty then .injecting else .holding)
      ∧ (s.phase.restrained = true → s.evaluateOnce.phase = s.phase
          ∨ (s.evaluateOnce.phase = .injecting ∧ (s.restraints.latched.union s.keptAnew.toRestraints).isEmpty = true))
      ∧ (s.phase.pumping = false → s.phase.restrained = false → s.evaluateOnce.phase = s.phase) := by
  obtain ⟨hstep, -⟩ := s.formLimits_handed
  obtain ⟨hphase, hset, -⟩ := hstep.standing
  rw [State.evaluateOnce_eq h]
  generalize s.formDemand.formLimits = u at *
  rw [← hphase, ← hset]
  refine ⟨fun hp => ?_, fun hp => ?_, fun hp => ?_, fun hp hr => ?_⟩
  · cases harr : s.arrivingAnew.isEmpty with
    | true =>
      rw [State.present_of_none (by simp [hp, Phase.pumping]) harr]
      exact hp
    | false =>
      have hkeep : (u.keep s.keptAnew).abandonTest.phase = .testing := by
        rw [State.abandonTest_phase]
        exact hp
      rw [State.present_testing hp harr, State.enterWaiting_phase (by simp [hkeep])]
      simp [Restraints.union_isEmpty, harr]
  · cases harr : s.arrivingAnew.isEmpty with
    | true =>
      rw [State.present_of_none (by simp [hp, Phase.pumping]) harr]
      exact hp
    | false =>
      have hkeep : (u.keep s.keptAnew).phase = .injecting := hp
      rw [State.present_injecting hp harr, State.enterHolding_phase (by simp [hkeep])]
      rfl
  · rw [State.present_restrained hp]
    exact State.changeSet_phase (s := u.keep s.keptAnew) (Phase.ne_vacant_of_restrained hp) _
  · rw [State.present_of_still hp hr]
    rfl

/-- Log entry 8: where an evaluation has moved the phase, the next one leaves it. -/
theorem State.evaluateOnce_settles {s : State} (h : s.working = true) (hmoved : s.evaluateOnce.phase ≠ s.phase) :
    s.evaluateOnce.evaluateOnce.phase = s.evaluateOnce.phase := by
  have halike := ConditionsAlike.of_phaseFrame s.evaluateOnce_phaseFrame
  have hw : s.evaluateOnce.working = true := s.evaluateOnce_working.trans h
  obtain ⟨htesting, hinjecting, hrestrained, hstill⟩ := State.evaluateOnce_phase h
  obtain ⟨-, htInjecting, htRestrained, -⟩ := State.evaluateOnce_phase hw
  generalize s.evaluateOnce = t at *
  have hheld (ht : t.phase = .waiting ∨ t.phase = .holding) (hs : s.phase.active = true)
      (harr : s.arrivingAnew.isEmpty = false) : t.evaluateOnce.phase = t.phase := by
    refine (htRestrained (by rcases ht with ht | ht <;> simp [ht, Phase.restrained])).resolve_right ?_
    rintro ⟨-, hset⟩
    rw [Restraints.union_isEmpty, Bool.and_eq_true] at hset
    obtain ⟨-, hkept⟩ := hset
    have hnone := halike.arrivals_carry hs (ht.imp_right fun ht => by simp [ht, Phase.active])
      (State.arrivingAnew_isEmpty_of_kept hkept)
    simp [hnone] at harr
  have hfreed (ht : t.phase = .injecting) (hs : s.phase = .waiting ∨ s.phase = .holding)
      (hset : (s.restraints.latched.union s.keptAnew.toRestraints).isEmpty = true) :
      t.evaluateOnce.phase = t.phase := by
    rw [Restraints.union_isEmpty, Bool.and_eq_true] at hset
    obtain ⟨-, hkept⟩ := hset
    have hnone := halike.symm.arrivals_carry (by simp [ht, Phase.active])
      (hs.imp_right fun hs => by simp [hs, Phase.active]) (State.arrivingAnew_isEmpty_of_kept hkept)
    rw [htInjecting ht, hnone, ht]
    rfl
  cases hp : s.phase with
  | testing =>
    cases harr : s.arrivingAnew.isEmpty with
    | true => simp [htesting hp, harr, hp] at hmoved
    | false => exact hheld (.inl (by simp [htesting hp, harr])) (by simp [hp, Phase.active]) harr
  | injecting =>
    cases harr : s.arrivingAnew.isEmpty with
    | true => simp [hinjecting hp, harr, hp] at hmoved
    | false => exact hheld (.inr (by simp [hinjecting hp, harr])) (by simp [hp, Phase.active]) harr
  | waiting =>
    obtain ⟨ht, hset⟩ := (hrestrained (by simp [hp, Phase.restrained])).resolve_left hmoved
    exact hfreed ht (.inl hp) hset
  | holding =>
    obtain ⟨ht, hset⟩ := (hrestrained (by simp [hp, Phase.restrained])).resolve_left hmoved
    exact hfreed ht (.inr hp) hset
  | vacant => exact absurd (hstill (by simp [hp, Phase.pumping]) (by simp [hp, Phase.restrained])) hmoved
  | packed => exact absurd (hstill (by simp [hp, Phase.pumping]) (by simp [hp, Phase.restrained])) hmoved
  | closed => exact absurd (hstill (by simp [hp, Phase.pumping]) (by simp [hp, Phase.restrained])) hmoved

/-! ## STANDOFF after an evaluation -/

/-- An evaluation that leaves the phase leaves STANDOFF as its causes give. -/
theorem State.evaluateOnce_standoffFollows {s : State} (h : s.working = true)
    (hstill : s.evaluateOnce.phase = s.phase) : StandoffFollows s.evaluateOnce := by
  intro _
  have hkept := State.evaluateOnce_kept h
  have hcauses : s.evaluateOnce.standoffCauses = s.standoffCauses :=
    State.standoffCauses_congr (by simp) (by simp) (by simp) (by simp) s.evaluateOnce_phaseFrame.opened hstill
  rw [hcauses, hkept, hstill]
  refine ⟨rfl, fun hr => ?_, fun hp => ?_⟩
  · obtain ⟨hstep, -⟩ := s.formLimits_handed
    obtain ⟨hphase, hset, -⟩ := hstep.standing
    have hu : (s.formDemand.formLimits.keep s.keptAnew).phase.restrained = true :=
      (congrArg Phase.restrained hphase).trans hr
    rw [State.evaluateOnce_eq h, State.present_restrained (hphase ▸ hr)] at hstill ⊢
    rw [State.changeSet_restraints hu (hstill.trans hphase.symm)]
    rfl
  · obtain ⟨htesting, hinjecting, -⟩ := State.evaluateOnce_phase h
    have hnone : s.arrivingAnew.isEmpty = true := by
      rcases Phase.pumping_iff.mp hp with hphase | hphase
      · simpa [hstill, hphase] using htesting hphase
      · simpa [hstill, hphase] using hinjecting hphase
    rw [State.arrivingAnew_isEmpty_iff] at hnone
    obtain ⟨hstandoff, -⟩ := hnone
    exact hstandoff

/-- R148, R149: whatever state a general evaluation finds, it leaves STANDOFF as its causes give. -/
theorem State.evaluate_standoffFollows (s : State) : StandoffFollows s.evaluate := by
  cases h : s.working with
  | false =>
    intro hw
    simp [s.evaluate_working, h] at hw
  | true =>
    by_cases hstill : s.evaluateOnce.phase = s.phase
    · rw [State.evaluate_of_still hstill]
      exact State.evaluateOnce_standoffFollows h hstill
    · rw [State.evaluate_of_moved hstill]
      exact State.evaluateOnce_standoffFollows (s.evaluateOnce_working.trans h) (State.evaluateOnce_settles h hstill)

end Sys2Proof.Machine
end

section
/-! SUPPORT. The pump, STANDOFF and log invariants across one move of the machine: a move that leaves what they speak of,
a change of phase with the evaluation it raises, and an evaluation of a state just changed. Each row of the table is
made of such moves. -/

namespace Sys2Proof.Machine

/-! ## The three invariants together -/

/-- From `s` to `t` the pump and the log invariants are kept. -/
def KeepsPumpAndLog (s t : State) : Prop := (PumpInvariant s → PumpInvariant t) ∧ (LogInvariant s → LogInvariant t)

/-- From `s` to `t` the pump, the log and the STANDOFF invariants are kept. -/
def KeepsInvariants (s t : State) : Prop := KeepsPumpAndLog s t ∧ (StandoffFollows s → StandoffFollows t)

theorem KeepsPumpAndLog.refl (s : State) : KeepsPumpAndLog s s := ⟨id, id⟩

theorem KeepsPumpAndLog.trans {a b c : State} (h : KeepsPumpAndLog a b) (k : KeepsPumpAndLog b c) :
    KeepsPumpAndLog a c := ⟨k.1 ∘ h.1, k.2 ∘ h.2⟩

theorem KeepsInvariants.refl (s : State) : KeepsInvariants s s := ⟨.refl s, id⟩

theorem KeepsInvariants.trans {a b c : State} (h : KeepsInvariants a b) (k : KeepsInvariants b c) :
    KeepsInvariants a c := ⟨h.1.trans k.1, k.2 ∘ h.2⟩

/-- A choice between two moves that each keep the invariants. -/
theorem KeepsInvariants.ite {s t u : State} {c : Prop} [Decidable c] (h : c → KeepsInvariants s t)
    (k : ¬ c → KeepsInvariants s u) : KeepsInvariants s (if c then t else u) := by
  split
  · next hc => exact h hc
  · next hc => exact k hc

/-! ## The pump across a move -/

theorem PumpFollowsPhase.of_handed {t : State} (h : PumpHanded t) : PumpFollowsPhase t := by
  obtain ⟨hstroke, hvalve, hsuction⟩ := h
  refine ⟨fun _ => hstroke, hvalve, ?_, fun _ => by simp [hstroke], fun _ => by simp [hstroke]⟩
  rw [hsuction, Bool.eq_iff_iff]
  simp

theorem PumpMoves.keeps {s t : State} (h : PumpMoves s t) (htag : t.conf.tag = s.conf.tag)
    (hallowance : t.coord.allowance = s.coord.allowance) (hs : PumpFollowsPhase s) : PumpFollowsPhase t := by
  obtain ⟨hphase, hstroke, hvalve, hsuction⟩ | h := h
  · simpa [PumpFollowsPhase, State.injectingCap, hphase, hstroke, hvalve, hsuction, htag, hallowance] using hs
  · exact .of_handed h

/-- A stage is open before and after, or in neither state. -/
theorem stage_none_of_opened {s t : State} (h : t.seq.stage.map (·.asOpened) = s.seq.stage.map (·.asOpened))
    (hs : s.seq.stage = none) : t.seq.stage = none := by
  simpa [hs] using h

/-- The log invariant rests on the log, the number counter and the open stage's number. -/
theorem LogInvariant.of_same {s t : State} (hlog : t.panel.log = s.panel.log) (hcounter : t.seq.counter = s.seq.counter)
    (hopened : t.seq.stage.map (·.asOpened) = s.seq.stage.map (·.asOpened)) (h : LogInvariant s) : LogInvariant t := by
  obtain ⟨hlength, hnodup, hnumber⟩ := h
  refine ⟨by rwa [hlog], by rwa [hlog], fun st hst => ?_⟩
  obtain ⟨-, ht⟩ | ⟨a, b, hs, ht, hab⟩ := stages_opened_alike hopened
  · simp [ht] at hst
  · obtain ⟨hb, -⟩ := StageRecord.opened_fields hab
    obtain rfl : b = st := by simpa [ht] using hst
    rw [hlog, hcounter, hb]
    exact hnumber a hs

/-- A move whose pump follows and that keeps the settings, the log, the counter and what OPEN fixed. -/
theorem KeepsPumpAndLog.of_pump {s t : State} (hpump : PumpFollowsPhase s → PumpFollowsPhase t)
    (hstation : t.conf.station = s.conf.station) (hlog : t.panel.log = s.panel.log)
    (hcounter : t.seq.counter = s.seq.counter)
    (hopened : t.seq.stage.map (·.asOpened) = s.seq.stage.map (·.asOpened)) : KeepsPumpAndLog s t := by
  refine ⟨fun ⟨hclosed, hs⟩ => ⟨fun hw => stage_none_of_opened hopened (hclosed ?_), hpump hs⟩,
    LogInvariant.of_same hlog hcounter hopened⟩
  rw [← hw]
  simp only [State.working, hstation]

/-- A change of phase, or an operation with its frame, keeps the pump and the log invariants. -/
theorem PhaseFrame.keepsPumpAndLog {s t : State} (h : PhaseFrame s t) (hpump : PumpMoves s t) : KeepsPumpAndLog s t := by
  obtain ⟨-, -, -, -, -, hpanel, hconf, -⟩ := h.blocks
  exact .of_pump (hpump.keeps (by rw [hconf]) h.allowance) (by rw [hconf]) (by rw [hpanel]) h.counter h.opened

/-! ## A move that leaves what the invariants speak of -/

/-- What the STANDOFF invariant speaks of stands from `s` to `t`. -/
def StandoffStands (s t : State) : Prop :=
  t.conf.station = s.conf.station ∧ t.conf.tag = s.conf.tag ∧ t.table.entries = s.table.entries
    ∧ t.table.duplicate = s.table.duplicate ∧ t.seq.stage.map (·.asOpened) = s.seq.stage.map (·.asOpened)
    ∧ t.phase = s.phase ∧ t.seq.kept.standoff = s.seq.kept.standoff
    ∧ (s.phase.restrained = true →
        t.restraints.standoff = s.restraints.standoff ∨ t.restraints.standoff = s.seq.kept.standoff)

theorem StandoffStands.follows {s t : State} (h : StandoffStands s t) (hs : StandoffFollows s) : StandoffFollows t := by
  obtain ⟨hstation, htag, hentries, hduplicate, hopened, hphase, hkept, hset⟩ := h
  intro hw
  have hworking : s.working = true := by
    rw [← hw]
    simp only [State.working, hstation]
  obtain ⟨hcauses, hrestrained, hpumping⟩ := hs hworking
  rw [State.standoffCauses_congr hstation htag hentries hduplicate hopened hphase, hphase, hkept]
  exact ⟨hcauses, fun hr => (hset hr).elim (·.trans (hrestrained hr)) id, hpumping⟩

/-- What the three invariants speak of stands from `s` to `t`. -/
def SameStanding (s t : State) : Prop :=
  StandoffStands s t ∧ t.seq.counter = s.seq.counter
    ∧ t.reg.stroke = s.reg.stroke ∧ t.reg.valveOpen = s.reg.valveOpen ∧ t.reg.suctionWater = s.reg.suctionWater
    ∧ t.coord.allowance = s.coord.allowance ∧ t.panel.log = s.panel.log

theorem SameStanding.keeps {s t : State} (h : SameStanding s t) : KeepsInvariants s t := by
  obtain ⟨hstandoff, hcounter, hstroke, hvalve, hsuction, hallowance, hlog⟩ := h
  refine ⟨?_, hstandoff.follows⟩
  obtain ⟨hstation, htag, -, -, hopened, hphase, -⟩ := hstandoff
  have hpump : PumpMoves s t := .inl ⟨hphase, hstroke, hvalve, hsuction⟩
  exact .of_pump (hpump.keeps htag hallowance) hstation hlog hcounter hopened

/-- A move that changes of the Sequencer at most the stage record, and of that neither what OPEN fixed nor the phase nor
the set. -/
theorem SameStanding.of_stage {s t : State} {f : StageRecord → StageRecord} (hstage : t.seq.stage = s.seq.stage.map f)
    (hf : ∀ st, (f st).asOpened = st.asOpened ∧ (f st).phase = st.phase ∧ (f st).restraints = st.restraints)
    (hkept : t.seq.kept = s.seq.kept) (hcounter : t.seq.counter = s.seq.counter)
    (hpump : t.reg.stroke = s.reg.stroke ∧ t.reg.valveOpen = s.reg.valveOpen ∧ t.reg.suctionWater = s.reg.suctionWater)
    (hallowance : t.coord.allowance = s.coord.allowance)
    (hconf : t.conf.station = s.conf.station ∧ t.conf.tag = s.conf.tag)
    (htable : t.table.entries = s.table.entries ∧ t.table.duplicate = s.table.duplicate)
    (hlog : t.panel.log = s.panel.log) : SameStanding s t := by
  obtain ⟨hstation, htag⟩ := hconf
  obtain ⟨hentries, hduplicate⟩ := htable
  obtain ⟨hstroke, hvalve, hsuction⟩ := hpump
  choose hopened hphase hset using hf
  have htphase : t.phase = s.phase :=
    (State.phase_congr (hstage.trans (s.modStage_stage f).symm)).trans (State.modStage_phase hphase s)
  have htset : t.restraints = s.restraints :=
    (State.restraints_congr (hstage.trans (s.modStage_stage f).symm)).trans (State.modStage_restraints hset s)
  have htopened : t.seq.stage.map (·.asOpened) = s.seq.stage.map (·.asOpened) := by
    rw [hstage]
    cases s.seq.stage <;> simp [hopened]
  exact ⟨⟨hstation, htag, hentries, hduplicate, htopened, htphase, by rw [hkept], fun _ => .inl (by rw [htset])⟩, hcounter,
    hstroke, hvalve, hsuction, hallowance, hlog⟩

/-- A move that leaves the Sequencer. -/
theorem SameStanding.of_seq {s t : State} (hseq : t.seq = s.seq)
    (hpump : t.reg.stroke = s.reg.stroke ∧ t.reg.valveOpen = s.reg.valveOpen ∧ t.reg.suctionWater = s.reg.suctionWater)
    (hallowance : t.coord.allowance = s.coord.allowance)
    (hconf : t.conf.station = s.conf.station ∧ t.conf.tag = s.conf.tag)
    (htable : t.table.entries = s.table.entries ∧ t.table.duplicate = s.table.duplicate)
    (hlog : t.panel.log = s.panel.log) : SameStanding s t :=
  .of_stage (f := id) (by simp [hseq]) (fun _ => ⟨rfl, rfl, rfl⟩) (by rw [hseq]) (by rw [hseq]) hpump hallowance hconf
    htable hlog

/-- A move that leaves every block the invariants speak of, and the log. -/
theorem SameStanding.of_blocks {s t : State} (hseq : t.seq = s.seq) (hreg : t.reg = s.reg) (hcoord : t.coord = s.coord)
    (hconf : t.conf = s.conf) (htable : t.table = s.table) (hlog : t.panel.log = s.panel.log) : SameStanding s t :=
  .of_seq hseq (by simp [hreg]) (by rw [hcoord]) (by simp [hconf]) (by simp [htable]) hlog

/-! ## A change of phase, and the evaluation it raises -/

/-- An evaluation of a state that a move has left: STANDOFF follows whatever it found. -/
theorem KeepsInvariants.evaluate {s t : State} (h : KeepsPumpAndLog s t) : KeepsInvariants s t.evaluate :=
  ⟨h.trans (t.evaluate_phaseFrame.keepsPumpAndLog t.evaluate_pump), fun _ => t.evaluate_standoffFollows⟩

/-- A part of an event with the evaluation that a change of phase raises: STANDOFF is evaluated, or stands. -/
theorem KeepsInvariants.settle {s t : State} (h : KeepsPumpAndLog s t)
    (hstill : t.phase = s.phase → StandoffFollows s → StandoffFollows t) : KeepsInvariants s (t.settle s.phase) := by
  unfold State.settle
  split
  · next hphase => exact ⟨h, hstill hphase⟩
  · exact .evaluate h

theorem KeepsInvariants.settled_same {s : State} {f : State → State} (h : f s = s) : KeepsInvariants s (s.settled f) := by
  simp only [State.settled, h, State.settle, if_true]
  exact .refl s

/-- Where a part of an event has the frame of a change of phase, only the set and STANDOFF are left to look at. -/
theorem KeepsInvariants.settled {s : State} {f : State → State} (hframe : PhaseFrame s (f s)) (hpump : PumpMoves s (f s))
    (hkept : (f s).seq.kept.standoff = s.seq.kept.standoff)
    (hset : (f s).phase = s.phase → s.phase.restrained = true →
      (f s).restraints.standoff = s.restraints.standoff ∨ (f s).restraints.standoff = s.seq.kept.standoff) :
    KeepsInvariants s (s.settled f) := by
  obtain ⟨-, -, -, -, htable, -, hconf, -⟩ := hframe.blocks
  refine .settle (hframe.keepsPumpAndLog hpump) fun hphase => StandoffStands.follows ?_
  exact ⟨by rw [hconf], by rw [hconf], by rw [htable], by rw [htable], hframe.opened, hphase, hkept, hset hphase⟩

end Sys2Proof.Machine
end

section
/-! SUPPORT. Each operation of the Stage Sequencer, the Coordination Unit and the Neighbour Table keeps the three
invariants: what it presents, the phase it enters, the evaluation it raises. -/

namespace Sys2Proof.Machine

/-! ## Presentations and arrivals (R14, R24, R29, R30, R167) -/

theorem State.present_restraints {kept : Conditions} {r : Restraints} {s : State}
    (hphase : (s.present kept r).phase = s.phase) (h : s.phase.restrained = true) :
    (s.present kept r).restraints = s.restraints.latched.union kept.toRestraints := by
  rw [State.present_restrained h] at hphase ⊢
  exact State.changeSet_restraints (s := s.keep kept) h hphase

/-- A presentation that leaves STANDOFF as it was kept. -/
theorem State.settled_present_keeps {kept : Conditions} {r : Restraints} {s : State} {f : State → State}
    (hf : f s = s.present kept r) (h : kept.standoff = s.seq.kept.standoff) : KeepsInvariants s (s.settled f) := by
  refine .settled (hf ▸ s.present_phaseFrame kept r) (hf ▸ s.present_pump kept r) (by simp [hf, h]) fun hphase hr => ?_
  rw [hf] at hphase
  rw [hf, State.present_restraints hphase hr]
  exact .inr h

theorem State.settled_presentField_keeps (s : State) : KeepsInvariants s (s.settled State.presentField) :=
  State.settled_present_keeps (f := State.presentField) rfl rfl

theorem State.settled_presentSupply_keeps (p : Bool) (s : State) :
    KeepsInvariants s (s.settled (State.presentSupply p)) := by
  by_cases h : p = s.seq.kept.supply
  · have hsame : s.presentSupply p = s := by simp [State.presentSupply, h]
    exact .settled_same hsame
  · refine State.settled_present_keeps (kept := { s.seq.kept with supply := p })
      (r := { Restraints.none with supply := p }) ?_ rfl
    simp [State.presentSupply, h]

/-- A change of the set that leaves STANDOFF in it or out of it. -/
theorem State.settled_changeSet_keeps {r : Restraints} {s : State} {f : State → State} (hf : f s = s.changeSet r)
    (h : s.phase.restrained = true) (hr : r.standoff = s.restraints.standoff) : KeepsInvariants s (s.settled f) := by
  refine .settled (hf ▸ s.changeSet_phaseFrame r) (hf ▸ State.changeSet_pump (Phase.ne_vacant_of_restrained h) r)
    (by simp [hf]) fun hphase _ => ?_
  rw [hf] at hphase
  rw [hf, State.changeSet_restraints h hphase]
  exact .inl hr

/-- An operation with the frame of a change of phase that does change the phase. -/
theorem KeepsInvariants.of_moved {s : State} {f : State → State} (hframe : PhaseFrame s (f s))
    (hpump : PumpMoves s (f s)) (hmoved : (f s).phase ≠ s.phase) : KeepsInvariants s (s.settled f) :=
  .settle (hframe.keepsPumpAndLog hpump) fun h => absurd h hmoved

/-- OPERATOR or TRIP arriving takes a pumping stage into WAITING or HOLDING. -/
theorem State.arrive_moves {r : Restraints} {s : State} (h : s.phase.pumping = true) (hr : r.isEmpty = false) :
    (s.arrive r).phase = (if s.phase = .testing then .waiting else .holding) := by
  rcases Phase.pumping_iff.mp h with hp | hp
  · simp only [State.arrive, hp]
    rw [State.enterWaiting_phase (by simp [State.abandonTest_phase, hp])]
    simp [Restraints.union_isEmpty, hr]
  · simp only [State.arrive, hp]
    rw [State.enterHolding_phase (by simp [hp])]
    simp

theorem State.settled_arrive_keeps {r : Restraints} (hr : r.isEmpty = false) (hstandoff : r.standoff = false) (s : State) :
    KeepsInvariants s (s.settled (State.arrive r)) := by
  cases hp : s.phase.pumping with
  | true =>
    refine .of_moved (s.arrive_phaseFrame r) (s.arrive_pump r) ?_
    rw [State.arrive_moves hp hr]
    rcases Phase.pumping_iff.mp hp with hp | hp <;> simp [hp]
  | false =>
    cases hs : s.phase.restrained with
    | true =>
      refine State.settled_changeSet_keeps (r := s.restraints.union r) ?_ hs (by simp [Restraints.union, hstandoff])
      rcases Phase.restrained_iff.mp hs with h | h <;> simp [State.arrive, h]
    | false =>
      have hsame : s.arrive r = s := by
        unfold State.arrive
        split <;> simp_all [Phase.pumping, Phase.restrained]
      exact .settled_same hsame

/-! ## The trip (R15) -/

theorem State.report_sameStanding (k : FaultKind) (d : Option Detail) (s : State) : SameStanding s (s.report k d) :=
  .of_blocks (by simp) (by simp) (by simp) (by simp) (by simp) (by simp)

/-- The pump stopped, and then a change of phase out of a pumping phase. -/
theorem KeepsPumpAndLog.of_stopped {s u t : State} (hstopped : u.seq = s.seq ∧ u.conf = s.conf ∧ u.panel.log = s.panel.log)
    (hframe : PhaseFrame u t) (hpump : PumpHanded t) : KeepsPumpAndLog s t := by
  obtain ⟨hseq, hconf, hlog⟩ := hstopped
  obtain ⟨-, -, -, -, -, hpanel, htconf, -⟩ := hframe.blocks
  refine .of_pump (fun _ => .of_handed hpump) (by rw [htconf, hconf]) (by rw [hpanel, hlog]) ?_ ?_
  · rw [hframe.counter, hseq]
  · rw [hframe.opened, hseq]

theorem State.trip_keeps {s : State} (h : s.phase.pumping = true) : KeepsInvariants s s.trip := by
  let u : State := s.stopPump.report .overpressure (some (.channel .gauge))
  have hu : u.phase = s.phase := State.phase_congr (by simp [u])
  have hmoved : (u.arrive .onlyTrip).phase ≠ u.phase := by
    rw [State.arrive_moves (hu ▸ h) rfl]
    rw [hu]
    rcases Phase.pumping_iff.mp h with hp | hp <;> simp [hp]
  have hkeeps : KeepsPumpAndLog s (u.arrive .onlyTrip) :=
    .of_stopped (u := u) (by simp [u]) (u.arrive_phaseFrame _) ((u.arrive_pump _).handed hmoved)
  have hsettle := KeepsInvariants.settle hkeeps fun hphase => absurd (hphase.trans hu.symm) hmoved
  rw [← hu] at hsettle
  exact hsettle

/-! ## Console commands of the stage -/

theorem State.settled_releaseStage_keeps (s : State) : KeepsInvariants s (s.settled State.releaseStage) := by
  cases hs : s.phase.restrained with
  | true =>
    refine State.settled_changeSet_keeps (r := s.released) ?_ hs rfl
    rcases Phase.restrained_iff.mp hs with h | h <;> simp [State.releaseStage, h]
  | false =>
    have hsame : s.releaseStage = s := by
      unfold State.releaseStage
      split <;> simp_all [Phase.restrained]
    exact .settled_same hsame

/-- An entry into another phase, with what of the record changes before it. -/
theorem State.settled_enterPhase_keeps {s : State} {f : State → State} {g : StageRecord → StageRecord} {new : Phase}
    (hf : f s = (s.modStage g).enterPhase new)
    (hg : ∀ st, (g st).asOpened = st.asOpened ∧ (g st).phase = st.phase) (hopen : s.phase ≠ .vacant)
    (hnew : new ≠ .vacant) (hmoved : new ≠ s.phase) : KeepsInvariants s (s.settled f) := by
  choose hopened hphase using hg
  have hmod : (s.modStage g).phase = s.phase := State.modStage_phase hphase s
  refine .of_moved ?_ (.inr ?_) ?_
  · rw [hf]
    exact (State.modStage_phaseFrame hopened s).trans (State.enterPhase_phaseFrame hnew _)
  · rw [hf]
    exact State.enterPhase_handed (hmod ▸ hopen) new
  · rwa [hf, State.enterPhase_phase (hmod ▸ hopen)]

theorem State.settled_closeStage_keeps {s : State} {f : State → State} {o : Outcome} {c : Criteria} {r : ReckRecord}
    (hf : f s = s.closeStage o c r) (hopen : s.phase ≠ .vacant) (hmoved : s.phase ≠ .closed) :
    KeepsInvariants s (s.settled f) := by
  refine .of_moved (hf ▸ s.closeStage_phaseFrame o c r) (.inr (hf ▸ State.closeStage_handed hopen o c r)) ?_
  rw [hf, State.closeStage_phase hopen]
  exact hmoved.symm

theorem State.settled_stopStage_keeps (s : State) : KeepsInvariants s (s.settled State.stopStage) := by
  have hclose (h : s.phase = .injecting ∨ s.phase = .holding) : KeepsInvariants s (s.settled State.stopStage) := by
    refine State.settled_closeStage_keeps (o := .operatorStop) (c := .none) (r := s.env.record) ?_ ?_ ?_
    all_goals rcases h with h | h <;> simp [h, State.stopStage]
  cases h : s.phase with
  | testing =>
    refine State.settled_enterPhase_keeps (g := fun st => { st with results := .abandoned }) (new := .packed) ?_
      (fun _ => ⟨rfl, rfl⟩) (by simp [h]) (by simp) (by simp [h])
    simp only [State.stopStage, h]
    rfl
  | waiting =>
    refine State.settled_enterPhase_keeps (g := id) (new := .packed) ?_
      (fun _ => ⟨rfl, rfl⟩) (by simp [h]) (by simp) (by simp [h])
    simp [State.stopStage, h, State.modStage]
  | injecting => exact hclose (.inl h)
  | holding => exact hclose (.inr h)
  | vacant | packed | closed =>
    have hsame : s.stopStage = s := by simp [State.stopStage, h]
    exact .settled_same hsame

/-! ## The end of a stage (R32, R36) -/

theorem State.vacate_seq (s : State) :
    s.vacate.seq = { s.seq with stage := none, test := none
                                confirmRun := if s.phase = .injecting then 0 else s.seq.confirmRun } := by
  simp [State.vacate, State.handover, Sequencer.handed]

theorem State.vacate_phase (s : State) : s.vacate.phase = .vacant := by
  simp [State.phase, State.vacate_seq]

theorem State.vacate_reg (s : State) : s.vacate.reg = s.reg.handed s.phase .vacant := by
  simp [State.vacate, State.handover]

theorem State.vacate_handed (s : State) : PumpHanded s.vacate := by
  rw [PumpHanded, State.vacate_phase, State.vacate_reg]
  exact ⟨rfl, rfl, rfl⟩

/-- A released stage leaves no stage for the log invariant to speak of. -/
theorem PumpInvariant.of_vacated {t : State} (hstage : t.seq.stage = none) (hpump : PumpHanded t) : PumpInvariant t :=
  ⟨fun _ => hstage, .of_handed hpump⟩

theorem State.vacate_keepsPumpAndLog (s : State) : KeepsPumpAndLog s s.vacate := by
  have hstage : s.vacate.seq.stage = none := by simp [State.vacate_seq]
  refine ⟨fun _ => .of_vacated hstage s.vacate_handed, fun ⟨hlength, hnodup, _⟩ => ?_⟩
  exact ⟨by simpa using hlength, by simpa using hnodup, fun st hst => by simp [hstage] at hst⟩

theorem State.settled_abortStage_keeps (s : State) : KeepsInvariants s (s.settled State.abortStage) := by
  have hclose (h : s.phase.started = true) : KeepsInvariants s (s.settled State.abortStage) := by
    refine State.settled_closeStage_keeps (o := .aborted) (c := .none) (r := s.env.record) ?_ ?_ ?_
    all_goals cases hp : s.phase <;> simp [hp, Phase.started, State.abortStage] at h ⊢
  cases h : s.phase with
  | packed =>
    have hvacate : s.abortStage = s.vacate := by simp [State.abortStage, h]
    unfold State.settled
    rw [hvacate]
    exact .settle s.vacate_keepsPumpAndLog fun hphase => by simp [State.vacate_phase, h] at hphase
  | testing | waiting | injecting | holding => exact hclose (by simp [h, Phase.started])
  | vacant | closed =>
    have hsame : s.abortStage = s := by simp [State.abortStage, h]
    exact .settled_same hsame

/-- R36: the appended record is the open stage's, whose number no record carries. -/
theorem State.settled_acceptStage_keeps {s : State} {st : StageRecord} (hst : s.seq.stage = some st)
    (hclosed : s.phase = .closed) (hroom : s.panel.log.length < logSize) :
    KeepsInvariants s (s.settled (State.acceptStage st)) := by
  have hstage : (s.acceptStage st).seq.stage = none := by simp [State.acceptStage, State.vacate_seq]
  refine .settle ⟨fun _ => .of_vacated hstage (State.vacate_handed _), fun ⟨_, hnodup, hnumber⟩ => ?_⟩ fun hphase => ?_
  · obtain ⟨-, hfresh⟩ := hnumber st hst
    have hlog : (s.acceptStage st).panel.log = s.panel.log ++ [⟨st, s.take.live⟩] := by simp [State.acceptStage]
    refine ⟨?_, ?_, fun st' hst' => by simp [hstage] at hst'⟩
    · rw [hlog, List.length_append]
      exact hroom
    · rw [hlog, List.map_append, List.map_singleton]
      exact hnodup.append (List.nodup_singleton _) (by simpa using hfresh)
  · simp [State.acceptStage, State.vacate_phase, hclosed] at hphase

/-! ## START (R21) -/

theorem State.startTest_stage (s : State) :
    s.startTest.seq.stage
      = s.seq.stage.map fun st => { st with results := .absent, phase := .testing, restraints := .none } := by
  simp [State.startTest, State.enterPhase_stage, State.modStage_stage, Function.comp_def, Phase.restrained]

theorem State.startTest_phaseFrame (s : State) : PhaseFrame s s.startTest := by
  have hmod : PhaseFrame s (s.modStage fun st => { st with results := .absent }) :=
    State.modStage_phaseFrame (by intro st; rfl) s
  unfold State.startTest
  exact (hmod.trans (State.enterPhase_phaseFrame (by simp) _)).trans (.ofSeq rfl rfl rfl)

theorem State.startTest_phase {s : State} (h : s.phase ≠ .vacant) : s.startTest.phase = .testing := by
  obtain ⟨st, hst, -⟩ := State.exists_stage_of_phase h
  simp [State.phase, State.startTest_stage, hst]

/-- R80: the test begins at step 1, with the pressures of the stage's profile. -/
theorem State.startTest_test (s : State) : s.startTest.seq.test = some (TestState.begin s.profile 1 []) := by
  have hprofile : ((s.modStage fun st => { st with results := .absent }).enterPhase .testing).profile = s.profile := by
    refine State.profile_congr (by simp) ?_
    rw [State.enterPhase_opened]
    exact State.modStage_opened (by intro st; rfl) s
  simp only [State.startTest, hprofile]

theorem State.startTest_reg (s : State) : s.startTest.reg = s.reg.handed s.phase .testing := by
  have hphase : (s.modStage fun st => { st with results := .absent }).phase = s.phase :=
    State.modStage_phase (by intro st; rfl) s
  simp [State.startTest, State.enterPhase_reg, hphase]

theorem State.startTest_handed {s : State} (h : s.phase ≠ .vacant) : PumpHanded s.startTest := by
  rw [PumpHanded, State.startTest_phase h, State.startTest_reg]
  exact ⟨rfl, rfl, rfl⟩

theorem State.enterWaiting_moves {s : State} (h : s.phase ≠ .vacant) (b : Restraints) :
    (s.enterWaiting b).phase = .waiting ∨ (s.enterWaiting b).phase = .injecting := by
  rw [State.enterWaiting_phase h]
  split <;> simp

/-- R21: a water test is wanted and none is held complete. -/
def StageRecord.testWanted (st : StageRecord) : Bool :=
  st.waterTest && (match st.results with
    | .complete _ => false
    | _ => true)

theorem StageRecord.testWanted_iff (st : StageRecord) :
    st.testWanted = true ↔ st.waterTest = true ∧ ∀ l, st.results ≠ .complete l := by
  unfold StageRecord.testWanted
  cases st.results <;> simp

/-- R21: the three ways of START out of PACKED. -/
theorem State.startStage_eq (st : StageRecord) (s : State) :
    s.startStage st =
      if st.testWanted = true then (if s.seq.kept.any then s.abandonTest.enterWaiting .none else s.startTest)
      else s.enterWaiting .none := by
  unfold State.startStage StageRecord.testWanted
  cases st.results <;> rfl

theorem State.startStage_phaseFrame (st : StageRecord) (s : State) : PhaseFrame s (s.startStage st) := by
  rw [State.startStage_eq]
  split
  · split
    · exact s.abandonTest_phaseFrame.trans (State.enterWaiting_phaseFrame _ _)
    · exact s.startTest_phaseFrame
  · exact s.enterWaiting_phaseFrame _

theorem State.startStage_handed {s : State} (h : s.phase = .packed) (st : StageRecord) :
    PumpHanded (s.startStage st) ∧ (s.startStage st).phase ≠ .packed := by
  have hopen : s.phase ≠ .vacant := by simp [h]
  have habandoned : s.abandonTest.phase ≠ .vacant := by rwa [State.abandonTest_phase]
  have hwaiting {u : State} (hu : u.phase ≠ .vacant) :
      PumpHanded (u.enterWaiting .none) ∧ (u.enterWaiting .none).phase ≠ .packed := by
    refine ⟨State.enterWaiting_handed hu _, ?_⟩
    rcases State.enterWaiting_moves hu .none with hp | hp <;> simp [hp]
  rw [State.startStage_eq]
  split
  · split
    · exact hwaiting habandoned
    · exact ⟨State.startTest_handed hopen, by simp [State.startTest_phase hopen]⟩
  · exact hwaiting hopen

theorem State.settled_startStage_keeps {s : State} (h : s.phase = .packed) (st : StageRecord) :
    KeepsInvariants s (s.settled (State.startStage st)) := by
  obtain ⟨hhanded, hmoved⟩ := State.startStage_handed h st
  exact .of_moved (s.startStage_phaseFrame st) (.inr hhanded) (h ▸ hmoved)

end Sys2Proof.Machine
end

section
/-! SUPPORT. The parts of a completion, of a second boundary and of a sample set keep the three invariants. -/

namespace Sys2Proof.Machine

/-! ## Parts that move no phase -/

theorem State.urgent_sameStanding (s : State) : SameStanding s s.urgent :=
  .of_blocks (by simp) (by simp) (by simp) (by simp) (by simp) (by simp)

/-- A change of the stage record that leaves what OPEN fixed, the phase and the set. -/
theorem State.modStage_sameStanding {f : StageRecord → StageRecord}
    (hf : ∀ st, (f st).asOpened = st.asOpened ∧ (f st).phase = st.phase ∧ (f st).restraints = st.restraints) (s : State) :
    SameStanding s (s.modStage f) :=
  .of_stage (s.modStage_stage f) hf rfl rfl (by simp) rfl (by simp) (by simp) rfl

/-- The runs, the test state and the base pressure are the Sequencer's own. -/
theorem SameStanding.of_registers {s t : State} (hstage : t.seq.stage = s.seq.stage)
    (hkept : t.seq.kept = s.seq.kept ∧ t.seq.counter = s.seq.counter) (hreg : t.reg = s.reg)
    (hcoord : t.coord = s.coord) (hconf : t.conf = s.conf) (htable : t.table = s.table)
    (hlog : t.panel.log = s.panel.log) : SameStanding s t := by
  obtain ⟨hkept, hcounter⟩ := hkept
  exact .of_stage (f := id) (by simp [hstage]) (fun _ => ⟨rfl, rfl, rfl⟩) hkept hcounter (by simp [hreg])
    (by rw [hcoord]) (by simp [hconf]) (by simp [htable]) hlog

/-- A change of the Coordination Unit that leaves the allowance. -/
theorem SameStanding.of_coord {s : State} {c : Coordination} (h : c.allowance = s.coord.allowance) :
    SameStanding s { s with coord := c } :=
  .of_seq rfl (by simp) h (by simp) (by simp) rfl

theorem State.makeCurrent_sameStanding (m : Nat) (s : State) : SameStanding s (s.makeCurrent m) := by
  have hseq : (s.makeCurrent m).seq.kept = s.seq.kept ∧ (s.makeCurrent m).seq.counter = s.seq.counter := by
    unfold State.makeCurrent
    simp only
    split <;> simp [State.modStage]
  exact .of_stage (s.makeCurrent_stage m) (fun _ => ⟨rfl, rfl, rfl⟩) hseq.1 hseq.2 (by simp) (by simp) (by simp)
    (by simp) (by simp)

theorem State.confirmMix_keeps (m : Nat) (s : State) : KeepsInvariants s (s.confirmMix m) :=
  (State.modStage_sameStanding (by intro st; exact ⟨rfl, rfl, rfl⟩) s).keeps.trans
    (State.makeCurrent_sameStanding m _).keeps

theorem State.timeoutMix_keeps (m : Nat) (s : State) : KeepsInvariants s (s.timeoutMix m) :=
  ((s.report_sameStanding _ _).keeps.trans
    (State.modStage_sameStanding (by intro st; exact ⟨rfl, rfl, rfl⟩) _).keeps).trans
    (State.makeCurrent_sameStanding m _).keeps

/-- What a recomputed step may bring is no concern of the invariants. -/
theorem StepRecomputed.sameStanding {s t : State} (h : StepRecomputed s t) (hcoord : t.coord = s.coord)
    (hconf : t.conf = s.conf) (htable : t.table = s.table) (hlog : t.panel.log = s.panel.log) : SameStanding s t := by
  obtain ⟨hphase, hset, hopened, hkept, hcounter⟩ := h.standing
  obtain ⟨hstroke, hvalve, hsuction, -⟩ := h.pump
  exact ⟨⟨by rw [hconf], by rw [hconf], by rw [htable], by rw [htable], hopened, hphase, by rw [hkept],
    fun _ => .inl (by rw [hset])⟩, hcounter, hstroke, hvalve, hsuction, by rw [hcoord], hlog⟩

theorem State.setCommanded_sameStanding (c : Nat) (s : State) : SameStanding s (s.setCommanded c) := by
  have hstep := State.recomputeStep_recomputed s.effective { s with reg := { s.reg with commanded := c } }
  exact hstep.sameStanding (by simp) (by simp) (by simp) (by simp)

/-- A change of the Regulator's steps and runs. -/
theorem SameStanding.of_reg {s : State} {r : Regulator}
    (h : r.stroke = s.reg.stroke ∧ r.valveOpen = s.reg.valveOpen ∧ r.suctionWater = s.reg.suctionWater) :
    SameStanding s { s with reg := r } :=
  .of_seq rfl h rfl (by simp) (by simp) rfl

theorem State.takeStep_keeps (c : Nat) (s : State) : KeepsInvariants s (s.takeStep c) := by
  refine (s.setCommanded_sameStanding c).keeps.trans (SameStanding.of_reg ?_).keeps
  simp

theorem State.requestMix_sameStanding (m : Nat) (s : State) : SameStanding s (s.requestMix m) :=
  .of_stage (f := fun st => { st with
      history := st.history ++ [⟨m, 0, s.stageSecond, false⟩], pendingMix := some ⟨m, s.stageSecond, 0⟩ })
    rfl (fun _ => ⟨rfl, rfl, rfl⟩) rfl rfl (by simp) (by simp) (by simp) (by simp) (by simp)

/-! ## The Pump Regulator at a completion (R66 to R72) -/

theorem State.reachStep_keeps (s : State) : KeepsInvariants s s.reachStep := by
  have hreached : SameStanding s { s with reg := { s.reg with reached := s.effective, arrivalRun := 0 } } :=
    .of_reg (by simp)
  exact hreached.keeps.trans (State.urgent_sameStanding _).keeps

theorem State.advanceStep_keeps (s : State) : KeepsInvariants s s.advanceStep := by
  refine (s.setCommanded_sameStanding (s.reg.commanded + 1)).keeps.trans (SameStanding.of_reg ?_).keeps
  simp

theorem State.arrivalPart_keeps (p : Int) (s : State) : KeepsInvariants s (s.arrivalPart p) := by
  have hruns (n : Nat) : KeepsInvariants s { s with reg := { s.reg with arrivalRun := n } } :=
    (SameStanding.of_reg (by simp)).keeps
  unfold State.arrivalPart
  refine .ite (fun _ => s.reachStep_keeps) fun _ => .ite (fun _ => hruns _) fun _ => .ite (fun _ => ?_) fun _ => hruns _
  exact .ite (fun _ => s.reachStep_keeps) fun _ => .refl s

theorem State.advancePart_keeps (q : Nat) (s : State) : KeepsInvariants s (s.advancePart q) := by
  unfold State.advancePart
  exact .ite (fun _ => s.advanceStep_keeps) fun _ => (SameStanding.of_reg (by simp)).keeps

/-- R71, R72: an update in TESTING or INJECTING stays within the cap of the phase. -/
theorem State.strokeUpdate_keeps {s : State} (h : s.phase.pumping = true) (g : Nat) :
    KeepsInvariants s (s.strokeUpdate g) := by
  have hstandoff : StandoffStands s (s.strokeUpdate g) :=
    ⟨by simp, by simp, by simp, by simp, by simp, State.phase_congr (by simp), by simp,
      fun _ => .inl (by rw [State.restraints_congr (s := s) (by simp)])⟩
  refine ⟨.of_pump ?_ (by simp) (by simp) (by simp) (by simp), hstandoff.follows⟩
  rintro ⟨-, hvalve, hsuction, -⟩
  have hphase : (s.strokeUpdate g).phase = s.phase := State.phase_congr (by simp)
  refine ⟨fun hidle => ?_, hphase ▸ hvalve, hphase ▸ hsuction, fun hp => ?_, fun hp => ?_⟩
  · rw [hphase, h] at hidle
    cases hidle
  · rw [hphase] at hp
    simp [State.strokeUpdate, State.strokeCap, hp]
  · rw [hphase] at hp
    simp [State.strokeUpdate, State.strokeCap, State.injectingCap, hp]

theorem State.completeRegulator_keeps (q : Nat) (r : ReckRecord) (s : State) :
    KeepsInvariants s (s.completeRegulator q r) := by
  have hsteps : ((s.arrivalPart r.pEff).advancePart q).phase = s.phase := by
    have hadvance (u : State) : (u.advancePart q).phase = u.phase := by
      unfold State.advancePart State.advanceStep
      split
      · exact (State.recomputeStep_recomputed u.effective
          { u with reg := { u.reg with commanded := u.reg.commanded + 1 } }).standing.1
      · rfl
    rw [hadvance]
    exact State.phase_congr (by simp)
  unfold State.completeRegulator
  split
  · next h =>
    refine ((s.arrivalPart_keeps r.pEff).trans (State.advancePart_keeps q _)).trans (State.strokeUpdate_keeps ?_ _)
    simp [hsteps, h, Phase.pumping]
  · next h => exact State.strokeUpdate_keeps (by simp [h, Phase.pumping]) _
  · exact .refl s

/-! ## The Sequencer at a completion (R81 to R83, R94) -/

theorem State.takeBase_sameStanding (p : Int) (s : State) : SameStanding s (s.takeBase p) := by
  have hstage : (s.takeBase p).seq.stage = s.seq.stage ∧ (s.takeBase p).seq.kept = s.seq.kept
      ∧ (s.takeBase p).seq.counter = s.seq.counter := by
    unfold State.takeBase
    (repeat' split) <;> exact ⟨rfl, rfl, rfl⟩
  obtain ⟨hstage, hseq⟩ := hstage
  exact .of_registers hstage hseq (by simp) (by simp) (by simp) (by simp) (by simp)

theorem State.thicken_keeps (p : Int) (s : State) : KeepsInvariants s (s.thicken p) := by
  unfold State.thicken
  exact .ite (fun _ => (s.requestMix_sameStanding _).keeps) fun _ => .refl s

theorem State.injectingChecks_keeps (r : ReckRecord) (s : State) : KeepsInvariants s (s.injectingChecks r) := by
  have htimer (u : State) : SameStanding u (u.stepRefusal r) :=
    State.modStage_sameStanding (by intro st; exact ⟨rfl, rfl, rfl⟩) u
  have hrun (u : State) : SameStanding u (u.stepIntensity r) := .of_registers rfl ⟨rfl, rfl⟩ rfl rfl rfl rfl rfl
  exact (((s.takeBase_sameStanding _).keeps.trans (State.thicken_keeps _ _)).trans (htimer _).keeps).trans (hrun _).keeps

theorem State.requestMix_phase (m : Nat) (s : State) : (s.requestMix m).phase = s.phase :=
  State.modStage_phase (f := fun st => { st with
    history := st.history ++ [⟨m, 0, s.stageSecond, false⟩], pendingMix := some ⟨m, s.stageSecond, 0⟩ }) (fun _ => rfl) s

theorem State.injectingChecks_phase (r : ReckRecord) (s : State) : (s.injectingChecks r).phase = s.phase := by
  have hbase : (s.takeBase r.pEff).phase = s.phase := by
    unfold State.takeBase
    (repeat' split) <;> rfl
  have hthicken (u : State) : (u.thicken r.pEff).phase = u.phase := by
    unfold State.thicken
    split
    · exact u.requestMix_phase _
    · rfl
  have htimer (u : State) : (u.stepRefusal r).phase = u.phase := State.modStage_phase (by intro st; rfl) u
  exact ((htimer _).trans (hthicken _)).trans hbase

/-- A part of an event that moves the phase after quiet work of the same part. -/
theorem KeepsInvariants.settle_after {s u t : State} (h : KeepsInvariants s u) (hu : u.phase = s.phase)
    (hsettle : KeepsInvariants u (t.settle u.phase)) : KeepsInvariants s (t.settle s.phase) :=
  h.trans (hu ▸ hsettle)

theorem State.settle_same {s : State} (p : Phase) (h : s.phase = p) : s.settle p = s := by
  simp [State.settle, h]

theorem KeepsInvariants.settle_still {s t : State} (h : KeepsInvariants s t) (hphase : t.phase = s.phase) :
    KeepsInvariants s (t.settle s.phase) := by
  rwa [State.settle_same _ hphase]

theorem State.settled_completeInjecting_keeps {s : State} (h : s.phase = .injecting) (r : ReckRecord) :
    KeepsInvariants s (s.settled (State.completeInjecting r)) := by
  have hchecks := s.injectingChecks_keeps r
  have hphase := s.injectingChecks_phase r
  refine hchecks.settle_after hphase ?_
  unfold State.completeInjecting
  simp only
  split
  · refine State.settled_closeStage_keeps (f := fun _ => _) rfl ?_ ?_ <;> simp [hphase, h]
  · exact KeepsInvariants.settle_still (.refl _) rfl

/-- R81, R83: the end of a test step, in TESTING. -/
theorem State.settled_endTestStep_keeps {s : State} (h : s.phase = .testing) (x : TestState) (st : StageRecord) :
    KeepsInvariants s (s.settled (State.endTestStep x st)) := by
  by_cases hlast : x.step < 5
  · have hnext : SameStanding s (s.endTestStep x st) := by
      simp only [State.endTestStep, hlast, if_true]
      exact .of_registers rfl ⟨rfl, rfl⟩ rfl rfl rfl rfl rfl
    have hphase : (s.endTestStep x st).phase = s.phase := by
      simp only [State.endTestStep, hlast, if_true]
      rfl
    exact hnext.keeps.settle_still hphase
  · let done : StageRecord → StageRecord :=
      fun r => { r with results := .complete (x.records ++ [x.stepRecord st.length]) }
    have hend : s.endTestStep x st = (s.modStage done).enterWaiting .none := by
      simp [State.endTestStep, hlast, done]
    have hphase : (s.modStage done).phase = .testing := (State.modStage_phase (by intro st; rfl) s).trans h
    have hopen : (s.modStage done).phase ≠ .vacant := by simp [hphase]
    refine .of_moved (f := State.endTestStep x st) ?_ (.inr ?_) ?_
    · rw [hend]
      exact (State.modStage_phaseFrame (by intro st; rfl) s).trans (State.enterWaiting_phaseFrame _ _)
    · rw [hend]
      exact State.enterWaiting_handed hopen _
    · rw [hend]
      rcases State.enterWaiting_moves hopen .none with hp | hp <;> simp [hp, h]

theorem State.settled_completeTest_keeps {s : State} (h : s.phase = .testing) (q : Nat) (p : Int) :
    KeepsInvariants s (s.settled (State.completeTest q p)) := by
  have hcount (x : TestState) : KeepsInvariants s { s with seq := { s.seq with test := some x } } :=
    (SameStanding.of_registers rfl ⟨rfl, rfl⟩ rfl rfl rfl rfl rfl).keeps
  unfold State.settled State.completeTest
  split
  · simp only
    split
    · exact State.settled_endTestStep_keeps h _ _
    · exact (hcount _).settle_still rfl
  · exact KeepsInvariants.settle_still (.refl s) rfl

theorem State.settled_completeSequencer_keeps (q : Nat) (r : ReckRecord) (s : State) :
    KeepsInvariants s (s.settled (State.completeSequencer q r)) := by
  unfold State.settled State.completeSequencer
  split
  · next h => exact State.settled_completeTest_keeps h q r.pEff
  · next h => exact State.settled_completeInjecting_keeps h r
  · exact KeepsInvariants.settle_still (.refl s) rfl

/-! ## The Coordination Unit (R148 to R167) -/

/-- A change of the Coordination Unit, told to the link, and evaluated. -/
theorem State.told_keeps {s : State} {c : Coordination} (h : c.allowance = s.coord.allowance) :
    KeepsInvariants s (State.evaluate (State.urgent { s with coord := c })) := by
  have htold := (SameStanding.of_coord h).keeps.trans (State.urgent_sameStanding { s with coord := c }).keeps
  exact .evaluate htold.1

theorem State.evaluate_keeps (s : State) : KeepsInvariants s s.evaluate := .evaluate (.refl s)

/-- R72: in INJECTING a changed allowance cuts S to the new cap. -/
theorem State.setAllowance_keeps (a : Nat) (s : State) : KeepsInvariants s (s.setAllowance a) := by
  have hphase : (s.setAllowance a).phase = s.phase := State.phase_congr (by simp)
  have hstandoff : StandoffStands s (s.setAllowance a) :=
    ⟨by simp, by simp, by simp, by simp, by simp, hphase, by simp,
      fun _ => .inl (by rw [State.restraints_congr (s := s) (by simp)])⟩
  refine ⟨.of_pump ?_ (by simp) (by simp) (by simp) (by simp), hstandoff.follows⟩
  rintro ⟨hidle, hvalve, hsuction, htesting, -⟩
  by_cases hp : s.phase = .injecting
  · have hcut : (s.setAllowance a).reg = { s.reg with stroke := min s.reg.stroke (s.setAllowance a).injectingCap } := by
      have hin : ({ s with coord := { s.coord with allowance := a } } : State).phase = .injecting := hp
      simp [State.setAllowance, hin, State.injectingCap]
    rw [PumpFollowsPhase, hphase, hcut]
    exact ⟨fun h => by simp [hp, Phase.pumping] at h, hvalve, hsuction, fun h => by simp [hp] at h,
      fun _ => Nat.min_le_right _ _⟩
  · have hin : ({ s with coord := { s.coord with allowance := a } } : State).phase ≠ .injecting := hp
    have hreg : (s.setAllowance a).reg = s.reg := by simp [State.setAllowance, hin]
    rw [PumpFollowsPhase, hphase, hreg]
    exact ⟨hidle, hvalve, hsuction, fun h => by simpa using htesting h, fun h => absurd h hp⟩

theorem State.formSupply_keeps (s : State) : KeepsInvariants s s.formSupply := by
  have hruns (u : State) : KeepsInvariants u u.supplyRuns := (SameStanding.of_coord (by rfl)).keeps
  unfold State.formSupply
  simp only
  refine KeepsInvariants.trans ?_ (hruns _)
  refine KeepsInvariants.trans ?_ (State.setAllowance_keeps _ _)
  exact (SameStanding.of_coord (by rfl)).keeps

theorem State.judgeSupply_keeps (n : Nat) (s : State) : KeepsInvariants s (s.judgeSupply n) := by
  unfold State.judgeSupply
  exact .ite (fun _ => s.settled_presentSupply_keeps true) fun _ =>
    .ite (fun _ => s.settled_presentSupply_keeps false) fun _ => .refl s

theorem State.supplyEvaluation_keeps (s : State) : KeepsInvariants s s.supplyEvaluation := by
  unfold State.supplyEvaluation
  exact .ite (fun _ => s.formSupply_keeps.trans (State.judgeSupply_keeps _ _)) fun _ => .refl s

theorem State.sampleHeader_keeps (s : State) : KeepsInvariants s s.sampleHeader := by
  have hrun (n : Nat) : KeepsInvariants s { s with coord := { s.coord with headerRun := n } } :=
    (SameStanding.of_coord (by rfl)).keeps
  unfold State.sampleHeader
  refine .ite (fun _ => .ite (fun _ => ?_) fun _ => hrun _) fun _ => .refl s
  exact (hrun _).trans (State.settled_presentSupply_keeps true _)

theorem State.startReport_keeps (s : State) : KeepsInvariants s s.startReport := State.told_keeps rfl

theorem State.clearReport_keeps (s : State) : KeepsInvariants s s.clearReport := State.told_keeps rfl

theorem State.sampleConnection_keeps (s : State) : KeepsInvariants s s.sampleConnection := by
  have hruns (c : Coordination) (h : c.allowance = s.coord.allowance) : KeepsInvariants s { s with coord := c } :=
    (SameStanding.of_coord h).keeps
  unfold State.sampleConnection
  refine .ite (fun _ => .ite (fun _ => hruns _ rfl) fun _ => ?_) fun _ => .refl s
  refine .ite (fun _ => s.startReport_keeps) fun _ => .ite (fun _ => s.clearReport_keeps) fun _ => ?_
  exact .ite (fun _ => hruns _ rfl) fun _ => hruns _ rfl

theorem State.sampleUplift_keeps (s : State) : KeepsInvariants s s.sampleUplift := by
  unfold State.sampleUplift
  refine .ite (fun _ => ?_) fun _ => .refl s
  split
  · exact .refl s
  · exact .ite (fun _ => (SameStanding.of_coord (by rfl)).keeps) fun _ => State.told_keeps rfl

theorem State.refreshSuspects_keeps (s : State) : KeepsInvariants s s.refreshSuspects := by
  have hlist (l : List Identity) : KeepsInvariants s { s with coord := { s.coord with suspects := l } } :=
    (SameStanding.of_coord (by rfl)).keeps
  unfold State.refreshSuspects
  refine .ite (fun _ => .ite (fun _ => .refl s) fun _ => ?_) fun _ => .refl s
  exact (hlist _).trans (State.urgent_sameStanding _).keeps

/-- R154, R184: a change between LISTEN and RUNNING, with a change of the table, leaves the pump and the log. -/
theorem KeepsPumpAndLog.of_station {s t : State} (hworking : t.working = true) (hseq : t.seq = s.seq)
    (hreg : t.reg = s.reg) (htag : t.conf.tag = s.conf.tag) (hallowance : t.coord.allowance = s.coord.allowance)
    (hlog : t.panel.log = s.panel.log) : KeepsPumpAndLog s t := by
  have hphase : t.phase = s.phase := State.phase_congr (by rw [hseq])
  refine ⟨fun ⟨_, hpump⟩ => ⟨fun hw => by simp [hworking] at hw, ?_⟩, .of_same hlog (by rw [hseq]) (by rw [hseq])⟩
  exact (PumpMoves.of_same hphase hreg).keeps htag hallowance hpump

theorem State.endListen_keeps (s : State) : KeepsInvariants s s.endListen :=
  .evaluate (.of_station rfl rfl rfl rfl rfl rfl)

theorem State.boundaryCoordination_keeps (s : State) : KeepsInvariants s s.boundaryCoordination := by
  unfold State.boundaryCoordination
  refine .ite (fun _ => ?_) fun _ => .refl s
  have hlisten : KeepsInvariants s (if s.listenOver then s.endListen else s) :=
    .ite (fun _ => s.endListen_keeps) fun _ => .refl s
  exact (hlisten.trans (State.refreshSuspects_keeps _)).trans (State.evaluate_keeps _)

/-! ## The Neighbour Table (R132 to R145) -/

/-- A change of the table alone leaves the pump and the log; the evaluation that follows sees to STANDOFF. -/
theorem KeepsPumpAndLog.of_table {s t : State} (hseq : t.seq = s.seq) (hreg : t.reg = s.reg) (hconf : t.conf = s.conf)
    (hcoord : t.coord = s.coord) (hlog : t.panel.log = s.panel.log) : KeepsPumpAndLog s t := by
  have hphase : t.phase = s.phase := State.phase_congr (by rw [hseq])
  exact .of_pump ((PumpMoves.of_same hphase hreg).keeps (by rw [hconf]) (by rw [hcoord])) (by rw [hconf]) hlog
    (by rw [hseq]) (by rw [hseq])

theorem State.setEntries_evaluate_keeps (l : List Entry) (s : State) : KeepsInvariants s (s.setEntries l).evaluate :=
  .evaluate (.of_table (by simp) (by simp) (by simp) (by simp) (by simp))

theorem State.countLink_sameStanding (f : LinkCounters → LinkCounters) (s : State) : SameStanding s (s.countLink f) :=
  .of_blocks (by simp) (by simp) (by simp) (by simp) (by simp) (by simp)

theorem State.hearOwn_keeps (s : State) : KeepsInvariants s s.hearOwn := by
  unfold State.hearOwn
  simp only
  split
  · next hwas =>
    split <;> exact SameStanding.keeps (.of_seq (by rfl) (by simp) (by rfl) (by simp) (by simp [hwas]) (by rfl))
  · exact .evaluate (.of_table (by simp) (by simp) (by simp) (by simp) (by simp))

theorem State.admission_keeps (b : Bulletin) (s : State) : KeepsInvariants s (s.admission b) := by
  have hcount (f : LinkCounters → LinkCounters) : KeepsInvariants s (s.countLink f) :=
    (s.countLink_sameStanding f).keeps
  have hfull (f : LinkCounters → LinkCounters) (d : Option Detail) :
      KeepsInvariants s ((s.countLink f).report .tableFull d) :=
    (hcount f).trans (State.report_sameStanding _ _ _).keeps
  unfold State.admission
  refine .ite (fun _ => s.hearOwn_keeps) fun _ => .ite (fun _ => hcount _) fun _ => ?_
  split
  · exact .ite (fun _ => s.setEntries_evaluate_keeps _) fun _ => hcount _
  · refine .ite (fun _ => s.setEntries_evaluate_keeps _) fun _ => ?_
    split
    · exact .ite (fun _ => s.setEntries_evaluate_keeps _) fun _ => hfull _ _
    · exact hfull _ _

theorem State.clearDuplicate_keeps (s : State) : KeepsInvariants s s.clearDuplicate :=
  .evaluate (.of_table (by simp) (by simp) (by simp) (by simp) (by simp))

theorem State.ageEntries_keeps (n : Nat) (s : State) : KeepsInvariants s (s.ageEntries n) := by
  unfold State.ageEntries
  refine .ite (fun _ => .refl s) fun _ => .evaluate (.of_table ?_ ?_ ?_ ?_ ?_) <;> simp

theorem State.markStale_keeps (id : Identity) (s : State) : KeepsInvariants s (s.markStale id) :=
  s.setEntries_evaluate_keeps _

theorem State.removeEntry_keeps (e : Entry) (s : State) : KeepsInvariants s (s.removeEntry e) :=
  .evaluate (.of_table (by simp) (by simp) (by simp) (by simp) (by simp))

/-! ## The tag (R181) -/

/-- A station that loads holds no stage, and comes out of it without one. -/
theorem State.unconfigure_keeps {s : State} (h : s.conf.station = .loading) (r : LoadResult) :
    KeepsInvariants s (s.unconfigure r) := by
  have hidle : s.working = false := by simp [State.working, h]
  have hafter : (s.unconfigure r).working = false := by simp [State.working, State.unconfigure]
  refine ⟨⟨fun ⟨hclosed, hpump⟩ => ⟨fun _ => by simpa using hclosed hidle, ?_⟩, .of_same (by simp) (by simp) (by simp)⟩,
    fun _ hw => by simp [hafter] at hw⟩
  have hphase : (s.unconfigure r).phase = s.phase := State.phase_congr (by simp)
  exact (PumpMoves.of_same hphase (by simp)).keeps (by simp [State.unconfigure]) (by simp) hpump

/-- Outside TESTING and INJECTING no cap bounds S, so that the settings and the allowance do not matter. -/
theorem PumpFollowsPhase.of_idle {s t : State} (h : PumpFollowsPhase s) (hidle : s.phase.pumping = false)
    (hphase : t.phase = s.phase) (hreg : t.reg = s.reg) : PumpFollowsPhase t := by
  obtain ⟨hstroke, hvalve, hsuction, -⟩ := h
  rw [PumpFollowsPhase, hphase, hreg]
  exact ⟨hstroke, hvalve, hsuction, fun _ => by simp [hstroke hidle], fun _ => by simp [hstroke hidle]⟩

/-- The settings come into force while no stage is open, so that no cap is in use. -/
theorem State.configure_keeps {s : State} (h : s.conf.station = .loading) (t : Tag) (ps : List Profile) :
    KeepsInvariants s (s.configure t ps) := by
  have hidle : s.working = false := by simp [State.working, h]
  refine .evaluate ⟨fun ⟨hclosed, hpump⟩ => ⟨fun _ => hclosed hidle, hpump.of_idle ?_ rfl rfl⟩, .of_same rfl rfl rfl⟩
  simp [State.phase, hclosed hidle, Phase.pumping]

theorem State.loadCompleted_keeps {s : State} (h : s.conf.station = .loading) (j : Judgement) :
    KeepsInvariants s (s.loadCompleted j) := by
  cases j with
  | absent => exact State.unconfigure_keeps h _
  | crcFailed => exact State.unconfigure_keeps h _
  | outOfRange o => exact State.unconfigure_keeps h _
  | accepted t ps => exact State.configure_keeps h t ps

theorem State.loadTimedOut_loading {s : State} (h : s.loadTimedOut = true) : s.conf.station = .loading := by
  simp only [State.loadTimedOut, Bool.and_eq_true, beq_iff_eq] at h
  exact h.1

/-! ## A second boundary -/

theorem State.settled_boundaryHold_keeps {s : State} (h : s.phase = .holding) :
    KeepsInvariants s (s.settled State.boundaryHold) := by
  let u : State := s.modStage fun st => { st with holdTimer := st.holdTimer + 1 }
  have hcount : KeepsInvariants s u := (State.modStage_sameStanding (by intro st; exact ⟨rfl, rfl, rfl⟩) s).keeps
  have hphase : u.phase = s.phase := State.modStage_phase (by intro st; rfl) s
  refine hcount.settle_after hphase ?_
  unfold State.boundaryHold
  simp only
  split
  · split
    · refine State.settled_closeStage_keeps (f := fun _ => _) rfl ?_ ?_ <;> simp [hphase, h]
    · exact KeepsInvariants.settle_still (.refl u) rfl
  · exact KeepsInvariants.settle_still (.refl u) rfl

theorem State.boundaryMix_phase (s : State) : s.boundaryMix.phase = s.phase := by
  unfold State.boundaryMix
  split
  · split
    · refine (State.makeCurrent_phase _ _).trans ((State.modStage_phase (by intro st; rfl) _).trans ?_)
      exact State.phase_congr (by simp)
    · exact State.modStage_phase (by intro st; rfl) s
  · rfl

theorem State.boundaryMix_keeps (s : State) : KeepsInvariants s s.boundaryMix := by
  unfold State.boundaryMix
  split
  · refine .ite (fun _ => s.timeoutMix_keeps _) fun _ => ?_
    exact (State.modStage_sameStanding (by intro st; exact ⟨rfl, rfl, rfl⟩) s).keeps
  · exact .refl s

theorem State.settled_boundarySequencer_keeps (s : State) : KeepsInvariants s (s.settled State.boundarySequencer) := by
  unfold State.settled State.boundarySequencer
  split
  · next h => exact State.settled_boundaryHold_keeps h
  · exact s.boundaryMix_keeps.settle_still s.boundaryMix_phase
  · exact KeepsInvariants.settle_still (.refl s) rfl

theorem State.boundaryTask_keeps (n : Nat) (task : BoundaryTask) (s : State) :
    KeepsInvariants s (s.boundaryTask n task) := by
  cases task with
  | tagTimeout => exact .ite (fun h => State.loadCompleted_keeps (State.loadTimedOut_loading h) _) fun _ => .refl s
  | sequencer => exact s.settled_boundarySequencer_keeps
  | counters =>
    have hcounters : SameStanding s s.boundaryCounters :=
      .of_blocks (by simp) (by simp) (by simp) (by simp) (by simp) (by simp)
    exact hcounters.keeps
  | duplicate => exact .ite (fun _ => s.clearDuplicate_keeps) fun _ => .refl s
  | aging => exact s.ageEntries_keeps n
  | coordination => exact s.boundaryCoordination_keeps
  | faults =>
    have hfaults : SameStanding s s.boundaryFaults :=
      .of_blocks (by simp) (by simp) (by simp) (by simp) (by simp) (by simp)
    exact hfaults.keeps

theorem State.boundaryWork_keeps (ord : BoundaryOrder) (s : State) : KeepsInvariants s (s.boundaryWork ord) :=
  List.foldlRecOn (motive := KeepsInvariants s) _ _ (.refl s) fun t ht task _ =>
    ht.trans (State.boundaryTask_keeps _ task t)

theorem State.setTime_keeps (x : Timebase) (s : State) : KeepsInvariants s { s with time := x } :=
  (SameStanding.of_blocks rfl rfl rfl rfl rfl rfl).keeps

theorem State.secondBoundary_keeps (ord : BoundaryOrder) (s : State) : KeepsInvariants s (s.secondBoundary ord) :=
  .ite (fun _ => (s.setTime_keeps _).trans (State.boundaryWork_keeps ord _)) fun _ => .refl s

/-! ## A sample set -/

theorem State.sampleCounters_keeps (flow gauge stroke : Nat) (s : State) :
    KeepsInvariants s (s.sampleCounters flow gauge stroke) := by
  obtain ⟨f, h, hopened, hheld⟩ := s.sampleCounters_seq flow gauge stroke
  have hf (st : StageRecord) :
      (f st).asOpened = st.asOpened ∧ (f st).phase = st.phase ∧ (f st).restraints = st.restraints :=
    ⟨hopened st, (hheld st).1, (hheld st).2.1⟩
  have hsame : SameStanding s (s.sampleCounters flow gauge stroke) :=
    .of_stage (by rw [h]; rfl) hf (by rw [h]; rfl) (by rw [h]; rfl) (by simp) (by simp) (by simp) (by simp) (by simp)
  exact hsame.keeps

theorem State.offerSet_keeps (set : SampleSet) (s : State) : KeepsInvariants s (s.offerSet set) := by
  have hsame : SameStanding s (s.offerSet set) :=
    .of_blocks (by simp) (by simp) (by simp) (by simp) (by simp) (by simp)
  exact hsame.keeps

theorem State.sampleConfirm_keeps (s : State) : KeepsInvariants s s.sampleConfirm := by
  have hrun (n : Nat) : KeepsInvariants s { s with seq := { s.seq with confirmRun := n } } :=
    (SameStanding.of_registers rfl ⟨rfl, rfl⟩ rfl rfl rfl rfl rfl).keeps
  unfold State.sampleConfirm
  split
  · exact .refl s
  · exact .ite (fun _ => .ite (fun _ => s.confirmMix_keeps _) fun _ => hrun _) fun _ => hrun _

theorem State.sampleTask_keeps (set : SampleSet) (task : SampleTask) (p : State × Nat) :
    KeepsInvariants p.1 (State.sampleTask set task p).1 := by
  obtain ⟨s, stroke⟩ := p
  cases task with
  | trip =>
    simp only [State.sampleTask]
    split
    · next htrips =>
      obtain ⟨hpump, -⟩ := s.trips_iff.mp htrips
      exact State.trip_keeps hpump
    · exact .refl s
  | field => exact s.settled_presentField_keeps
  | counters => exact s.sampleCounters_keeps _ _ _
  | envelope => exact s.offerSet_keeps set
  | confirm => exact s.sampleConfirm_keeps
  | uplift => exact s.sampleUplift_keeps
  | connection => exact s.sampleConnection_keeps
  | header => exact s.sampleHeader_keeps

theorem State.sampleWork_keeps (set : SampleSet) (ord : List SampleTask) (stroke : Nat) (s : State) :
    KeepsInvariants s (s.sampleWork set ord stroke) :=
  List.foldlRecOn (motive := fun p : State × Nat => KeepsInvariants s p.1) _ _ (.refl s) fun p hp task _ =>
    hp.trans (State.sampleTask_keeps set task p)

/-- A change of the Measurement Unit, the time and the fault record. -/
theorem OnlyChanges.keeps {s t : State} (h : OnlyChanges [.time, .meas, .env, .take, .link, .faults, .queue, .free] s t) :
    KeepsInvariants s t := by
  have hpanel : t.panel = s.panel := h .panel (by simp)
  exact (SameStanding.of_blocks (h .seq (by simp)) (h .reg (by simp)) (h .coord (by simp)) (h .conf (by simp))
    (h .table (by simp)) (by rw [hpanel])).keeps

theorem State.buildSet_keeps (s : State) : KeepsInvariants s s.buildSet :=
  (SameStanding.of_blocks (by simp) (by simp) (by simp) (by simp) (by simp) (by simp)).keeps

theorem State.takeSampleSet_keeps (inp : SampleInput) (ord : SampleOrder) (s : State) :
    KeepsInvariants s (s.takeSampleSet inp ord) := by
  have hjudged : KeepsInvariants s (s.judgeInputs inp ord.channels).buildSet :=
    ((s.judgeInputs_onlyChanges inp ord.channels).mono (by simp)).keeps.trans (State.buildSet_keeps _)
  unfold State.takeSampleSet
  simp only
  split
  · exact hjudged.trans (State.sampleWork_keeps _ _ _ _)
  · exact hjudged

theorem State.sampleSet_keeps (inp : SampleInput) (ord : SampleOrder) (s : State) :
    KeepsInvariants s (s.sampleSet inp ord) := by
  have hoverdue : KeepsInvariants s s.overdueBoundary :=
    .ite (fun _ => s.secondBoundary_keeps _) fun _ => .refl s
  exact (hoverdue.trans (State.setTime_keeps _ _)).trans (State.takeSampleSet_keeps inp ord _)

theorem State.presentChange_keeps (s : State) : KeepsInvariants s s.presentChange := by
  have hamended : KeepsInvariants s s.amendLatest :=
    (SameStanding.of_blocks (by simp) (by simp) (by simp) (by simp) (by simp) (by simp)).keeps
  exact hamended.trans (State.settled_presentField_keeps _)

/-! ## A completion -/

theorem State.completeTask_keeps (l : Latched) (r : ReckRecord) (task : CompletionTask) (s : State) :
    KeepsInvariants s (s.completeTask l r task) := by
  cases task with
  | regulator => exact s.completeRegulator_keeps _ _
  | sequencer => exact s.settled_completeSequencer_keeps _ _
  | supply => exact s.supplyEvaluation_keeps
  | counters =>
    have hcounters : SameStanding s (s.completionCounters l.flow r.pEff) :=
      .of_blocks (by simp) (by simp) (by simp) (by simp) (by simp) (by simp)
    exact hcounters.keeps

theorem State.completionWork_keeps (ord : List CompletionTask) (l : Latched) (r : ReckRecord) (s : State) :
    KeepsInvariants s (s.completionWork ord l r) :=
  List.foldlRecOn (motive := KeepsInvariants s) _ _ (.refl s) fun t ht task _ =>
    ht.trans (State.completeTask_keeps l r task t)

end Sys2Proof.Machine
end

section
/-! SUPPORT. Every row of the table, every console command and the idle step keep the three invariants. -/

namespace Sys2Proof.Machine

/-! ## OPEN (R18, R19) -/

/-- R18: the number found is held by no record, or every number tried is held. -/
theorem nextNumber_fresh_or (held : List Nat) (fuel n : Nat) :
    nextNumber held fuel n ∉ held ∨ ∀ i < fuel, (n + 1 + i) % 65536 ∈ held := by
  induction fuel generalizing n with
  | zero => simp
  | succ fuel ih =>
    simp only [nextNumber]
    split
    · next hheld =>
      rw [List.contains_iff_mem] at hheld
      refine (ih ((n + 1) % 65536)).imp_right fun hall i hi => ?_
      cases i with
      | zero => exact hheld
      | succ i =>
        have hnext : ((n + 1) % 65536 + 1 + i) % 65536 = (n + 1 + (i + 1)) % 65536 := by omega
        exact hnext ▸ hall i (by omega)
    · next hfresh =>
      rw [List.contains_iff_mem] at hfresh
      exact .inl hfresh

/-- R18: among seventeen numbers in a row one is on none of at most sixteen records. -/
theorem nextNumber_fresh {held : List Nat} (h : held.length ≤ 16) (n : Nat) : nextNumber held 17 n ∉ held := by
  refine (nextNumber_fresh_or held 17 n).resolve_right fun hall => ?_
  let tried : List Nat := (List.range 17).map fun i => (n + 1 + i) % 65536
  have hnodup : tried.Nodup := by
    refine List.Nodup.map_on (fun i hi j hj hij => ?_) List.nodup_range
    rw [List.mem_range] at hi hj
    omega
  have hsub : tried ⊆ held := by
    intro x hx
    obtain ⟨i, hi, rfl⟩ := List.mem_map.mp hx
    exact hall i (List.mem_range.mp hi)
  have hlength := (hnodup.subperm hsub).length_le
  simp only [tried, List.length_map, List.length_range] at hlength
  omega

theorem nextNumber_of_free {held : List Nat} {n : Nat} (h : (n + 1) % 65536 ∉ held) :
    nextNumber held 17 n = (n + 1) % 65536 := by
  simp [nextNumber, h]

/-- R18: the number that OPEN gives the new stage. -/
def State.openNumber (s : State) : Nat := nextNumber (s.panel.log.map (·.stage.number)) 17 s.seq.counter

/-- R19: the record that OPEN creates. -/
def State.openRecord (top bottom profile : Nat) (waterTest autoAdvance : Bool) (s : State) : StageRecord :=
  .opened s.openNumber s.own top bottom profile waterTest autoAdvance s.time.clock

theorem State.handover_seq (old new : Phase) (s : State) : (s.handover old new).seq = s.seq.handed old new := by
  simp [State.handover]

theorem State.handover_reg (old new : Phase) (s : State) : (s.handover old new).reg = s.reg.handed old new := by
  simp [State.handover]

section
variable (top bottom profile : Nat) (waterTest autoAdvance : Bool) (s : State)

/-- R63: the new commanded step leaves the Sequencer as OPEN set it, whose refusal timer is 0 already. -/
theorem State.createStage_seq :
    (s.createStage top bottom profile waterTest autoAdvance).seq
      = s.seq.opened s.openNumber (s.openRecord top bottom profile waterTest autoAdvance) := by
  unfold State.createStage State.setCommanded
  simp only
  obtain ⟨h | h, -⟩ := State.recomputeStep_recomputed
    (State.effective _) { s with
      seq := s.seq.opened s.openNumber (s.openRecord top bottom profile waterTest autoAdvance)
      take := s.take.opened s.openNumber
      reg := { s.reg.opened with commanded := (s.profileAt profile).start }
      coord := s.coord.opened
      env := { s.env with replaced := 0 }
      conf := { s.conf with lock := true } }
  · exact h
  · exact h

/-- R63, R78: the Regulator at OPEN. -/
theorem State.createStage_reg :
    (s.createStage top bottom profile waterTest autoAdvance).reg
      = { s.reg.opened with commanded := (s.profileAt profile).start } := by
  unfold State.createStage State.setCommanded
  simp only
  obtain ⟨-, h | h⟩ := State.recomputeStep_recomputed
    (State.effective _) { s with
      seq := s.seq.opened s.openNumber (s.openRecord top bottom profile waterTest autoAdvance)
      take := s.take.opened s.openNumber
      reg := { s.reg.opened with commanded := (s.profileAt profile).start }
      coord := s.coord.opened
      env := { s.env with replaced := 0 }
      conf := { s.conf with lock := true } }
  · exact h
  · exact h

/-- R169, R113, R43, R183: the other blocks at OPEN. -/
theorem State.createStage_blocks :
    (s.createStage top bottom profile waterTest autoAdvance).coord = s.coord.opened
      ∧ (s.createStage top bottom profile waterTest autoAdvance).take = s.take.opened s.openNumber
      ∧ (s.createStage top bottom profile waterTest autoAdvance).env = { s.env with replaced := 0 }
      ∧ (s.createStage top bottom profile waterTest autoAdvance).conf = { s.conf with lock := true } := by
  simp only [State.createStage, State.setCommanded_frame, true_and, and_true]
  rfl

/-- The state that the evaluation of an accepted OPEN finds: the stage created and its phase handed over. -/
def State.packedAnew : State := (s.createStage top bottom profile waterTest autoAdvance).handover .vacant .packed

theorem State.packedAnew_stage :
    (s.packedAnew top bottom profile waterTest autoAdvance).seq.stage
      = some (s.openRecord top bottom profile waterTest autoAdvance) := by
  simp [State.packedAnew, State.handover_seq, State.createStage_seq, Sequencer.handed, Sequencer.opened]

theorem State.packedAnew_phase : (s.packedAnew top bottom profile waterTest autoAdvance).phase = .packed :=
  State.phase_of_stage (s.packedAnew_stage top bottom profile waterTest autoAdvance)

theorem State.packedAnew_handed : PumpHanded (s.packedAnew top bottom profile waterTest autoAdvance) := by
  rw [PumpHanded, State.packedAnew_phase]
  simp [State.packedAnew, State.handover_reg, Regulator.handed]

/-- R18, R19: an accepted OPEN of a configured station. -/
theorem State.openStage_keeps (hw : s.working = true) :
    KeepsInvariants s (s.openStage top bottom profile waterTest autoAdvance) := by
  have hstage := s.packedAnew_stage top bottom profile waterTest autoAdvance
  have hworking : (s.packedAnew top bottom profile waterTest autoAdvance).working = true := by
    have hconf : (s.packedAnew top bottom profile waterTest autoAdvance).conf.station = s.conf.station := by
      simp [State.packedAnew, State.createStage_blocks]
    simpa [State.working, hconf] using hw
  have hlog : (s.packedAnew top bottom profile waterTest autoAdvance).panel.log = s.panel.log := by
    simp [State.packedAnew]
  have hcounter : (s.packedAnew top bottom profile waterTest autoAdvance).seq.counter = s.openNumber := by
    simp [State.packedAnew, State.handover_seq, State.createStage_seq, Sequencer.handed, Sequencer.opened]
  have hpump := s.packedAnew_handed top bottom profile waterTest autoAdvance
  refine .evaluate (t := s.packedAnew top bottom profile waterTest autoAdvance) ⟨fun _ => ?_, ?_⟩
  · exact ⟨fun hidle => by simp [hworking] at hidle, .of_handed hpump⟩
  · rintro ⟨hlength, hnodup, -⟩
    refine ⟨by rwa [hlog], by rwa [hlog], fun st hst => ?_⟩
    obtain rfl : s.openRecord top bottom profile waterTest autoAdvance = st := by simpa [hstage] using hst
    rw [hlog, hcounter]
    exact ⟨rfl, nextNumber_fresh (by simpa [logSize] using hlength) _⟩

end

/-! ## RESTART (R40, R184) -/

/-- A stopped pump still follows the phase of a stage that does not pump. -/
theorem State.stopPump_pump {s : State} (h : s.phase.pumping = false) (hs : PumpFollowsPhase s) :
    PumpFollowsPhase s.stopPump := by
  obtain ⟨-, -, hsuction, -⟩ := hs
  have hphase : s.stopPump.phase = s.phase := rfl
  rw [PumpFollowsPhase, hphase]
  exact ⟨fun _ => rfl, h.symm, hsuction, fun _ => Nat.zero_le _, fun _ => Nat.zero_le _⟩

theorem State.restartStage_phaseFrame (s : State) : PhaseFrame s s.restartStage := by
  unfold State.restartStage
  split
  · exact s.abandonTest_phaseFrame.trans (State.enterPhase_phaseFrame (by simp) _)
  · exact s.enterHolding_phaseFrame _
  · exact s.changeSet_phaseFrame _
  · exact s.changeSet_phaseFrame _
  · exact .refl s

/-- R40: RESTART takes a pumping stage out of its phase. -/
theorem State.restartStage_pumping {s : State} (h : s.phase.pumping = true) :
    s.restartStage.phase = (if s.phase = .testing then .packed else .holding) ∧ PumpHanded s.restartStage := by
  rcases Phase.pumping_iff.mp h with hp | hp
  · have hopen : s.abandonTest.phase ≠ .vacant := by simp [State.abandonTest_phase, hp]
    simp only [State.restartStage, hp, if_true]
    exact ⟨State.enterPhase_phase hopen _, State.enterPhase_handed hopen _⟩
  · have hopen : s.phase ≠ .vacant := by simp [hp]
    simp only [State.restartStage, hp]
    exact ⟨by simpa using State.enterHolding_phase hopen _, State.enterHolding_handed hopen _⟩

theorem State.union_operator_some (r : Restraints) : (r.union .onlyOperator).isEmpty = false := by
  rw [Restraints.union_isEmpty, Bool.and_eq_false_iff]
  exact .inr rfl

/-- R40: RESTART leaves the phase of a stage that does not pump, and STANDOFF in its set. -/
theorem State.restartStage_idle {s : State} (h : s.phase.pumping = false) :
    s.restartStage.phase = s.phase ∧ s.restartStage.reg = s.reg
      ∧ s.restartStage.restraints.standoff = s.restraints.standoff := by
  have hchange (hr : s.phase.restrained = true) (hto : s.restartStage = s.changeSet (s.restraints.union .onlyOperator)) :
      s.restartStage.phase = s.phase ∧ s.restartStage.reg = s.reg
        ∧ s.restartStage.restraints.standoff = s.restraints.standoff := by
    obtain ⟨hseq, hreg, -⟩ := State.changeSet_of_some (s := s) (State.union_operator_some s.restraints)
    have hphase := (State.phase_congr (congrArg Sequencer.stage hseq)).trans (State.setRestraints_phase _ s)
    rw [hto, State.changeSet_restraints hr hphase]
    exact ⟨hphase, hreg, by simp [Restraints.union, Restraints.onlyOperator, Restraints.none]⟩
  cases hp : s.phase with
  | testing | injecting => simp [hp, Phase.pumping] at h
  | waiting | holding => exact hp ▸ hchange (by simp [hp, Phase.restrained]) (by simp [State.restartStage, hp])
  | vacant | packed | closed => simp [State.restartStage, hp]

theorem State.settled_restartStage_keeps (s : State) :
    KeepsInvariants s ((s.stopPump.restartStage).settle s.phase) := by
  have hframe := s.stopPump.restartStage_phaseFrame
  obtain ⟨-, -, -, -, htable, hpanel, hconf, -⟩ := hframe.blocks
  have hphase : s.stopPump.phase = s.phase := rfl
  cases hp : s.phase.pumping with
  | true =>
    obtain ⟨hmoved, hpump⟩ := State.restartStage_pumping (s := s.stopPump) hp
    refine .settle (.of_stopped (by simp) hframe hpump) fun hstill => ?_
    rw [hmoved, hphase] at hstill
    rcases Phase.pumping_iff.mp hp with hp | hp <;> simp [hp] at hstill
  | false =>
    obtain ⟨hstill, hreg, hset⟩ := State.restartStage_idle (s := s.stopPump) hp
    refine .settle ?_ fun _ => ?_
    · refine .of_pump (fun hs => ?_) (by simp) (by simp) hframe.counter hframe.opened
      exact (PumpMoves.of_same hstill hreg).keeps (by rw [hconf]) hframe.allowance (s.stopPump_pump hp hs)
    · have hkept : s.stopPump.restartStage.seq.kept = s.seq.kept := by
        unfold State.restartStage
        split <;> simp
      exact StandoffStands.follows ⟨by simp, by simp, by simp, by simp, hframe.opened,
        hstill, by rw [hkept], fun _ => .inl hset⟩

theorem State.setLink_keeps (l : Link) (s : State) : KeepsInvariants s { s with link := l } :=
  SameStanding.keeps (.of_blocks (by rfl) (by rfl) (by rfl) (by rfl) (by rfl) (by rfl))

theorem State.restart_keeps (s : State) : KeepsInvariants s s.restart := by
  have hstage : KeepsInvariants s (s.stopPump.settled State.restartStage) := s.settled_restartStage_keeps
  have hlink := hstage.trans (State.setLink_keeps (s.stopPump.settled State.restartStage).link.restart _)
  exact hlink.trans (.evaluate (.of_station (by rfl) (by rfl) (by rfl) (by rfl) (by rfl) (by rfl)))

/-! ## The console commands -/

/-- A command that passes the general checks finds a station that works, or is one that is always taken (R172). -/
theorem State.generalCheck_working {s : State} {c : PanelCmd} (h : s.generalCheck c = none) :
    s.working = true ∨ c.unconfiguredToo = true := by
  unfold State.generalCheck at h
  split at h
  · cases h
  · split at h
    · cases h
    · next hcheck =>
      by_contra hnot
      push Not at hnot
      simp [hnot] at hcheck

theorem State.setConf_keeps {s : State} {c : Configuration} (hstation : c.station = s.conf.station)
    (htag : c.tag = s.conf.tag) : KeepsInvariants s { s with conf := c } :=
  SameStanding.keeps (.of_seq (by rfl) (by simp) (by rfl) ⟨hstation, htag⟩ (by simp) (by rfl))

theorem State.setPanel_keeps {s : State} {p : Panel} (h : p.log = s.panel.log) : KeepsInvariants s { s with panel := p } :=
  SameStanding.keeps (.of_blocks (by rfl) (by rfl) (by rfl) (by rfl) (by rfl) h)

theorem State.doOpen_keeps {s : State} (hw : s.working = true) (top bottom : Nat) (profile test advance : Byte) :
    KeepsInvariants s (s.doOpen top bottom profile test advance).state := by
  unfold State.doOpen
  split
  · exact .refl s
  · split
    · exact .refl s
    · split
      · exact .refl s
      · exact s.openStage_keeps _ _ _ _ _ hw

theorem State.doStart_keeps (s : State) : KeepsInvariants s s.doStart.state := by
  unfold State.doStart
  split
  · next hp _ => exact State.settled_startStage_keeps hp _
  · exact .refl s

theorem State.doStep_keeps (n : Nat) (s : State) : KeepsInvariants s (s.doStep n).state := by
  unfold State.doStep
  split
  · exact .refl s
  · split
    · exact .refl s
    · exact s.takeStep_keeps _

theorem State.doHold_keeps (s : State) : KeepsInvariants s s.doHold.state := by
  unfold State.doHold
  split
  · exact s.settled_arrive_keeps rfl rfl
  · exact .refl s

theorem State.doRelease_keeps (s : State) : KeepsInvariants s s.doRelease.state := by
  unfold State.doRelease
  split
  · simp only
    split <;> exact s.settled_releaseStage_keeps
  · exact .refl s

theorem State.doStop_keeps (s : State) : KeepsInvariants s s.doStop.state := by
  unfold State.doStop
  split
  · exact s.settled_stopStage_keeps
  · exact .refl s

theorem State.doAbort_keeps (s : State) : KeepsInvariants s s.doAbort.state := by
  unfold State.doAbort
  split
  · exact s.settled_abortStage_keeps
  · exact .refl s

theorem State.doAccept_keeps (s : State) : KeepsInvariants s s.doAccept.state := by
  unfold State.doAccept
  split
  · next hp hst =>
    split
    · exact .refl s
    · next hroom => exact State.settled_acceptStage_keeps hst hp (by omega)
  · exact .refl s

theorem State.doRead_keeps (item window index : Byte) (s : State) :
    KeepsInvariants s (s.doRead item window index).state := by
  unfold State.doRead
  split
  · exact (SameStanding.of_blocks rfl rfl rfl rfl rfl rfl).keeps
  · exact .refl s

theorem State.doLogRead_keeps (k : Nat) (s : State) : KeepsInvariants s (s.doLogRead k).state := by
  unfold State.doLogRead
  split <;> exact .refl s

/-- R179: the records that stay are those that stood, less the oldest. -/
theorem State.doLogTake_keeps (s : State) : KeepsInvariants s s.doLogTake.state := by
  unfold State.doLogTake
  split
  · exact .refl s
  · next r rest hlog =>
    refine ⟨⟨fun ⟨hclosed, hpump⟩ => ⟨hclosed, hpump⟩, ?_⟩, StandoffStands.follows ?_⟩
    · rintro ⟨hlength, hnodup, hnumber⟩
      rw [hlog] at hlength hnodup hnumber
      refine ⟨?_, hnodup.of_cons, fun st hst => ?_⟩
      · exact (Nat.le_succ _).trans hlength
      · obtain ⟨hcounter, hfresh⟩ := hnumber st hst
        exact ⟨hcounter, fun hmem => hfresh (List.mem_cons_of_mem _ hmem)⟩
    · exact ⟨rfl, rfl, rfl, rfl, rfl, rfl, rfl, fun _ => .inl rfl⟩

theorem State.forceMix_keeps (n : Nat) (s : State) : KeepsInvariants s (s.forceMix n) :=
  (s.requestMix_sameStanding n).keeps.trans
    (State.modStage_sameStanding (by intro st; exact ⟨rfl, rfl, rfl⟩) _).keeps

theorem State.doMix_keeps (n : Nat) (s : State) : KeepsInvariants s (s.doMix n).state := by
  unfold State.doMix
  split
  · exact .refl s
  · split
    · exact .refl s
    · split
      · exact .refl s
      · split
        · exact .refl s
        · exact s.forceMix_keeps n

theorem State.doTune_keeps (profile field value : Nat) (s : State) :
    KeepsInvariants s (s.doTune profile field value).state := by
  unfold State.doTune
  split
  · exact .refl s
  · split
    · exact .refl s
    · split
      · exact .refl s
      · split
        · exact .refl s
        · exact State.setConf_keeps rfl rfl

theorem State.doAuto_keeps (setting : Byte) (s : State) : KeepsInvariants s (s.doAuto setting).state := by
  unfold State.doAuto
  split
  · exact .refl s
  · exact (SameStanding.of_blocks rfl rfl rfl rfl rfl rfl).keeps

theorem State.doMask_keeps (kind setting : Nat) (s : State) : KeepsInvariants s (s.doMask kind setting).state := by
  unfold State.doMask
  split
  · split
    · exact .refl s
    · exact (SameStanding.of_blocks rfl rfl rfl rfl rfl rfl).keeps
  · exact .refl s

/-- R174: whatever the owner of a command does, a station that works keeps the invariants, and OPEN alone needs that it
works. -/
theorem State.perform_keeps {s : State} {c : PanelCmd} (h : s.working = true ∨ c.unconfiguredToo = true) :
    KeepsInvariants s (s.perform c).state := by
  cases c with
  | openStage top bottom profile test advance =>
    exact State.doOpen_keeps (h.resolve_right (by simp [PanelCmd.unconfiguredToo])) _ _ _ _ _
  | start => exact s.doStart_keeps
  | stepTo n => exact s.doStep_keeps n
  | hold => exact s.doHold_keeps
  | release => exact s.doRelease_keeps
  | stop => exact s.doStop_keeps
  | abort => exact s.doAbort_keeps
  | accept => exact s.doAccept_keeps
  | read item window index => exact s.doRead_keeps _ _ _
  | logRead k => exact s.doLogRead_keeps k
  | logTake => exact s.doLogTake_keeps
  | mix n => exact s.doMix_keeps n
  | tune profile field value => exact s.doTune_keeps _ _ _
  | lock => exact State.setConf_keeps rfl rfl
  | auto setting => exact s.doAuto_keeps setting
  | mask kind setting => exact s.doMask_keeps _ _
  | restart => exact s.restart_keeps
  | snap | faultClear => exact (SameStanding.of_blocks rfl rfl rfl rfl rfl rfl).keeps
  | unknown code | badLength code args | status => exact .refl s

/-! ## The panel port -/

theorem State.setProcess_keeps (p : Option InProcess) (s : State) : KeepsInvariants s (s.setProcess p) :=
  State.setPanel_keeps rfl

theorem State.answer_keeps (c : PanelCmd) (s : State) : KeepsInvariants s (s.answer c).state := by
  unfold State.answer
  split
  · exact .refl s
  · next h => exact State.perform_keeps (State.generalCheck_working h)

theorem State.takeCommand_keeps (c : PanelCmd) (s : State) : KeepsInvariants s (s.takeCommand c) :=
  .ite (fun _ => s.setProcess_keeps _) fun _ => (s.answer_keeps c).trans (State.setProcess_keeps _ _)

theorem State.panelArrive_keeps (c : PanelCmd) (s : State) : KeepsInvariants s (s.panelArrive c) := by
  unfold State.panelArrive
  split
  · exact (s.report_sameStanding _ _).keeps
  · split
    · exact s.takeCommand_keeps c
    · exact State.setPanel_keeps rfl

theorem State.endResponse_keeps (s : State) : KeepsInvariants s s.endResponse := by
  unfold State.endResponse
  split
  · split
    · have hfree : KeepsInvariants s { s with panel := { s.panel with slot := none, inProcess := none } } :=
        State.setPanel_keeps (by rfl)
      exact hfree.trans (State.takeCommand_keeps _ _)
    · exact s.setProcess_keeps _
  · exact .refl s

theorem State.completeMessage_keeps (msg : List Byte) (s : State) : KeepsInvariants s (s.completeMessage msg) := by
  have hhunting : KeepsInvariants s (s.setPanelReceiver .hunting) := State.setPanel_keeps rfl
  unfold State.completeMessage
  simp only
  split
  · split
    · exact hhunting.trans (State.panelArrive_keeps _ _)
    · exact hhunting
  · exact hhunting.trans (State.setPanel_keeps rfl)

theorem Panel.silenceReached_log (p : Panel) : p.silenceReached.log = p.log := by
  unfold Panel.silenceReached
  (repeat' split) <;> rfl

theorem State.panelByte_keeps (b : Byte) (s : State) : KeepsInvariants s (s.panelByte b) := by
  have hquiet : KeepsInvariants s { s with panel := { s.panel.silenceReached with silence := 0 } } :=
    State.setPanel_keeps s.panel.silenceReached_log
  have hreceiver (r : PanelReceiver) (u : State) : KeepsInvariants u (u.setPanelReceiver r) := State.setPanel_keeps rfl
  unfold State.panelByte
  simp only
  refine hquiet.trans ?_
  split
  · refine .ite (fun _ => hreceiver _ _) fun _ => (hreceiver _ _).trans (State.setPanel_keeps rfl)
  · exact .ite (fun _ => State.completeMessage_keeps _ _) fun _ => hreceiver _ _
  · exact .refl _

theorem State.panelWhole_keeps (msg : List Byte) (s : State) : KeepsInvariants s (s.panelWhole msg) := by
  have hquiet : KeepsInvariants s { s with panel := { s.panel.silenceReached with silence := 0 } } :=
    State.setPanel_keeps s.panel.silenceReached_log
  exact .ite (fun _ => hquiet.trans (State.completeMessage_keeps _ _)) fun _ => .refl s

/-- A held READ RECKONING is answered, and the slot's set begins (R43, R46). -/
theorem State.releaseRead_keeps (s : State) : KeepsInvariants s s.releaseRead := by
  unfold State.releaseRead
  split
  · exact (s.doRead_keeps _ _ _).trans (State.setProcess_keeps _ _)
  · exact .refl s

theorem State.beginFromSlot_keeps (s : State) : KeepsInvariants s s.beginFromSlot :=
  (SameStanding.of_blocks (by simp) (by simp) (by simp) (by simp) (by simp) (by simp)).keeps

theorem State.complete_keeps (ord : List CompletionTask) (s : State) : KeepsInvariants s (s.complete ord) := by
  have henv (e : Envelope) : KeepsInvariants s { s with env := e } :=
    (SameStanding.of_blocks rfl rfl rfl rfl rfl rfl).keeps
  unfold State.complete
  split
  · exact .refl s
  · refine KeepsInvariants.trans (KeepsInvariants.trans ?_ (State.releaseRead_keeps _)) (State.beginFromSlot_keeps _)
    split
    · exact (henv _).trans (State.completionWork_keeps ord _ _ _)
    · exact henv _

/-! ## The curtain link -/

/-- A move of the link, with time passing on the panel's line. -/
theorem KeepsInvariants.of_link {s t : State} (hseq : t.seq = s.seq) (hreg : t.reg = s.reg) (hcoord : t.coord = s.coord)
    (hconf : t.conf = s.conf) (htable : t.table = s.table) (hlog : t.panel.log = s.panel.log) : KeepsInvariants s t :=
  (SameStanding.of_blocks hseq hreg hcoord hconf htable hlog).keeps

theorem State.modLink_keeps (f : Link → Link) (s : State) : KeepsInvariants s (s.modLink f) := s.setLink_keeps _

theorem State.pass_keeps (d : Nat) (s : State) : KeepsInvariants s (s.pass d) :=
  .of_link (by simp) (by simp) (by simp) (by simp) (by simp) (by simp [State.pass])

theorem State.atMoment_keeps {f : State → State} (hf : ∀ u, KeepsInvariants u (f u)) (d : Nat) (s : State) :
    KeepsInvariants s (s.atMoment d f) :=
  .ite (fun _ => (s.pass_keeps d).trans (hf _)) fun _ => .refl s

theorem State.failAttempt_keeps (o : Outgoing) (s : State) : KeepsInvariants s (s.failAttempt o) :=
  .of_link (by simp) (by simp) (by simp) (by simp) (by simp) (by simp)

theorem State.beginAttempt_keeps (o : Outgoing) (s : State) : KeepsInvariants s (s.beginAttempt o) :=
  .of_link (by simp) (by simp) (by simp) (by simp) (by simp) (by simp)

theorem State.completeTransmission_keeps (s : State) : KeepsInvariants s s.completeTransmission :=
  .of_link (by simp) (by simp) (by simp) (by simp) (by simp) (by simp)

theorem State.readBack_keeps (o : Outgoing) (b : Byte) (stopFound : Bool) (s : State) :
    KeepsInvariants s (s.readBack o b stopFound) :=
  .of_link (by simp) (by simp) (by simp) (by simp) (by simp) (by simp)

theorem State.failInHand_keeps (o : Outgoing) (s : State) : KeepsInvariants s (s.failInHand o) :=
  .ite (fun _ => (s.modLink_keeps _).trans (State.failAttempt_keeps o _)) fun _ =>
    State.atMoment_keeps (State.failAttempt_keeps o) _ s

theorem State.finishFrame_keeps (n : Byte) (body check : List Byte) (s : State) :
    KeepsInvariants s (s.finishFrame n body check) := by
  have hcount (u : State) (f : LinkCounters → LinkCounters) : KeepsInvariants u (u.countLink f) :=
    (u.countLink_sameStanding f).keeps
  unfold State.finishFrame
  simp only
  have hhunting : KeepsInvariants s (s.modLink fun l => { l with receiver := .hunting }) := s.modLink_keeps _
  refine hhunting.trans ?_
  split
  · exact hcount _ _
  · exact hcount _ _
  · exact (hcount _ _).trans (.ite (fun _ => State.admission_keeps _ _) fun _ => .refl _)

theorem State.frameCharacter_keeps (got : List Byte) (b : Byte) (s : State) :
    KeepsInvariants s (s.frameCharacter got b) := by
  unfold State.frameCharacter
  split
  · exact s.modLink_keeps _
  · exact s.modLink_keeps _
  · exact s.modLink_keeps _
  · exact .ite (fun _ => s.finishFrame_keeps _ _ _) fun _ => s.modLink_keeps _
  · exact .refl s

theorem State.receive_keeps (b : Byte) (stopFound : Bool) (s : State) : KeepsInvariants s (s.receive b stopFound) := by
  unfold State.receive
  split
  · exact .refl s
  · exact .ite (fun _ => s.frameCharacter_keeps _ _) fun _ => .refl s
  · exact .ite (fun _ => s.frameCharacter_keeps _ _) fun _ => s.modLink_keeps _

theorem State.character_keeps (b : Byte) (stopFound : Bool) (s : State) :
    KeepsInvariants s (s.character b stopFound) := by
  unfold State.character
  simp only
  have hend : KeepsInvariants s (s.modLink Link.charEnd) := s.modLink_keeps _
  refine hend.trans ?_
  split
  · exact (State.readBack_keeps _ _ _ _).trans (State.modLink_keeps _ _)
  · exact State.receive_keeps _ _ _

theorem State.wholeFrame_keeps (bytes : List Byte) (s : State) : KeepsInvariants s (s.wholeFrame bytes) := by
  unfold State.wholeFrame
  split
  · exact .ite (fun _ => (s.modLink_keeps _).trans (State.finishFrame_keeps _ _ _ _)) fun _ => .refl s
  · exact .refl s

theorem State.badLengthFrame_keeps (n : Byte) (s : State) : KeepsInvariants s (s.badLengthFrame n) :=
  .ite (fun _ => s.modLink_keeps _) fun _ => .refl s

theorem State.endFragment_keeps (why : FragmentCause) (s : State) : KeepsInvariants s (s.endFragment why) := by
  have hend (c : Prop) [Decidable c] (f : Link → Link) : KeepsInvariants s (if c then s.modLink f else s) :=
    .ite (fun _ => s.modLink_keeps f) fun _ => .refl s
  cases why with
  | silence =>
    refine .ite (fun _ => State.atMoment_keeps (fun u => ?_) _ s) fun _ => .refl s
    exact .ite (fun _ => u.modLink_keeps _) fun _ => .refl u
  | framing => exact hend _ _
  | badLead =>
    simp only [State.endFragment]
    split
    · exact hend _ _
    · exact hend _ _
    · exact .refl s

/-! ## Every command, and the idle step -/

/-- The state right after reset meets all three invariants, whatever waits in its queue. -/
theorem State.powerOn_keeps (s t : State) (hseq : t.seq = State.reset.seq) (hreg : t.reg = State.reset.reg)
    (hconf : t.conf = State.reset.conf) (hlog : t.panel.log = []) : KeepsInvariants s t := by
  have hstage : t.seq.stage = none := by rw [hseq]; rfl
  have hphase : t.phase = .vacant := by simp [State.phase, hstage]
  have hidle : t.working = false := by rw [State.working, hconf]; rfl
  refine ⟨⟨fun _ => ⟨fun _ => hstage, .of_handed ?_⟩, fun _ => ?_⟩, fun _ hworking => ?_⟩
  · rw [PumpHanded, hreg, hphase]
    exact ⟨rfl, rfl, rfl⟩
  · exact ⟨by simp [hlog], by simp [hlog], fun st hst => by simp [hstage] at hst⟩
  · simp [hidle] at hworking

theorem State.holdOver_phase {s : State} (h : s.holdOver = true) : s.phase = .holding := by
  unfold State.holdOver at h
  split at h
  · assumption
  · cases h

theorem State.endingStep_phase {s : State} {l : Latched} {r : ReckRecord} {x : StageRecord × TestState}
    (h : s.endingStep l r = some x) : s.phase = .testing := by
  unfold State.endingStep at h
  split at h
  · assumption
  · cases h

theorem State.closing_phase {s : State} {r : ReckRecord} (h : s.closing r = true) : s.phase = .injecting := by
  unfold State.closing at h
  simp only [Bool.and_eq_true, beq_iff_eq] at h
  exact h.1

/-- A row that acts only while its guard holds. -/
theorem KeepsInvariants.guarded {s t : State} {b : Bool} (h : b = true → KeepsInvariants s t) :
    KeepsInvariants s (if b then t else s) := .ite h fun _ => .refl s

theorem State.sampleChannel_keeps (ch : Channel) (code : RawCode) (s : State) :
    KeepsInvariants s (s.sampleChannel ch code) :=
  .of_link (by simp) (by simp) (by simp) (by simp) (by simp) (by simp)

theorem State.sampleInput_keeps (i : Input) (level : Bool) (s : State) : KeepsInvariants s (s.sampleInput i level) :=
  .of_link (by simp) (by simp) (by simp) (by simp) (by simp) (by simp)

/-- The rows that are parts of a completion, with the record that the reckoning in flight would store (log entry 2). -/
theorem execTestStepEnd_keeps {s t : State} (h : execTestStepEnd s = .next t) : KeepsInvariants s t := by
  cases h
  split
  · split
    · next hending => exact State.settled_endTestStep_keeps (State.endingStep_phase hending) _ _
    · exact .refl s
  · exact .refl s

theorem execEndCriteriaClose_keeps {s t : State} (h : execEndCriteriaClose s = .next t) : KeepsInvariants s t := by
  cases h
  split
  · exact .guarded fun hclosing => State.settled_completeInjecting_keeps (State.closing_phase hclosing) _
  · exact .refl s

theorem execSupplyPresent_keeps {s t : State} {why : SupplyCause} (h : execSupplyPresent why s = .next t) :
    KeepsInvariants s t := by
  cases h
  cases why with
  | allowance => exact .guarded fun _ => s.supplyEvaluation_keeps
  | header => exact .guarded fun _ => s.sampleHeader_keeps

theorem execTagLoadComplete_keeps {s t : State} {image : List Byte} (h : execTagLoadComplete image s = .next t) :
    KeepsInvariants s t := by
  cases h
  split
  · next hloading _ =>
    have hdrawn : KeepsInvariants s { s with freeCount := s.freeCount + 1 } :=
      .of_link (by rfl) (by rfl) (by rfl) (by rfl) (by rfl) (by rfl)
    exact hdrawn.trans (State.loadCompleted_keeps (s := { s with freeCount := s.freeCount + 1 }) hloading _)
  · exact .refl s

/-- Every command that answers a next state keeps the invariants. -/
theorem exec_keeps {i : Instr} {s t : State} (h : exec i s = .next t) : KeepsInvariants s t := by
  cases i <;> cases h
  case testStepEnd => exact execTestStepEnd_keeps rfl
  case endCriteriaClose => exact execEndCriteriaClose_keeps rfl
  case supplyPresent why => exact execSupplyPresent_keeps (why := why) rfl
  case tagLoadComplete image => exact execTagLoadComplete_keeps (image := image) rfl
  case powerOnReset => exact State.powerOn_keeps s _ rfl rfl rfl rfl
  case sampleSet inp ord => exact s.sampleSet_keeps inp ord
  case secondBoundary ord => exact s.secondBoundary_keeps ord
  case channelFail ch code => exact .guarded fun _ => (s.sampleChannel_keeps ch code).trans (State.presentChange_keeps _)
  case channelRecover ch code =>
    exact .guarded fun _ => (s.sampleChannel_keeps ch code).trans (State.presentChange_keeps _)
  case inputDebounceAccept i level =>
    exact .guarded fun _ => (s.sampleInput_keeps i level).trans (State.presentChange_keeps _)
  case reckoningCompletion ord => exact s.complete_keeps ord
  case reachedStepArrival =>
    split
    · exact .guarded fun _ => s.reachStep_keeps
    · exact .refl s
  case autoAdvance =>
    split
    · exact .guarded fun _ => s.advanceStep_keeps
    · exact .refl s
  case mixConfirm =>
    split
    · exact .guarded fun _ => s.confirmMix_keeps _
    · exact .refl s
  case mixTimeout =>
    split
    · exact .guarded fun _ => s.timeoutMix_keeps _
    · exact .refl s
  case holdTimerExpiry =>
    refine .guarded fun hguard => State.settled_boundaryHold_keeps (State.holdOver_phase ?_)
    simp only [Bool.and_eq_true] at hguard
    exact hguard.2
  case periodicRequest => exact .guarded fun _ => State.atMoment_keeps (State.modLink_keeps _) _ s
  case holdOffEnd =>
    split
    · exact State.atMoment_keeps (fun u => .guarded fun _ => u.modLink_keeps _) _ s
    · exact .refl s
  case attemptStart =>
    split
    · exact .ite (fun _ => .refl s) fun _ => State.atMoment_keeps (State.beginAttempt_keeps _) _ s
    · exact .refl s
  case accessTimeout | attemptFailed =>
    split
    · exact s.failInHand_keeps _
    · exact .refl s
  case transmissionComplete =>
    split
    · exact (s.modLink_keeps Link.charEnd).trans (State.completeTransmission_keeps _)
    · exact .refl s
  case linkJam =>
    split
    · exact .guarded fun _ => s.failInHand_keeps _
    · exact .refl s
  case lineIdle => exact .ite (fun _ => .refl s) fun _ => State.atMoment_keeps .refl _ s
  case frameReceived bytes => exact s.wholeFrame_keeps bytes
  case badLengthFrame n => exact s.badLengthFrame_keeps n
  case fragment why => exact s.endFragment_keeps why
  case duplicateClear => exact .guarded fun _ => s.clearDuplicate_keeps
  case entryStale id =>
    split
    · exact .guarded fun _ => s.markStale_keeps id
    · exact .refl s
  case entryRemoved id =>
    split
    · exact .guarded fun _ => s.removeEntry_keeps _
    · exact .refl s
  case supplyAbsent => exact .guarded fun _ => s.supplyEvaluation_keeps
  case listenEnd => exact .guarded fun _ => s.endListen_keeps
  case connectionReportStart => exact .guarded fun _ => s.startReport_keeps
  case connectionReportClear => exact .guarded fun _ => s.clearReport_keeps
  case tagLoadTimeout =>
    refine .guarded fun hguard => State.loadCompleted_keeps (State.loadTimedOut_loading ?_) _
    simp only [Bool.and_eq_true] at hguard
    exact hguard.2
  case panelMessage bytes => exact s.panelWhole_keeps bytes
  case panelSilenceTimeout => exact State.setPanel_keeps (by simp)
  case responseEnd => exact s.endResponse_keeps
  case startBitSeen => exact s.modLink_keeps _
  case characterReceived b stopFound => exact s.character_keeps b stopFound
  case panelByteReceived b => exact s.panelByte_keeps b
  all_goals exact s.panelArrive_keeps _

theorem State.attemptDue_keeps {s t : State} (h : s.attemptDue = some t) : KeepsInvariants s t := by
  unfold State.attemptDue at h
  split at h
  · next o _ =>
    split at h
    · split at h
      · exact (Option.some.inj h) ▸ s.failInHand_keeps o
      · cases h
    · split at h
      · exact (Option.some.inj h) ▸ s.beginAttempt_keeps o
      · split at h
        · exact (Option.some.inj h) ▸ s.failInHand_keeps o
        · cases h
  · cases h

theorem State.idle_keeps (s : State) : KeepsInvariants s s.idle := by
  unfold State.idle
  split
  · next hdue => exact State.attemptDue_keeps hdue
  · exact .ite (fun _ => s.modLink_keeps _) fun _ => .ite (fun _ => s.modLink_keeps _) fun _ => s.pass_keeps 1

/-- Every step that answers a next state keeps the invariants: the command that is taken, or the idle step. -/
theorem step_keeps {s t : State} (h : step s = .next t) : KeepsInvariants s t := by
  unfold step at h
  split at h
  · next i rest _ =>
    have htaken : KeepsInvariants s { s with pending := rest } :=
      .of_link (by rfl) (by rfl) (by rfl) (by rfl) (by rfl) (by rfl)
    exact htaken.trans (exec_keeps h)
  · cases h
    exact s.idle_keeps

end Sys2Proof.Machine
end

section
/-! SUPPORT. The invariant family: the pump, STANDOFF and log invariants are kept by every step, and the state right after
reset meets all five (R18, R22, R72 to R75, R149, R152, R177, R185). -/

namespace Sys2Proof.Machine

/-- Settles O52, from the step lemma of the three invariants. -/
theorem pumpInvariantKept : Obligations.PumpInvariantKept := by
  intro s t hs hstep
  obtain ⟨⟨hpump, -⟩, -⟩ := step_keeps hstep
  exact hpump hs

/-- R152: where STANDOFF follows its causes, no stage pumps beside a preceding active conflicting neighbour. -/
theorem StandoffFollows.not_pumping {s : State} (h : StandoffFollows s) (hw : s.working = true) {e : Entry}
    (he : e ∈ s.table.entries) (hheld : s.heldOffBy e = true) : s.phase.pumping = false := by
  obtain ⟨hcauses, -, hpumping⟩ := h hw
  by_contra hnot
  have hp : s.phase.pumping = true := by simpa using hnot
  have hactive : s.phase.active = true := by
    rcases Phase.pumping_iff.mp hp with h | h <;> rw [h] <;> rfl
  have hany : s.standoffCauses.any = true :=
    s.standoffCauses_any_iff.mpr (.inr (.inl ⟨hactive, e, he, hheld⟩))
  rw [← hcauses, hpumping hp] at hany
  cases hany

/-- Settles O54, from the step lemma of the three invariants and `StandoffFollows.not_pumping`. -/
theorem standoffInvariantKept : Obligations.StandoffInvariantKept := by
  intro s t hs hstep
  obtain ⟨-, hstandoff⟩ := step_keeps hstep
  refine ⟨hstandoff hs, fun hw e he hheld => ?_⟩
  have hidle := (hstandoff hs).not_pumping hw he hheld
  constructor <;> intro hphase <;> simp [hphase, Phase.pumping] at hidle

/-- Settles O55, from the step lemma of the three invariants. -/
theorem logInvariantKept : Obligations.LogInvariantKept := by
  intro s t hs hstep
  obtain ⟨⟨-, hlog⟩, -⟩ := step_keeps hstep
  exact hlog hs

/-- R43, R100, R106, R130, R170, R185: every counter is 0 at reset. -/
theorem State.reset_countersBounded : CountersBounded State.reset := by
  refine ⟨by decide, by decide, by decide, Nat.zero_le _, Nat.zero_le _, Nat.zero_le _, Nat.zero_le _, Nat.zero_le _,
    Nat.zero_le _, Nat.zero_le _, Nat.zero_le _, Nat.zero_le _, Nat.zero_le _, Nat.zero_le _, Nat.zero_le _,
    Nat.zero_le _, Nat.zero_le _, Nat.zero_le _, Nat.zero_le _, Nat.zero_le _, Nat.zero_le _, Nat.zero_le _,
    Nat.zero_le _, Nat.zero_le _, fun k => ?_⟩
  cases k <;> exact Nat.zero_le _

/-- Settles O57: no stage, no entry and no record stand at reset, and the station does not work. -/
theorem resetMeetsTheInvariants : Obligations.ResetMeetsTheInvariants := by
  have hpump : PumpInvariant State.reset :=
    ⟨fun _ => rfl, fun _ => rfl, rfl, rfl, fun _ => Nat.zero_le _, fun _ => Nat.zero_le _⟩
  have htable : TableInvariant State.reset := ⟨Nat.zero_le _, List.nodup_nil, fun e he => by cases he⟩
  have hstandoff : StandoffFollows State.reset := fun hworking => by cases hworking
  have hlog : LogInvariant State.reset := ⟨Nat.zero_le _, List.nodup_nil, fun st hst => by cases hst⟩
  exact ⟨hpump, htable, hstandoff, hlog, State.reset_countersBounded⟩

end Sys2Proof.Machine
end

section
/-! SUPPORT. What a general evaluation leaves, by the phase that it finds (R22, R25 to R27, R148, R149): a stage that
goes on, a set that follows the conditions, and a station that its neighbours leave free. -/

namespace Sys2Proof.Machine

/-! ## An evaluation that moves no phase -/

/-- From `s` to `t` an evaluation has handed the limits, kept the six conditions anew, and then changed the stage record
by `f` alone. -/
def EvaluatedTo (f : StageRecord → StageRecord) (s t : State) : Prop :=
  ∃ u, LimitsHanded s u ∧ t.seq = { u.seq with stage := u.seq.stage.map f, kept := s.keptAnew } ∧ t.reg = u.reg
    ∧ t.coord = u.coord

variable {f : StageRecord → StageRecord} {s t : State}

/-- The stage record after such an evaluation, but for the refusal timer that a new limit zeroes (R65, R96). -/
theorem EvaluatedTo.stage (h : EvaluatedTo f s t) {st : StageRecord} (hst : s.seq.stage = some st) :
    t.seq.stage = some (f st) ∨ t.seq.stage = some (f st.timerZeroed) := by
  obtain ⟨u, ⟨hstep, -⟩, hseq, -⟩ := h
  rcases hstep.stage with hu | hu
  · exact .inl (by simp [hseq, hu, hst])
  · exact .inr (by simp [hseq, hu, hst])

/-- A CLOSED record is frozen (R34). -/
theorem EvaluatedTo.stage_of_closed (h : EvaluatedTo f s t) {st : StageRecord} (hst : s.seq.stage = some st)
    (hclosed : st.phase = .closed) : t.seq.stage = some (f st) := by
  have hfrozen : st.timerZeroed = st := by simp [StageRecord.timerZeroed, hclosed]
  rcases h.stage hst with ht | ht
  · exact ht
  · rw [ht, hfrozen]

theorem EvaluatedTo.stage_of_none (h : EvaluatedTo f s t) (hst : s.seq.stage = none) : t.seq.stage = none := by
  obtain ⟨u, ⟨hstep, -⟩, hseq, -⟩ := h
  rcases hstep.stage with hu | hu <;> simp [hseq, hu, hst]

/-- The registers of the Sequencer that an evaluation leaves. -/
theorem EvaluatedTo.registers (h : EvaluatedTo f s t) :
    t.seq.test = s.seq.test ∧ t.seq.basePressure = s.seq.basePressure ∧ t.seq.confirmRun = s.seq.confirmRun
      ∧ t.seq.intensityRun = s.seq.intensityRun ∧ t.seq.counter = s.seq.counter ∧ t.seq.kept = s.keptAnew := by
  obtain ⟨u, ⟨⟨hu, -⟩, -⟩, hseq, -⟩ := h
  rcases hu with hu | hu <;> simp [hseq, hu]

/-- What the pump shows, and the runs that only a new effective step ends. -/
theorem EvaluatedTo.reg (h : EvaluatedTo f s t) : t.reg = s.reg ∨ t.reg = s.reg.runsZeroed := by
  obtain ⟨u, ⟨⟨-, hu⟩, -⟩, -, hreg, -⟩ := h
  rwa [hreg]

theorem EvaluatedTo.pump (h : EvaluatedTo f s t) :
    t.reg.stroke = s.reg.stroke ∧ t.reg.valveOpen = s.reg.valveOpen ∧ t.reg.suctionWater = s.reg.suctionWater
      ∧ t.reg.commanded = s.reg.commanded ∧ t.reg.reached = s.reg.reached := by
  rcases h.reg with h | h <;> simp [h, Regulator.runsZeroed]

/-- What R165 does not form stands. -/
theorem EvaluatedTo.coord (h : EvaluatedTo f s t) :
    t.coord.baseline = s.coord.baseline ∧ t.coord.report = s.coord.report ∧ t.coord.suspects = s.coord.suspects
      ∧ t.coord.riseRun = s.coord.riseRun ∧ t.coord.quietRun = s.coord.quietRun
      ∧ t.coord.allowance = s.coord.allowance ∧ t.coord.lowRun = s.coord.lowRun
      ∧ t.coord.highRun = s.coord.highRun := by
  obtain ⟨u, ⟨-, hu⟩, -, -, hcoord⟩ := h
  rw [hcoord, hu]
  simp

/-! ## Where the phase stands -/

theorem State.keep_evaluatedTo {u : State} (hu : LimitsHanded s u) : EvaluatedTo id s (u.keep s.keptAnew) := by
  refine ⟨u, hu, ?_, rfl, rfl⟩
  rw [Option.map_id_fun]
  rfl

/-- Nothing moves at an evaluation: the phase is VACANT, PACKED or CLOSED, or a pumping one for which nothing arrives. -/
def State.Quiet (s : State) : Prop :=
  s.phase.restrained = false ∧ (s.phase.pumping = true → s.arrivingAnew.isEmpty = true)

theorem State.Quiet.of_idle (hpumping : s.phase.pumping = false) (hrestrained : s.phase.restrained = false) : s.Quiet :=
  ⟨hrestrained, by simp [hpumping]⟩

theorem State.Quiet.of_pumping (hpumping : s.phase.pumping = true) (hfree : s.arrivingAnew.isEmpty = true) : s.Quiet := by
  refine ⟨?_, fun _ => hfree⟩
  rcases Phase.pumping_iff.mp hpumping with hp | hp <;> simp [hp, Phase.restrained]

/-- A quiet evaluation only remembers the conditions. -/
theorem State.Quiet.evaluateOnce (h : s.Quiet) (hw : s.working = true) :
    s.evaluateOnce = s.formDemand.formLimits.keep s.keptAnew := by
  obtain ⟨hrestrained, hfree⟩ := h
  obtain ⟨hphase, -⟩ := s.formLimits_handed.1.standing
  rw [State.evaluateOnce_eq hw]
  cases hp : s.phase.pumping with
  | true => exact State.present_of_none (by rw [hphase, hp]) (hfree hp) _
  | false => exact State.present_of_still (by rw [hphase, hp]) (by rw [hphase, hrestrained]) _ _

theorem State.Quiet.evaluate (h : s.Quiet) (hw : s.working = true) :
    s.evaluate = s.formDemand.formLimits.keep s.keptAnew := by
  obtain ⟨hphase, -⟩ := s.formLimits_handed.1.standing
  have honce := h.evaluateOnce hw
  rw [State.evaluate_of_still (by rw [honce]; exact hphase), honce]

theorem State.Quiet.evaluatedTo (h : s.Quiet) (hw : s.working = true) : EvaluatedTo id s s.evaluate := by
  rw [h.evaluate hw]
  exact State.keep_evaluatedTo s.formLimits_handed

/-- The set that an evaluation gives a WAITING or HOLDING stage (R22). -/
def State.setAnew (s : State) : Restraints := s.restraints.latched.union s.keptAnew.toRestraints

/-- An evaluation in WAITING or HOLDING whose new set has a member. -/
theorem State.evaluate_restrained (hw : s.working = true) (hr : s.phase.restrained = true)
    (hset : s.setAnew.isEmpty = false) :
    EvaluatedTo (fun st => { st with restraints := s.setAnew }) s s.evaluate := by
  have hlimits := s.formLimits_handed
  obtain ⟨hphase, hrestraints, -⟩ := hlimits.1.standing
  have honce : s.evaluateOnce = (s.formDemand.formLimits.keep s.keptAnew).changeSet s.setAnew := by
    rw [State.evaluateOnce_eq hw, State.present_restrained (by rwa [hphase]), hrestraints]
    rfl
  obtain ⟨hseq, hreg, hcoord⟩ := State.changeSet_of_some (s := s.formDemand.formLimits.keep s.keptAnew) hset
  have hstill : s.evaluateOnce.phase = s.phase := by
    rw [honce, State.phase_congr (congrArg Sequencer.stage hseq), State.setRestraints_phase]
    exact hphase
  rw [State.evaluate_of_still hstill, honce]
  exact ⟨s.formDemand.formLimits, hlimits, hseq, hreg, hcoord⟩

/-! ## A station that its neighbours leave free -/

/-- Nothing that an evaluation could find holds the stage. -/
theorem State.unhindered.arrivingAnew (h : s.unhindered) : s.arrivingAnew.isEmpty = true := by
  obtain ⟨hrunning, hduplicate, hconflicts, hreport, hnamed, huplift⟩ := h
  rw [State.arrivingAnew_isEmpty_iff]
  refine ⟨?_, ?_, huplift⟩
  · rw [← Bool.not_eq_true, State.standoffCauses_any_iff]
    rintro (⟨-, e, he, hconflict, -⟩ | ⟨-, e, he, hheld⟩ | hlisten | hdouble)
    · simp [hconflicts e he] at hconflict
    · simp [State.heldOffBy, hconflicts e he] at hheld
    · simp [hrunning] at hlisten
    · simp [hduplicate] at hdouble
  · rw [← Bool.not_eq_true, State.connectionCondition_iff]
    rintro (⟨-, hreported⟩ | ⟨-, hname, hhold⟩)
    · simp [hreport] at hreported
    · simp [hnamed hname] at hhold

/-- No neighbour hinders the stage in whatever state the same settings, table, uplift and stage stand, and no report. -/
theorem State.unhindered.carries (h : s.unhindered) (halike : ConditionsAlike s t) (hreport : t.coord.report = false) :
    t.unhindered := by
  obtain ⟨hrunning, hduplicate, hconflicts, -, hnamed, huplift⟩ := h
  refine ⟨?_, ?_, ?_, hreport, ?_, halike.uplift.trans huplift⟩
  all_goals obtain ⟨hconf, htable, -, hopened⟩ := halike
  · rw [hconf, hrunning]
  · rw [htable, hduplicate]
  · intro e he
    rw [State.conflicts_congr (by rw [hconf]) hopened]
    exact hconflicts e (htable ▸ he)
  · rw [State.named_congr (s := s) (by rw [htable]), State.profile_congr hconf hopened]
    exact hnamed

theorem State.unhindered.working (h : s.unhindered) : s.working = true := by
  simp [State.working, h.1]

/-- A report ends, or stays away, at a change of phase. -/
theorem Coordination.handed_report (new : Phase) (hole : Nat) {c : Coordination} (h : c.report = false) :
    (c.handed new hole).report = false := by
  unfold Coordination.handed
  split <;> simp [h]

/-- An unhindered station's evaluation in INJECTING or TESTING leaves the stage as it is. -/
theorem State.unhindered.evaluates (h : s.unhindered) (hp : s.phase.pumping = true) : EvaluatedTo id s s.evaluate :=
  (State.Quiet.of_pumping hp h.arrivingAnew).evaluatedTo h.working

end Sys2Proof.Machine
end

section
/-! SUPPORT. A console command at a free panel of a configured station: the general checks pass, and the owner's answer is
the response (R171 to R174). -/

namespace Sys2Proof.Machine

/-- A station that works takes the command: no general check refuses it, and it is answered at once (R172, R46). -/
def PanelCmd.Taken (c : PanelCmd) (s : State) : Prop := s.generalCheck c = none ∧ s.holdsRead c = false

/-- A well-formed command that is no READ. -/
def PanelCmd.plain : PanelCmd → Bool
  | .unknown _ | .badLength _ _ | .read _ _ _ => false
  | _ => true

/-- R172: a plain operator command passes the general checks of a configured station. -/
theorem PanelCmd.taken_of_operator {c : PanelCmd} {s : State} (h : s.takesOperator) (hplain : c.plain = true)
    (hlevel : c.engineerOnly = false) : c.Taken s := by
  obtain ⟨-, hw⟩ := h
  cases c with
  | unknown | badLength | read => cases hplain
  | _ => simp [PanelCmd.Taken, State.generalCheck, State.holdsRead, hw, hlevel]

theorem State.setProcess_onlyChanges (p : Option InProcess) (s : State) : OnlyChanges [.panel] s (s.setProcess p) := by
  intro b hb
  cases b <;> simp [sameBlock] at hb ⊢

section

variable {i : Instr} {c : PanelCmd} {s : State} (hexec : exec i s = .next (s.panelArrive c)) (h : s.takesOperator)
  (htaken : c.Taken s)

include hexec h htaken

/-- R171 to R174: the next state is the owner's, with the command and its response in process. -/
theorem exec_answered {a : Answer} (ha : s.perform c = a) :
    exec i s = .next (a.state.setProcess (some ⟨c, some ⟨c.code, a.status, a.data⟩⟩)) := by
  obtain ⟨⟨hfree, hslot⟩, -⟩ := h
  obtain ⟨hcheck, hread⟩ := htaken
  rw [hexec]
  simp [State.panelArrive, hslot, hfree, State.takeCommand, State.answer, hcheck, hread, ha]

/-- A refusal changes the panel's answer and nothing else (R173). -/
theorem refusedWith_of_refuse {st : Status} (ha : s.perform c = s.refuse st) : RefusedWith i s c st := by
  exact ⟨_, exec_answered hexec h htaken ha, rfl, State.setProcess_onlyChanges _ s⟩

/-- An answer that changes no state but the panel's. -/
theorem exec_answered_unchanged {st : Status} {data : List Byte} (ha : s.perform c = ⟨s, st, data⟩) :
    ∃ t, exec i s = .next t ∧ Answered s t c st data ∧ OnlyChanges [.panel] s t := by
  exact ⟨_, exec_answered hexec h htaken ha, rfl, State.setProcess_onlyChanges _ s⟩

end

/-! ## ACCEPT, LOG_READ and LOG_TAKE (R36, R177 to R179) -/

/-- R44: VACANT empties the waiting slot of the Envelope Unit. -/
theorem State.vacate_env (s : State) : s.vacate.env = { s.env with slot := none } := by
  simp [State.vacate, State.handover, Envelope.handed]

theorem State.vacate_kept (s : State) : s.vacate.seq.kept = s.seq.kept := by simp [State.vacate_seq]

/-- R20: VACANT is told to the link. -/
theorem State.vacate_urgent {s : State} (h : s.working = true) : s.vacate.link.urgent = true :=
  State.urgent_sets_mark h

/-- R20, R148: a released stage and the evaluation that follows leave no stage, and the steps as they were. -/
theorem State.vacate_evaluated {s : State} (h : s.working = true) :
    EvaluatedTo id s.vacate s.vacate.evaluate := by
  have hw : s.vacate.working = true := by simpa [State.working] using h
  exact State.Quiet.evaluatedTo (.of_idle (by simp [State.vacate_phase, Phase.pumping])
    (by simp [State.vacate_phase, Phase.restrained])) hw

/-- The blocks and registers that a released stage, with its evaluation, leaves or clears. -/
theorem State.vacate_settled {s : State} (h : s.working = true) :
    s.vacate.evaluate.seq.stage = none ∧ s.vacate.evaluate.seq.counter = s.seq.counter
      ∧ s.vacate.evaluate.reg.stroke = 0
      ∧ s.vacate.evaluate.reg.commanded = s.reg.commanded ∧ s.vacate.evaluate.reg.reached = s.reg.reached
      ∧ s.vacate.evaluate.env = { s.env with slot := none } ∧ s.vacate.evaluate.link.urgent = true
      ∧ FieldAndSupplyKept s s.vacate.evaluate := by
  have hev := State.vacate_evaluated h
  obtain ⟨-, -, -, -, hcounter, -⟩ := hev.registers
  obtain ⟨hstroke, -, -, hcommanded, hreached⟩ := hev.pump
  have hkept : FieldAndSupplyKept s s.vacate := by simp [FieldAndSupplyKept, State.vacate_kept]
  refine ⟨hev.stage_of_none (by simp [State.vacate_seq]), by simpa [State.vacate_seq] using hcounter, ?_, ?_, ?_,
    by simp [State.vacate_env], State.evaluate_mark (State.vacate_urgent h),
    hkept.trans (State.evaluate_fieldAndSupplyKept _)⟩
  · rw [hstroke, State.vacate_reg]
    rfl
  · rw [hcommanded, State.vacate_reg]
    rfl
  · rw [hreached, State.vacate_reg]
    rfl

/-- The blocks that a released stage with its evaluation does not touch. -/
theorem State.vacate_onlyChanges (s : State) :
    OnlyChanges [.seq, .reg, .link, .coord, .env, .panel] s s.vacate.evaluate := by
  intro b hb
  cases b <;> simp [sameBlock] at hb ⊢

/-- R36: the log with the accepted record as its newest. -/
def State.logAppended (st : StageRecord) (s : State) : State :=
  { s with panel := { s.panel with log := s.panel.log ++ [⟨st, s.take.live⟩] } }

theorem State.doAccept_ok {s : State} {st : StageRecord} (hst : s.seq.stage = some st) (hclosed : st.phase = .closed)
    (hroom : s.panel.log.length < 16) :
    s.perform .accept = (s.logAppended st).vacate.evaluate.answerPhase := by
  have hphase : s.phase = .closed := (State.phase_of_stage hst).trans hclosed
  have hfits : ¬ logSize ≤ s.panel.log.length := by simpa [logSize] using hroom
  have hmoved : (s.acceptStage st).phase ≠ .closed := by simp [State.acceptStage, State.vacate_phase]
  simp only [State.perform, State.doAccept, hphase, hst, hfits, if_false, State.settled, State.settle, hmoved]
  rfl

theorem State.doAccept_refused {s : State} (h : s.phase ≠ .closed) : s.perform .accept = s.refuse .refusedState := by
  simp only [State.perform, State.doAccept]
  split
  · next hclosed _ => exact absurd hclosed h
  · rfl

theorem State.doAccept_full {s : State} (h : s.phase = .closed) (hfull : 16 ≤ s.panel.log.length) :
    s.perform .accept = s.refuse .refusedFull := by
  obtain ⟨st, hst, -⟩ := State.exists_stage_of_phase (s := s) (by simp [h])
  have hno : logSize ≤ s.panel.log.length := hfull
  simp only [State.perform, State.doAccept, h, hst, hno, if_true]

/-- The clause of O42 on an accepted ACCEPT. -/
theorem exec_accept {s : State} (h : s.takesOperator) {st : StageRecord} (hst : s.seq.stage = some st)
    (hclosed : st.phase = .closed) (hroom : s.panel.log.length < 16) :
    ∃ t, exec .accept s = .next t
      ∧ t.panel = { s.panel with
          log := s.panel.log ++ [⟨st, s.take.live⟩]
          inProcess := some ⟨.accept, some ⟨0x09#8, .ok, [0#8, 0#8]⟩⟩ }
      ∧ t.seq.stage = none ∧ t.seq.counter = s.seq.counter ∧ t.env = { s.env with slot := none }
      ∧ t.reg.commanded = s.reg.commanded ∧ t.reg.reached = s.reg.reached ∧ t.link.urgent = true
      ∧ FieldAndSupplyKept s t ∧ OnlyChanges [.seq, .reg, .link, .coord, .env, .panel] s t := by
  have hw : (s.logAppended st).working = true := h.2
  obtain ⟨hstage, hcounter, -, hcommanded, hreached, henv, hmark, hkept⟩ := State.vacate_settled hw
  have hdata : (s.logAppended st).vacate.evaluate.phaseData = [0#8, 0#8] := by
    simp [State.phaseData, State.phase, State.restraints, hstage]
    decide
  refine ⟨_, exec_answered rfl h (PanelCmd.taken_of_operator h rfl rfl) (State.doAccept_ok hst hclosed hroom), ?_, hstage,
    hcounter, henv, hcommanded, hreached, hmark, hkept, ?_⟩
  · simp only [State.answerPhase, State.setProcess, State.evaluate_frame, State.vacate_frame, hdata]
    rfl
  · have happended : OnlyChanges [.seq, .reg, .link, .coord, .env, .panel] s (s.logAppended st) := by
      intro b hb
      cases b <;> simp [sameBlock, State.logAppended] at hb ⊢
    exact (happended.trans (State.vacate_onlyChanges _)).trans ((State.setProcess_onlyChanges _ _).mono (by simp))

theorem State.doLogRead_of_none {s : State} {k : Byte} (h : s.panel.log.length ≤ k.toNat) :
    s.perform (.logRead k.toNat) = s.refuse .badArg := by
  simp only [State.perform, State.doLogRead, List.getElem?_eq_none h]

/-- Settles O42, a clause a command: each is the owner's answer on a free panel. -/
theorem stageLogCommands : Obligations.StageLogCommands := by
  intro s h
  have taken (c : PanelCmd) (hplain : c.plain = true) (hlevel : c.engineerOnly = false) : c.Taken s :=
    PanelCmd.taken_of_operator h hplain hlevel
  refine ⟨fun st hst hclosed hroom => exec_accept h hst hclosed hroom, fun hclosed hfull => ?_, fun hopen => ?_,
    fun k r hr => ?_, fun k hk => ?_, fun r rest hlog => ?_, fun hlog => ?_⟩
  · exact refusedWith_of_refuse rfl h (taken _ rfl rfl) (State.doAccept_full hclosed hfull)
  · exact refusedWith_of_refuse rfl h (taken _ rfl rfl) (State.doAccept_refused hopen)
  · refine exec_answered_unchanged rfl h (taken _ rfl rfl) ?_
    simp only [State.perform, State.doLogRead, hr]
  · exact refusedWith_of_refuse rfl h (taken _ rfl rfl) (State.doLogRead_of_none hk)
  · have hperform : s.perform .logTake = ⟨{ s with panel := { s.panel with log := rest } }, .ok,
        be16 r.stage.number ++ [byte rest.length]⟩ := by
      simp only [State.perform, State.doLogTake, hlog]
    refine ⟨_, exec_answered rfl h (taken _ rfl rfl) hperform, rfl, ?_⟩
    intro b hb
    cases b <;> simp [sameBlock] at hb ⊢
  · refine refusedWith_of_refuse rfl h (taken _ rfl rfl) ?_
    simp only [State.perform, State.doLogTake, hlog]

end Sys2Proof.Machine
end

section
/-! SUPPORT. STOP and ABORT by phase (R31, R32, R34, R35). -/

namespace Sys2Proof.Machine

/-! ## A command answered with the phase -/

/-- A change of the panel's command in process is no part of a phase frame. -/
theorem ConsolePhaseFrame.of_setProcess {s u : State} (hframe : PhaseFrame s u) (hkept : FieldAndSupplyKept s u)
    (p : Option InProcess) : ConsolePhaseFrame s (u.setProcess p) := by
  obtain ⟨-, -, -, -, -, hpanel, -⟩ := hframe.blocks
  refine ⟨?_, hkept⟩
  rw [← hpanel]
  exact hframe

/-- Both states have the same Sequencer, Regulator, link and Coordination Unit. -/
def SameWorks (u t : State) : Prop := t.seq = u.seq ∧ t.reg = u.reg ∧ t.link = u.link ∧ t.coord = u.coord

/-- A command whose owner moves the phase, or the set (R174). -/
theorem exec_answered_moved {i : Instr} {c : PanelCmd} {s : State} {f : State → State} {status : Status}
    {data : List Byte} (hexec : exec i s = .next (s.panelArrive c)) (h : s.takesOperator) (htaken : c.Taken s)
    (ha : s.perform c = ⟨s.settled f, status, data⟩) (hframe : PhaseFrame s (f s))
    (hkept : (f s).seq.kept = s.seq.kept) :
    ∃ t, exec i s = .next t ∧ Answered s t c status data ∧ SameWorks (s.settled f) t ∧ ConsolePhaseFrame s t := by
  have hsettled := hframe.settled (f := f)
  obtain ⟨-, -, -, -, -, hpanel, -⟩ := hsettled.blocks
  have hfield : FieldAndSupplyKept s (s.settled f) :=
    FieldAndSupplyKept.trans (b := f s) (by simp [FieldAndSupplyKept, hkept]) (State.settle_fieldAndSupplyKept _ _)
  refine ⟨_, exec_answered hexec h htaken ha, ?_, ⟨rfl, rfl, rfl, rfl⟩, .of_setProcess hsettled hfield _⟩
  simp only [Answered, State.setProcess, hpanel]

theorem State.phaseData_congr {s t : State} (h : t.seq.stage = s.seq.stage) : t.phaseData = s.phaseData := by
  simp only [State.phaseData, State.phase_congr h, State.restraints_congr h]

/-- The same, answered with the phase (R173). -/
theorem exec_answered_phase {i : Instr} {c : PanelCmd} {s : State} {f : State → State}
    (hexec : exec i s = .next (s.panelArrive c)) (h : s.takesOperator) (htaken : c.Taken s)
    (ha : s.perform c = (s.settled f).answerPhase) (hframe : PhaseFrame s (f s)) (hkept : (f s).seq.kept = s.seq.kept) :
    ∃ t, exec i s = .next t ∧ Answered s t c .ok t.phaseData ∧ SameWorks (s.settled f) t ∧ ConsolePhaseFrame s t := by
  obtain ⟨t, hnext, hanswered, hworks, hconsole⟩ := exec_answered_moved hexec h htaken ha hframe hkept
  refine ⟨t, hnext, ?_, hworks, hconsole⟩
  rwa [State.phaseData_congr (congrArg Sequencer.stage hworks.1)]

/-- Where the part moves the phase, the evaluation follows at once. -/
theorem State.settled_of_moved {s : State} {f : State → State} (h : (f s).phase ≠ s.phase) :
    s.settled f = (f s).evaluate := by
  simp [State.settled, State.settle, h]

theorem State.settled_of_still {s : State} {f : State → State} (h : (f s).phase = s.phase) : s.settled f = f s := by
  simp [State.settled, State.settle, h]

/-! ## PACKED and CLOSED after a change of phase -/

theorem Phase.started_ne_vacant {p : Phase} (h : p.started = true) : p ≠ .vacant := by
  rintro rfl
  cases h

theorem State.enterPhase_working (new : Phase) (s : State) : (s.enterPhase new).working = s.working :=
  State.working_congr (by simp)

/-- R31: a stage that has come to PACKED, after its evaluation. -/
theorem State.enterPacked_evaluated {s : State} {st : StageRecord} (hw : s.working = true) (hst : s.seq.stage = some st)
    (hopen : s.phase ≠ .vacant) :
    ∃ st', (s.enterPhase .packed).evaluate.seq.stage = some st' ∧ st'.phase = .packed ∧ st'.restraints = .none
      ∧ st'.results = st.results ∧ (s.enterPhase .packed).evaluate.seq.test = none
      ∧ (s.enterPhase .packed).evaluate.reg.stroke = 0 ∧ (s.enterPhase .packed).evaluate.reg.valveOpen = false
      ∧ (s.enterPhase .packed).evaluate.coord.baseline = some (s.deliveredNat .hole)
      ∧ (s.enterPhase .packed).evaluate.link.urgent = true := by
  have hpacked := State.enterPhase_phase hopen .packed
  have hev : EvaluatedTo id (s.enterPhase .packed) (s.enterPhase .packed).evaluate :=
    State.Quiet.evaluatedTo (.of_idle (by simp [hpacked, Phase.pumping]) (by simp [hpacked, Phase.restrained]))
      ((State.enterPhase_working _ s).trans hw)
  obtain ⟨hstroke, hvalve, -⟩ := State.enterPhase_handed hopen .packed
  obtain ⟨estroke, evalve, -⟩ := hev.pump
  obtain ⟨htest, -⟩ := hev.registers
  obtain ⟨hbaseline, -⟩ := hev.coord
  have hstage : (s.enterPhase .packed).seq.stage = some { st with phase := .packed, restraints := .none } := by
    simp [State.enterPhase_stage, hst, Phase.restrained]
  have hrecord : ∃ st', (s.enterPhase .packed).evaluate.seq.stage = some st' ∧ st'.phase = .packed
      ∧ st'.restraints = .none ∧ st'.results = st.results := by
    rcases hev.stage hstage with h | h <;> exact ⟨_, h, by simp [StageRecord.timerZeroed]⟩
  obtain ⟨st', hst', hphase, hset, hresults⟩ := hrecord
  refine ⟨st', hst', hphase, hset, hresults, ?_, estroke.trans hstroke, ?_, ?_,
    State.evaluate_mark (State.enterPhase_urgent hw _)⟩
  · rw [htest, State.enterPhase_seq]
    rfl
  · rw [evalve, hvalve, hpacked]
    rfl
  · rw [hbaseline, State.enterPhase_coord]
    rfl

/-- R34, R35: a stage that has been closed, after its evaluation, which leaves a CLOSED record as it is. -/
theorem State.closeStage_evaluated {s : State} {st : StageRecord} (hw : s.working = true) (hst : s.seq.stage = some st)
    (hopen : s.phase ≠ .vacant) (o : Outcome) (c : Criteria) (r : ReckRecord) :
    (s.closeStage o c r).evaluate.seq.stage
        = some (st.closedAs o c r s.time.clock s.reg.commanded s.reg.reached)
      ∧ (s.closeStage o c r).evaluate.seq.test = none ∧ (s.closeStage o c r).evaluate.reg.stroke = 0
      ∧ (s.closeStage o c r).evaluate.reg.valveOpen = false
      ∧ (s.closeStage o c r).evaluate.link.urgent = true := by
  have hclosed := State.closeStage_phase hopen o c r
  have hworking : (s.closeStage o c r).working = true := (State.working_congr (by simp)).trans hw
  have hev : EvaluatedTo id (s.closeStage o c r) (s.closeStage o c r).evaluate :=
    State.Quiet.evaluatedTo (.of_idle (by simp [hclosed, Phase.pumping]) (by simp [hclosed, Phase.restrained])) hworking
  obtain ⟨hstroke, hvalve, -⟩ := State.closeStage_handed hopen o c r
  obtain ⟨estroke, evalve, -⟩ := hev.pump
  obtain ⟨htest, -⟩ := hev.registers
  refine ⟨hev.stage_of_closed (by rw [State.closeStage_stage, hst]; rfl) rfl, ?_, estroke.trans hstroke, ?_, ?_⟩
  · rw [htest, State.closeStage, State.enterPhase_seq]
    rfl
  · rw [evalve, hvalve, hclosed]
    rfl
  · refine State.evaluate_mark (State.enterPhase_urgent ?_ _)
    simpa [State.working] using hw

/-! ## STOP (R31) -/

theorem State.doStop_started {s : State} (h : s.phase.started = true) :
    s.perform .stop = (s.settled State.stopStage).answerPhase := by
  simp [State.perform, State.doStop, h]

theorem State.stopStage_early {s : State} (h : s.phase = .testing ∨ s.phase = .waiting) :
    s.stopStage = (if s.phase = .testing then s.abandonTest else s).enterPhase .packed := by
  rcases h with h | h <;> simp [State.stopStage, h]

theorem State.stopStage_closes {s : State} (h : s.phase = .injecting ∨ s.phase = .holding) :
    s.stopStage = s.closeStage .operatorStop .none s.env.record := by
  rcases h with h | h <;> simp [State.stopStage, h]

theorem State.stopStage_phaseFrame (s : State) : PhaseFrame s s.stopStage := by
  unfold State.stopStage
  split
  · exact s.abandonTest_phaseFrame.trans (State.enterPhase_phaseFrame (by simp) _)
  · exact State.enterPhase_phaseFrame (by simp) _
  · exact s.closeStage_phaseFrame _ _ _
  · exact s.closeStage_phaseFrame _ _ _
  · exact .refl s

theorem State.closeStage_kept (o : Outcome) (c : Criteria) (r : ReckRecord) (s : State) :
    (s.closeStage o c r).seq.kept = s.seq.kept := by simp [State.closeStage]

theorem State.stopStage_kept (s : State) : s.stopStage.seq.kept = s.seq.kept := by
  unfold State.stopStage
  split <;> simp [State.closeStage_kept]

/-- The clause of O41 on STOP in TESTING and WAITING. -/
theorem exec_stop_early {s : State} (h : s.takesOperator) {st : StageRecord} (hst : s.seq.stage = some st)
    (hp : st.phase = .testing ∨ st.phase = .waiting) :
    ∃ t st', exec .stop s = .next t ∧ Answered s t .stop .ok t.phaseData ∧ t.seq.stage = some st'
      ∧ st'.phase = .packed ∧ st'.restraints = .none ∧ t.seq.test = none
      ∧ st'.results = (if st.phase = .testing then .abandoned else st.results)
      ∧ t.reg.stroke = 0 ∧ t.reg.valveOpen = false ∧ t.coord.baseline = some (s.deliveredNat .hole)
      ∧ t.link.urgent = true ∧ ConsolePhaseFrame s t := by
  rw [← State.phase_of_stage hst] at hp ⊢
  have hstarted : s.phase.started = true := by rcases hp with hp | hp <;> rw [hp] <;> rfl
  obtain ⟨t, hexec, hanswered, ⟨hseq, hreg, hlink, hcoord⟩, hframe⟩ := exec_answered_phase (i := .stop) rfl h
    (PanelCmd.taken_of_operator h rfl rfl) (State.doStop_started hstarted) s.stopStage_phaseFrame s.stopStage_kept
  have hentered : ∃ st', s.stopStage.evaluate.seq.stage = some st' ∧ st'.phase = .packed ∧ st'.restraints = .none
      ∧ st'.results = (if s.phase = .testing then .abandoned else st.results) ∧ s.stopStage.evaluate.seq.test = none
      ∧ s.stopStage.evaluate.reg.stroke = 0 ∧ s.stopStage.evaluate.reg.valveOpen = false
      ∧ s.stopStage.evaluate.coord.baseline = some (s.deliveredNat .hole)
      ∧ s.stopStage.evaluate.link.urgent = true := by
    rw [State.stopStage_early hp]
    split
    · next htesting =>
      have habandoned : s.abandonTest.seq.stage = some { st with results := .abandoned } := by
        simp [State.abandonTest, State.modStage_stage, hst]
      exact State.enterPacked_evaluated (s := s.abandonTest) h.2 habandoned (by simp [State.abandonTest_phase, htesting])
    · exact State.enterPacked_evaluated h.2 hst (Phase.started_ne_vacant hstarted)
  have hmoved : s.stopStage.phase ≠ s.phase := by
    rw [State.stopStage_early hp]
    rcases hp with hp | hp
    · have hopen : s.abandonTest.phase ≠ .vacant := by simp [State.abandonTest_phase, hp]
      simp [hp, State.enterPhase_phase hopen]
    · have hopen : s.phase ≠ .vacant := by simp [hp]
      simp [hp, State.enterPhase_phase hopen]
  obtain ⟨st', hst', hphase, hset, hresults, htest, hstroke, hvalve, hbaseline, hmark⟩ := hentered
  rw [State.settled_of_moved hmoved] at hseq hreg hlink hcoord
  exact ⟨t, st', hexec, hanswered, hseq ▸ hst', hphase, hset, hseq ▸ htest, hresults, hreg ▸ hstroke, hreg ▸ hvalve,
    hcoord ▸ hbaseline, hlink ▸ hmark, hframe⟩

/-! ## A close by command (R31, R32, R34) -/

/-- What a close by STOP or ABORT answers. -/
theorem exec_close {s : State} (h : s.takesOperator) {st : StageRecord} (hst : s.seq.stage = some st)
    (hopen : s.phase.started = true) {i : Instr} {c : PanelCmd} {f : State → State} {o : Outcome}
    (hexec : exec i s = .next (s.panelArrive c)) (htaken : c.Taken s)
    (ha : s.perform c = (s.settled f).answerPhase) (hclose : f s = s.closeStage o .none s.env.record) :
    ∃ t, exec i s = .next t ∧ Answered s t c .ok t.phaseData
      ∧ t.seq.stage = some (st.closedAs o .none s.env.record s.time.clock s.reg.commanded s.reg.reached)
      ∧ t.seq.test = none ∧ t.reg.stroke = 0 ∧ t.reg.valveOpen = false ∧ t.link.urgent = true
      ∧ ConsolePhaseFrame s t := by
  have hvacant := Phase.started_ne_vacant hopen
  obtain ⟨t, hnext, hanswered, ⟨hseq, hreg, hlink, -⟩, hframe⟩ := exec_answered_phase hexec h htaken ha
    (hclose ▸ s.closeStage_phaseFrame o .none s.env.record) (hclose ▸ s.closeStage_kept o .none s.env.record)
  have hmoved : (f s).phase ≠ s.phase := by
    rw [hclose, State.closeStage_phase hvacant]
    rintro hp
    simp [← hp, Phase.started] at hopen
  rw [State.settled_of_moved hmoved, hclose] at hseq hreg hlink
  obtain ⟨hstage, htest, hstroke, hvalve, hmark⟩ := State.closeStage_evaluated h.2 hst hvacant o .none s.env.record
  exact ⟨t, hnext, hanswered, hseq ▸ hstage, hseq ▸ htest, hreg ▸ hstroke, hreg ▸ hvalve, hlink ▸ hmark, hframe⟩

/-! ## ABORT (R32) -/

theorem State.doAbort_taken {s : State} (h : s.phase = .packed ∨ s.phase.started = true) :
    s.perform .abort = (s.settled State.abortStage).answerPhase := by
  simp [State.perform, State.doAbort, h]

theorem State.abortStage_closes {s : State} (h : s.phase.started = true) :
    s.abortStage = s.closeStage .aborted .none s.env.record := by
  cases hp : s.phase <;> simp [hp, Phase.started, State.abortStage] at h ⊢

/-- The clause of O41 on ABORT in PACKED. -/
theorem exec_abort_packed {s : State} (h : s.takesOperator) (hp : s.phase = .packed) :
    ∃ t, exec .abort s = .next t ∧ Answered s t .abort .ok t.phaseData ∧ t.seq.stage = none
      ∧ t.seq.counter = s.seq.counter ∧ t.env = { s.env with slot := none } ∧ t.reg.stroke = 0
      ∧ t.reg.commanded = s.reg.commanded ∧ t.reg.reached = s.reg.reached ∧ FieldAndSupplyKept s t
      ∧ t.link.urgent = true ∧ OnlyChanges [.seq, .reg, .link, .coord, .env, .panel] s t := by
  have habort : s.abortStage = s.vacate := by simp [State.abortStage, hp]
  have hsettled : s.settled State.abortStage = s.vacate.evaluate := by
    rw [State.settled_of_moved (by simp [habort, State.vacate_phase, hp]), habort]
  have ha := State.doAbort_taken (.inl hp)
  rw [hsettled] at ha
  obtain ⟨hstage, hcounter, hstroke, hcommanded, hreached, henv, hmark, hkept⟩ := State.vacate_settled h.2
  refine ⟨_, exec_answered (i := .abort) rfl h (PanelCmd.taken_of_operator h rfl rfl) ha, ?_, hstage, hcounter, henv,
    hstroke, hcommanded, hreached, hkept, hmark,
    s.vacate_onlyChanges.trans ((State.setProcess_onlyChanges _ _).mono (by simp))⟩
  simp only [Answered, State.answerPhase, State.setProcess, State.evaluate_frame, State.vacate_frame]
  rfl

/-- Settles O41, a clause a command and phase. -/
theorem stopAndAbort : Obligations.StopAndAbort := by
  intro s h
  have hstop : PanelCmd.stop.Taken s := PanelCmd.taken_of_operator h rfl rfl
  have habort : PanelCmd.abort.Taken s := PanelCmd.taken_of_operator h rfl rfl
  refine ⟨fun st hst hp => exec_stop_early h hst hp, fun st i c o hst hcase => ?_, fun st hst hp => ?_, fun hp => ?_,
    fun hp => ?_⟩
  · rw [← State.phase_of_stage hst] at hcase
    obtain ⟨rfl, rfl, rfl, hp⟩ | ⟨rfl, rfl, rfl, hp⟩ := hcase
    · have hstarted : s.phase.started = true := by rcases hp with hp | hp <;> rw [hp] <;> rfl
      exact exec_close h hst hstarted rfl hstop (State.doStop_started hstarted) (State.stopStage_closes hp)
    · exact exec_close h hst hp rfl habort (State.doAbort_taken (.inr hp)) (State.abortStage_closes hp)
  · exact exec_abort_packed h ((State.phase_of_stage hst).trans hp)
  · exact refusedWith_of_refuse rfl h hstop (by simp [State.perform, State.doStop, hp])
  · refine refusedWith_of_refuse rfl h habort ?_
    rcases hp with hp | hp <;> simp [State.perform, State.doAbort, hp, Phase.started]

end Sys2Proof.Machine
end

section
/-! SUPPORT. HOLD and RELEASE (R22, R26, R27, R29, R30). -/

namespace Sys2Proof.Machine

/-! ## Members of a set -/

/-- A set with a latched member keeps one through an evaluation (R23). -/
theorem State.setAnew_latched {s : State} (h : s.restraints.operator = true ∨ s.restraints.trip = true) :
    s.setAnew.isEmpty = false ∧ s.setAnew.operator = s.restraints.operator
      ∧ s.setAnew.trip = s.restraints.trip := by
  have hoperator : s.setAnew.operator = s.restraints.operator := by
    simp [State.setAnew, Restraints.union, Restraints.latched, Conditions.toRestraints]
  have htrip : s.setAnew.trip = s.restraints.trip := by
    simp [State.setAnew, Restraints.union, Restraints.latched, Conditions.toRestraints]
  refine ⟨?_, hoperator, htrip⟩
  rw [← Bool.not_eq_true, Restraints.isEmpty_iff]
  rintro hnone
  rw [← hoperator, ← htrip, hnone] at h
  simp [Restraints.none] at h

/-- The set of a started stage with OPERATOR in it. -/
theorem Restraints.union_onlyOperator (r : Restraints) : r.union .onlyOperator = { r with operator := true } := by
  simp [Restraints.union, Restraints.onlyOperator, Restraints.none]

theorem Restraints.onlyOperator_isEmpty : Restraints.onlyOperator.isEmpty = false := rfl

/-! ## HOLD -/

theorem State.doHold_started {s : State} (h : s.phase.started = true) :
    s.perform .hold = (s.settled (State.arrive .onlyOperator)).answerPhase := by
  simp [State.perform, State.doHold, h]

/-- R29: a WAITING or HOLDING stage only takes OPERATOR into its set. -/
theorem State.hold_restrained {s : State} {st : StageRecord} (hst : s.seq.stage = some st)
    (hr : s.phase.restrained = true) :
    (s.settled (State.arrive .onlyOperator)).seq.stage
      = some { st with restraints := { st.restraints with operator := true } } := by
  have harrive : s.arrive .onlyOperator = s.changeSet (s.restraints.union .onlyOperator) := by
    rcases Phase.restrained_iff.mp hr with hp | hp <;> simp [State.arrive, hp]
  obtain ⟨hseq, -, -⟩ := State.changeSet_of_some (s := s) (State.union_operator_some s.restraints)
  have hstage := congrArg Sequencer.stage (harrive ▸ hseq)
  rw [State.settled_of_still ((State.phase_congr hstage).trans (State.setRestraints_phase _ s)), hstage,
    Restraints.union_onlyOperator, State.restraints_of_stage hst]
  simp [State.setRestraints, State.modStage_stage, hst]

/-- The stage of a WAITING or HOLDING state with OPERATOR in its set, after an evaluation. -/
theorem State.evaluate_operator {s : State} {st : StageRecord} (hw : s.working = true) (hst : s.seq.stage = some st)
    (hr : st.phase.restrained = true) (hoperator : st.restraints.operator = true) :
    ∃ st', s.evaluate.seq.stage = some st' ∧ st'.restraints.operator = true ∧ st'.phase = st.phase
      ∧ st'.results = st.results ∧ st'.holdTimer = st.holdTimer ∧ s.evaluate.seq.test = s.seq.test
      ∧ s.evaluate.reg.stroke = s.reg.stroke ∧ s.evaluate.reg.valveOpen = s.reg.valveOpen := by
  rw [← State.restraints_of_stage hst] at hoperator
  rw [← State.phase_of_stage hst] at hr
  obtain ⟨hset, hkept, -⟩ := State.setAnew_latched (s := s) (.inl hoperator)
  have hev := State.evaluate_restrained hw hr hset
  obtain ⟨htest, -⟩ := hev.registers
  obtain ⟨hstroke, hvalve, -⟩ := hev.pump
  have hmember := hkept.trans hoperator
  rcases hev.stage hst with h | h
  · exact ⟨_, h, hmember, rfl, rfl, rfl, htest, hstroke, hvalve⟩
  · refine ⟨_, h, hmember, ?_, ?_, ?_, htest, hstroke, hvalve⟩
    all_goals unfold StageRecord.timerZeroed; split <;> rfl

/-- R26, R29: TESTING comes to WAITING with its test abandoned. -/
theorem State.hold_testing {s : State} {st : StageRecord} (hw : s.working = true) (hst : s.seq.stage = some st)
    (hp : s.phase = .testing) :
    ∃ st', (s.settled (State.arrive .onlyOperator)).seq.stage = some st' ∧ st'.restraints.operator = true
      ∧ st'.phase = .waiting ∧ st'.results = .abandoned ∧ (s.settled (State.arrive .onlyOperator)).seq.test = none
      ∧ (s.settled (State.arrive .onlyOperator)).reg.stroke = 0
      ∧ (s.settled (State.arrive .onlyOperator)).reg.valveOpen = false := by
  have hmoved := State.arrive_moves (s := s) (r := .onlyOperator) (by simp [hp, Phase.pumping]) Restraints.onlyOperator_isEmpty
  simp only [hp, if_true] at hmoved
  have hpump : PumpHanded (s.arrive .onlyOperator) := (State.arrive_pump _ s).handed (by simp [hmoved, hp])
  have harrive : s.arrive .onlyOperator = (s.abandonTest.enterPhase .waiting).setRestraints
      (Restraints.onlyOperator.union s.seq.kept.toRestraints) := by
    simp only [State.arrive, hp]
    rw [State.enterWaiting_of_some (by simp [Restraints.union_isEmpty, Restraints.onlyOperator_isEmpty])]
    rfl
  have hstage : (s.arrive .onlyOperator).seq.stage = some { st with
      results := .abandoned, phase := .waiting
      restraints := Restraints.onlyOperator.union s.seq.kept.toRestraints } := by
    simp [harrive, State.setRestraints, State.modStage_stage, State.enterPhase_stage, State.abandonTest, hst]
  have htest : (s.arrive .onlyOperator).seq.test = none := by
    simp [harrive, State.setRestraints, State.modStage, State.enterPhase_seq]
  have hworking : (s.arrive .onlyOperator).working = true := (State.working_congr (by simp)).trans hw
  obtain ⟨st', hst', hoperator, hphase, hresults, -, ktest, kstroke, kvalve⟩ :=
    State.evaluate_operator hworking hstage rfl (by simp [Restraints.union, Restraints.onlyOperator])
  obtain ⟨hstroke, hvalve, -⟩ := hpump
  rw [State.settled_of_moved (by rw [hmoved, hp]; decide)]
  refine ⟨st', hst', hoperator, hphase, hresults, ktest.trans htest, kstroke.trans hstroke, kvalve.trans ?_⟩
  rw [hvalve, hmoved]
  rfl

/-- R27, R29: INJECTING comes to HOLDING with its hold timer at 0. -/
theorem State.hold_injecting {s : State} {st : StageRecord} (hw : s.working = true) (hst : s.seq.stage = some st)
    (hp : s.phase = .injecting) :
    ∃ st', (s.settled (State.arrive .onlyOperator)).seq.stage = some st' ∧ st'.restraints.operator = true
      ∧ st'.phase = .holding ∧ st'.holdTimer = 0
      ∧ (s.settled (State.arrive .onlyOperator)).reg.stroke = 0
      ∧ (s.settled (State.arrive .onlyOperator)).reg.valveOpen = false := by
  have hopen : s.phase ≠ .vacant := by simp [hp]
  have harrive : s.arrive .onlyOperator = s.enterHolding .onlyOperator := by simp only [State.arrive, hp]
  have hmoved : (s.arrive .onlyOperator).phase = .holding := harrive ▸ State.enterHolding_phase hopen _
  have hstage : (s.arrive .onlyOperator).seq.stage = some { st with
      phase := .holding, restraints := Restraints.onlyOperator.union s.seq.kept.toRestraints, holdTimer := 0 } := by
    simp [harrive, State.enterHolding_stage, hst]
  have hworking : (s.arrive .onlyOperator).working = true := (State.working_congr (by simp)).trans hw
  obtain ⟨st', hst', hoperator, hphase, -, htimer, -, kstroke, kvalve⟩ :=
    State.evaluate_operator hworking hstage rfl (by simp [Restraints.union, Restraints.onlyOperator])
  obtain ⟨hstroke, hvalve, -⟩ : PumpHanded (s.arrive .onlyOperator) := harrive ▸ State.enterHolding_handed hopen _
  rw [State.settled_of_moved (by rw [hmoved, hp]; decide)]
  refine ⟨st', hst', hoperator, hphase, htimer, kstroke.trans hstroke, kvalve.trans ?_⟩
  rw [hvalve, hmoved]
  rfl

/-- The clause of O40 on HOLD of a started stage. -/
theorem exec_hold {s : State} (h : s.takesOperator) {st : StageRecord} (hst : s.seq.stage = some st)
    (hstarted : st.phase.started = true) :
    ∃ t st', exec .hold s = .next t ∧ Answered s t .hold .ok t.phaseData ∧ t.seq.stage = some st'
      ∧ st'.restraints.operator = true
      ∧ (st.phase = .testing → st'.phase = .waiting ∧ st'.results = .abandoned ∧ t.seq.test = none)
      ∧ (st.phase = .waiting → st'.phase = .waiting ∧ st'.restraints = { st.restraints with operator := true })
      ∧ (st.phase = .injecting → st'.phase = .holding ∧ st'.holdTimer = 0)
      ∧ (st.phase = .holding → st' = { st with restraints := { st.restraints with operator := true } })
      ∧ (st.phase.pumping = true → t.reg.stroke = 0 ∧ t.reg.valveOpen = false) ∧ ConsolePhaseFrame s t := by
  have hphase := State.phase_of_stage hst
  obtain ⟨t, hnext, hanswered, ⟨hseq, hreg, -, -⟩, hframe⟩ := exec_answered_phase (i := .hold) rfl h
    (PanelCmd.taken_of_operator h rfl rfl) (State.doHold_started (hphase ▸ hstarted)) (s.arrive_phaseFrame _)
    (s.arrive_kept (r := .onlyOperator))
  have htesting := State.hold_testing h.2 hst
  have hinjecting := State.hold_injecting h.2 hst
  have hrestrained := State.hold_restrained hst
  rw [← hseq, hphase] at hrestrained
  rw [← hseq, ← hreg, hphase] at htesting hinjecting
  cases hp : st.phase with
  | testing =>
    obtain ⟨st', hst', hoperator, hwaiting, hresults, htest, hstroke, hvalve⟩ := htesting hp
    exact ⟨t, st', hnext, hanswered, hst', hoperator, fun _ => ⟨hwaiting, hresults, htest⟩, nofun, nofun, nofun,
      fun _ => ⟨hstroke, hvalve⟩, hframe⟩
  | injecting =>
    obtain ⟨st', hst', hoperator, hholding, htimer, hstroke, hvalve⟩ := hinjecting hp
    exact ⟨t, st', hnext, hanswered, hst', hoperator, nofun, nofun, fun _ => ⟨hholding, htimer⟩, nofun,
      fun _ => ⟨hstroke, hvalve⟩, hframe⟩
  | waiting | holding =>
    have hst' := hrestrained (by simp [hp, Phase.restrained])
    refine ⟨t, _, hnext, hanswered, hst', rfl, ?_⟩
    simp [hp, Phase.pumping, hframe]
  | vacant | packed | closed => simp [hp, Phase.started] at hstarted

/-! ## RELEASE -/

/-- R30: the answer to a RELEASE of a started stage. -/
theorem State.doRelease_started {s : State} (h : s.phase.started = true) :
    s.perform .release =
      if (s.settled State.releaseStage).restraints.operator || (s.settled State.releaseStage).restraints.trip then
        ⟨s.settled State.releaseStage, .refusedState, [(s.settled State.releaseStage).restraints.summary]⟩
      else (s.settled State.releaseStage).answerPhase := by
  simp only [State.perform, State.doRelease, h, if_true]

theorem State.releaseStage_eq {s : State} (h : s.phase.restrained = true) : s.releaseStage = s.changeSet s.released := by
  rcases Phase.restrained_iff.mp h with hp | hp <;> simp [State.releaseStage, hp]

theorem State.releaseStage_phaseFrame (s : State) : PhaseFrame s s.releaseStage := by
  unfold State.releaseStage
  split
  · exact s.changeSet_phaseFrame _
  · exact s.changeSet_phaseFrame _
  · exact .refl s

theorem State.releaseStage_kept (s : State) : s.releaseStage.seq.kept = s.seq.kept := by
  unfold State.releaseStage
  split <;> simp

theorem Phase.started_of_restrained {p : Phase} (h : p.restrained = true) : p.started = true := by
  rcases Phase.restrained_iff.mp h with rfl | rfl <;> rfl

/-- R22, R30: a released set that keeps a member moves no phase. -/
theorem State.release_stays {s : State} {st : StageRecord} (hst : s.seq.stage = some st)
    (hr : s.phase.restrained = true) (hset : s.released.isEmpty = false) :
    (s.settled State.releaseStage).seq.stage = some { st with restraints := s.released } := by
  obtain ⟨hseq, -, -⟩ := State.changeSet_of_some (s := s) hset
  have hstage := congrArg Sequencer.stage (State.releaseStage_eq hr ▸ hseq)
  rw [State.settled_of_still ((State.phase_congr hstage).trans (State.setRestraints_phase _ s)), hstage]
  simp [State.setRestraints, State.modStage_stage, hst]

/-- R30: the released set, by whether TRIP stays. -/
theorem State.released_eq {s : State} {st : StageRecord} (hst : s.seq.stage = some st) :
    s.released = { st.restraints with
      operator := false, trip := st.restraints.trip && decide (s.conf.tag.gLim ≤ s.deliveredNat .gauge) } := by
  simp [State.released, State.restraints_of_stage hst]

/-- A set with a member is not empty. -/
theorem Restraints.isEmpty_of_member {r : Restraints} (h : r.operator = true ∨ r.trip = true ∨ r.sensor = true
    ∨ r.packer = true ∨ r.standoff = true ∨ r.connection = true ∨ r.uplift = true ∨ r.supply = true) :
    r.isEmpty = false := by
  rw [← Bool.not_eq_true, Restraints.isEmpty_iff]
  rintro rfl
  simp [Restraints.none] at h

/-- The clause of O40 on a RELEASE that TRIP stays through (log entry 34). -/
theorem exec_release_trip {s : State} (h : s.takesOperator) {st : StageRecord} (hst : s.seq.stage = some st)
    (hr : st.phase.restrained = true) (htrip : st.restraints.trip = true)
    (hgauge : s.conf.tag.gLim ≤ s.deliveredNat .gauge) :
    ∃ t, exec .release s = .next t ∧ Answered s t .release .refusedState [t.restraints.summary]
      ∧ t.seq.stage = some { st with restraints := { st.restraints with operator := false } }
      ∧ ConsolePhaseFrame s t := by
  rw [← State.phase_of_stage hst] at hr
  have hreleased : s.released = { st.restraints with operator := false } := by
    rw [State.released_eq hst, htrip]
    simp [hgauge, ← htrip]
  have hstage := State.release_stays hst hr (Restraints.isEmpty_of_member (by simp [hreleased, htrip]))
  have hset := State.restraints_of_stage hstage
  have ha := State.doRelease_started (Phase.started_of_restrained hr)
  rw [if_pos (by simp [hset, hreleased, htrip])] at ha
  obtain ⟨t, hnext, hanswered, ⟨hseq, -⟩, hframe⟩ := exec_answered_moved (i := .release) rfl h
    (PanelCmd.taken_of_operator h rfl rfl) ha s.releaseStage_phaseFrame s.releaseStage_kept
  rw [← State.restraints_congr (congrArg Sequencer.stage hseq)] at hanswered
  exact ⟨t, hnext, hanswered, by rw [hseq, hstage, hreleased], hframe⟩

/-- The clause of O40 on a RELEASE that leaves a condition. -/
theorem exec_release_remains {s : State} (h : s.takesOperator) {st : StageRecord} (hst : s.seq.stage = some st)
    (hr : st.phase.restrained = true)
    (hlets : ¬ (st.restraints.trip = true ∧ s.conf.tag.gLim ≤ s.deliveredNat .gauge))
    (hremains : st.restraints.sensor = true ∨ st.restraints.packer = true ∨ st.restraints.standoff = true
      ∨ st.restraints.connection = true ∨ st.restraints.uplift = true ∨ st.restraints.supply = true) :
    ∃ t, exec .release s = .next t ∧ Answered s t .release .ok t.phaseData
      ∧ t.seq.stage = some { st with restraints := { st.restraints with operator := false, trip := false } }
      ∧ ConsolePhaseFrame s t := by
  rw [← State.phase_of_stage hst] at hr
  have hreleased : s.released = { st.restraints with operator := false, trip := false } := by
    rw [State.released_eq hst]
    simpa using hlets
  have hstage := State.release_stays hst hr
    (Restraints.isEmpty_of_member (by simpa only [hreleased, Bool.false_eq_true, false_or] using hremains))
  have ha := State.doRelease_started (Phase.started_of_restrained hr)
  rw [if_neg (by simp [State.restraints_of_stage hstage, hreleased])] at ha
  obtain ⟨t, hnext, hanswered, ⟨hseq, -⟩, hframe⟩ := exec_answered_phase (i := .release) rfl h
    (PanelCmd.taken_of_operator h rfl rfl) ha s.releaseStage_phaseFrame s.releaseStage_kept
  exact ⟨t, hnext, hanswered, by rw [hseq, hstage, hreleased], hframe⟩

/-! ### A RELEASE that empties the set -/

/-- R25, R27: the record of a stage that its emptied set takes into INJECTING, before its evaluation. -/
def StageRecord.intoInjecting (t : Tag) (clock sec : Nat) (st : StageRecord) : StageRecord :=
  if st.phase = .waiting then st.injectingFirst t clock sec else { st with phase := .injecting, restraints := .none }

/-- R25, R27: an emptied set takes the stage into INJECTING. -/
theorem State.changeSet_emptied {s : State} {st : StageRecord} (hst : s.seq.stage = some st)
    (hr : s.phase.restrained = true) (hset : s.restraints ≠ .none) :
    (s.changeSet .none).seq.stage = some (st.intoInjecting s.conf.tag s.time.clock s.stageSecond)
      ∧ (s.changeSet .none).phase = .injecting ∧ PumpHanded (s.changeSet .none)
      ∧ (s.changeSet .none).coord = s.coord.handed .injecting (s.deliveredNat .hole) := by
  have hphase := State.phase_of_stage hst
  have hopen : (s.setRestraints .none).phase ≠ .vacant := by
    rw [State.setRestraints_phase]
    exact Phase.ne_vacant_of_restrained hr
  have hset' : (s.setRestraints .none).seq.stage = some { st with restraints := .none } := by
    simp [State.setRestraints, State.modStage_stage, hst]
  rw [State.changeSet_of_none rfl hset.symm]
  unfold StageRecord.intoInjecting
  rw [← hphase]
  rcases Phase.restrained_iff.mp hr with hp | hp
  · simp only [hp, if_true]
    refine ⟨?_, State.enterInjectingFirst_phase hopen, State.enterInjectingFirst_handed hopen, ?_⟩
    · rw [State.enterInjectingFirst_stage, hset']
      have hsecond : (s.setRestraints .none).stageSecond = s.stageSecond :=
        State.stageSecond_congr (by simp) (s.setRestraints_phaseFrame .none).opened
      simp [hsecond, StageRecord.injectingFirst]
    · rw [State.enterInjectingFirst_coord]
      rfl
  · simp only [hp, reduceCtorEq, if_false]
    refine ⟨?_, State.enterPhase_phase hopen _, State.enterPhase_handed hopen _, ?_⟩
    · simp [State.enterPhase_stage, hset', Phase.restrained]
    · rw [State.enterPhase_coord]
      rfl

/-- What of a record a zeroed refusal timer leaves. -/
theorem StageRecord.timerZeroed_eq (st : StageRecord) :
    st.timerZeroed = { st with refusalTimer := st.timerZeroed.refusalTimer } := by
  unfold StageRecord.timerZeroed
  split <;> rfl

/-- An evaluation that changes nothing but the refusal timer of the record. -/
theorem EvaluatedTo.record {s t : State} (h : EvaluatedTo id s t) {st : StageRecord} (hst : s.seq.stage = some st) :
    ∃ n, t.seq.stage = some { st with refusalTimer := n } := by
  rcases h.stage hst with ht | ht
  · exact ⟨st.refusalTimer, ht⟩
  · exact ⟨_, ht.trans (congrArg some st.timerZeroed_eq)⟩

/-- The clause of O40 on a RELEASE that leaves nothing, beside no hindering neighbour. -/
theorem exec_release_frees {s : State} (h : s.takesOperator) {st : StageRecord} (hst : s.seq.stage = some st)
    (hr : st.phase.restrained = true)
    (hlets : ¬ (st.restraints.trip = true ∧ s.conf.tag.gLim ≤ s.deliveredNat .gauge))
    (hleaves : ¬ (st.restraints.sensor = true ∨ st.restraints.packer = true ∨ st.restraints.standoff = true
      ∨ st.restraints.connection = true ∨ st.restraints.uplift = true ∨ st.restraints.supply = true))
    (hlatched : st.restraints.operator = true ∨ st.restraints.trip = true) (hfree : s.unhindered) :
    ∃ t st', exec .release s = .next t ∧ Answered s t .release .ok t.phaseData ∧ t.seq.stage = some st'
      ∧ st'.phase = .injecting ∧ st'.restraints = .none ∧ t.reg.stroke = 0 ∧ t.reg.valveOpen = true
      ∧ (st.phase = .holding → st'.history = st.history ∧ st'.startMix = st.startMix
        ∧ st'.pendingMix = st.pendingMix ∧ st'.injectionAt = st.injectionAt ∧ st'.holdTimer = st.holdTimer)
      ∧ (st.phase = .waiting → st'.injectionAt = some s.time.clock
        ∧ st'.startMix = some (startMixOf s.conf.tag st.results))
      ∧ ConsolePhaseFrame s t := by
  have hphase := State.phase_of_stage hst
  rw [← hphase] at hr
  have hreleased : s.released = .none := by
    rw [State.released_eq hst]
    simp only [not_or, Bool.not_eq_true] at hleaves
    simp only [Restraints.none, Restraints.mk.injEq, true_and, hleaves, and_true]
    simpa using hlets
  have hset : s.restraints ≠ .none := by
    rw [State.restraints_of_stage hst]
    rintro hnone
    simp [hnone, Restraints.none] at hlatched
  obtain ⟨hstage, hinjecting, ⟨hstroke, hvalve, -⟩, hcoord⟩ := State.changeSet_emptied hst hr hset
  rw [← hreleased, ← State.releaseStage_eq hr] at hstage hinjecting hstroke hvalve hcoord
  have hunhindered : s.releaseStage.unhindered := by
    refine hfree.carries (.of_phaseFrame s.releaseStage_phaseFrame) ?_
    obtain ⟨-, -, -, hreport, -⟩ := id hfree
    rw [hcoord]
    exact Coordination.handed_report _ _ hreport
  have hev := hunhindered.evaluates (by simp [hinjecting, Phase.pumping])
  obtain ⟨n, hevaluated⟩ := hev.record hstage
  obtain ⟨kstroke, kvalve, -⟩ := hev.pump
  have hmoved : s.releaseStage.phase ≠ s.phase := by
    rw [hinjecting]
    rcases Phase.restrained_iff.mp hr with hp | hp <;> simp [hp]
  have hempty : (st.intoInjecting s.conf.tag s.time.clock s.stageSecond).restraints = .none := by
    unfold StageRecord.intoInjecting
    split <;> rfl
  have ha := State.doRelease_started (Phase.started_of_restrained hr)
  rw [if_neg (by simp [State.settled_of_moved hmoved, State.restraints_of_stage hevaluated, hempty, Restraints.none])]
    at ha
  obtain ⟨t, hnext, hanswered, ⟨hseq, hreg, -⟩, hframe⟩ := exec_answered_phase (i := .release) rfl h
    (PanelCmd.taken_of_operator h rfl rfl) ha s.releaseStage_phaseFrame s.releaseStage_kept
  rw [State.settled_of_moved hmoved] at hseq hreg
  refine ⟨t, { st.intoInjecting s.conf.tag s.time.clock s.stageSecond with refusalTimer := n }, hnext, hanswered,
    hseq ▸ hevaluated, ?_, hempty, hreg ▸ kstroke.trans hstroke, ?_, fun hp => ?_,
    fun hp => ?_, hframe⟩
  · unfold StageRecord.intoInjecting
    split <;> rfl
  · rw [hreg, kvalve, hvalve, hinjecting]
    rfl
  · simp [StageRecord.intoInjecting, hp]
  · simp [StageRecord.intoInjecting, hp, StageRecord.injectingFirst]

/-- Settles O40, by the phase that the command finds and by what the set keeps. -/
theorem holdAndRelease : Obligations.HoldAndRelease := by
  intro s h
  have hhold : PanelCmd.hold.Taken s := PanelCmd.taken_of_operator h rfl rfl
  have hrelease : PanelCmd.release.Taken s := PanelCmd.taken_of_operator h rfl rfl
  refine ⟨fun st hst hstarted => exec_hold h hst hstarted, fun hp => ?_, fun st hst hr => ⟨?_, ?_, ?_⟩,
    fun hp hset => ?_, fun hp => ?_⟩
  · exact refusedWith_of_refuse rfl h hhold (by simp [State.perform, State.doHold, hp])
  · rintro ⟨htrip, hgauge⟩
    exact exec_release_trip h hst hr htrip hgauge
  · exact fun hlets hremains => exec_release_remains h hst hr hlets hremains
  · exact fun hlets hleaves hlatched hfree => exec_release_frees h hst hr hlets hleaves hlatched hfree
  · have hstarted : s.phase.started = true := by rcases Phase.pumping_iff.mp hp with hp | hp <;> rw [hp] <;> rfl
    have hsame : s.settled State.releaseStage = s := by
      have hstage : s.releaseStage = s := by
        rcases Phase.pumping_iff.mp hp with hp | hp <;> simp [State.releaseStage, hp]
      rw [State.settled_of_still (by rw [hstage]), hstage]
    have ha := State.doRelease_started hstarted
    rw [hsame, if_neg (by simp [hset, Restraints.none])] at ha
    obtain ⟨t, hnext, hanswered, honly⟩ := exec_answered_unchanged (i := .release) rfl h hrelease ha
    have hseq : t.seq = s.seq := honly .seq (by simp)
    refine ⟨t, hnext, ?_, honly⟩
    rwa [State.phaseData_congr (congrArg Sequencer.stage hseq)]
  · exact exec_answered_unchanged rfl h hrelease (by simp [State.perform, State.doRelease, hp])

end Sys2Proof.Machine
end

section
/-! SUPPORT. OPEN (R18, R19, R63, R78, R113, R169, R183). -/

namespace Sys2Proof.Machine

/-! ## The step limit of an open stage (R163) -/

theorem State.recomputeStep_coord (n : Nat) (s : State) : (s.recomputeStep n).coord = s.coord := by
  unfold State.recomputeStep
  split
  · rfl
  · simp only
    split <;> rfl

/-- R163: the limits handed give an open stage its step limit. -/
theorem State.formLimits_limit {s : State} (h : s.isOpen = true) : s.formDemand.formLimits.coord.limit = s.stepLimit := by
  have hopen : s.formDemand.isOpen = true := h
  have hlimit : s.formDemand.stepLimit = s.stepLimit := rfl
  unfold State.formLimits
  simp only [hopen, if_true, State.setLimit, State.recomputeStep_coord]
  exact hlimit

theorem State.stepLimit_bounds (s : State) : 1 ≤ s.stepLimit ∧ s.stepLimit ≤ max 1 s.profile.top := by
  unfold State.stepLimit
  omega

/-! ## An accepted OPEN -/

section
variable (top bottom profile : Nat) (waterTest autoAdvance : Bool) {s : State}

/-- The registers and blocks of the state that the evaluation of an accepted OPEN finds. -/
theorem State.packedAnew_blocks :
    (s.packedAnew top bottom profile waterTest autoAdvance).seq
        = s.seq.opened s.openNumber (s.openRecord top bottom profile waterTest autoAdvance)
      ∧ (s.packedAnew top bottom profile waterTest autoAdvance).reg
          = ⟨(s.profileAt profile).start, 0, 0, 0, 0, false, false⟩
      ∧ (s.packedAnew top bottom profile waterTest autoAdvance).take = s.take.opened s.openNumber
      ∧ (s.packedAnew top bottom profile waterTest autoAdvance).env = { s.env with replaced := 0 }
      ∧ (s.packedAnew top bottom profile waterTest autoAdvance).conf = { s.conf with lock := true }
      ∧ (s.packedAnew top bottom profile waterTest autoAdvance).coord
          = s.coord.opened.handed .packed (s.deliveredNat .hole) := by
  obtain ⟨hcoord, htake, henv, hconf⟩ := s.createStage_blocks top bottom profile waterTest autoAdvance
  have hhole : (s.createStage top bottom profile waterTest autoAdvance).deliveredNat .hole = s.deliveredNat .hole :=
    State.deliveredNat_congr (by simp) _
  simp [State.packedAnew, State.handover, State.createStage_seq, State.createStage_reg, hcoord, htake, henv, hconf, hhole,
    Sequencer.handed, Sequencer.opened, Regulator.handed, Regulator.opened, Envelope.handed, Phase.pumping]

theorem State.packedAnew_working (h : s.working = true) :
    (s.packedAnew top bottom profile waterTest autoAdvance).working = true := by
  obtain ⟨-, -, -, -, hconf, -⟩ := s.packedAnew_blocks top bottom profile waterTest autoAdvance
  simpa [State.working, hconf] using h

/-- R19, R20: what the evaluation of an accepted OPEN leaves of the stage as it was created. -/
theorem State.openStage_evaluated (h : s.working = true) :
    EvaluatedTo id (s.packedAnew top bottom profile waterTest autoAdvance)
        (s.openStage top bottom profile waterTest autoAdvance)
      ∧ (s.openStage top bottom profile waterTest autoAdvance).coord.limit
          = (s.packedAnew top bottom profile waterTest autoAdvance).stepLimit := by
  have hphase := s.packedAnew_phase top bottom profile waterTest autoAdvance
  have hworking := State.packedAnew_working top bottom profile waterTest autoAdvance h
  have hidle : (s.packedAnew top bottom profile waterTest autoAdvance).Quiet :=
    .of_idle (by simp [hphase, Phase.pumping]) (by simp [hphase, Phase.restrained])
  exact ⟨hidle.evaluatedTo hworking, (congrArg (fun u => u.coord.limit) (hidle.evaluate hworking)).trans
    (State.formLimits_limit (by simp [State.isOpen, hphase]))⟩

/-- R19: the record and the registers after an accepted OPEN. -/
theorem State.openStage_works (h : s.working = true) :
    (s.openStage top bottom profile waterTest autoAdvance).seq.stage
        = some (s.openRecord top bottom profile waterTest autoAdvance)
      ∧ (s.openStage top bottom profile waterTest autoAdvance).seq.counter = s.openNumber
      ∧ (s.openStage top bottom profile waterTest autoAdvance).seq.test = none
      ∧ (s.openStage top bottom profile waterTest autoAdvance).seq.basePressure = none
      ∧ (s.openStage top bottom profile waterTest autoAdvance).seq.confirmRun = 0
      ∧ (s.openStage top bottom profile waterTest autoAdvance).seq.intensityRun = 0
      ∧ (s.openStage top bottom profile waterTest autoAdvance).reg
          = ⟨(s.profileAt profile).start, 0, 0, 0, 0, false, false⟩ := by
  obtain ⟨hseq, hreg, -⟩ := s.packedAnew_blocks top bottom profile waterTest autoAdvance
  obtain ⟨hev, -⟩ := State.openStage_evaluated top bottom profile waterTest autoAdvance h
  obtain ⟨htest, hbase, hconfirm, hintensity, hcounter, -⟩ := hev.registers
  rw [hseq] at htest hbase hconfirm hintensity hcounter
  refine ⟨?_, hcounter, htest, hbase, hconfirm, hintensity, ?_⟩
  · rcases hev.stage (s.packedAnew_stage top bottom profile waterTest autoAdvance) with hst | hst <;> exact hst
  · rcases hev.reg with hr | hr <;> rw [hr, hreg]
    rfl

/-- R19, R158, R163, R169: the Coordination Unit after an accepted OPEN. -/
theorem State.openStage_coord (h : s.working = true) :
    let t := s.openStage top bottom profile waterTest autoAdvance
    t.coord.allowance = 0 ∧ t.coord.lowRun = 0 ∧ t.coord.highRun = 0 ∧ t.coord.report = false ∧ t.coord.suspects = []
      ∧ t.coord.riseRun = 0 ∧ t.coord.quietRun = 0 ∧ t.coord.baseline = some (s.deliveredNat .hole)
      ∧ 1 ≤ t.coord.limit ∧ t.coord.limit ≤ max 1 (s.profileAt profile).top := by
  obtain ⟨-, -, -, -, hconf, hcoord⟩ := s.packedAnew_blocks top bottom profile waterTest autoAdvance
  obtain ⟨hev, hlimit⟩ := State.openStage_evaluated top bottom profile waterTest autoAdvance h
  obtain ⟨hbaseline, hreport, hsuspects, hrise, hquiet, hallowance, hlow, hhigh⟩ := hev.coord
  rw [hcoord] at hbaseline hreport hsuspects hrise hquiet hallowance hlow hhigh
  have hprofile : (s.packedAnew top bottom profile waterTest autoAdvance).profile = s.profileAt profile := by
    simp [State.profile, State.packedAnew_stage, State.openRecord, StageRecord.opened, State.profileAt, hconf]
  have hbounds := (s.packedAnew top bottom profile waterTest autoAdvance).stepLimit_bounds
  rw [← hlimit, hprofile] at hbounds
  exact ⟨hallowance, hlow, hhigh, hreport, hsuspects, hrise, hquiet, hbaseline, hbounds⟩

/-- R20, R113, R43, R183: the other blocks after an accepted OPEN. -/
theorem State.openStage_blocks (h : s.working = true) :
    let t := s.openStage top bottom profile waterTest autoAdvance
    t.take = s.take.opened s.openNumber ∧ t.env = { s.env with replaced := 0 } ∧ t.conf = { s.conf with lock := true }
      ∧ t.link.urgent = true ∧ FieldAndSupplyKept s t
      ∧ OnlyChanges [.seq, .take, .reg, .coord, .env, .conf, .link, .panel] s t := by
  obtain ⟨hseq, -, htake, henv, hconf, -⟩ := s.packedAnew_blocks top bottom profile waterTest autoAdvance
  have hmark : (s.packedAnew top bottom profile waterTest autoAdvance).link.urgent = true := by
    refine State.urgent_sets_mark ?_
    obtain ⟨-, -, -, hlocked⟩ := s.createStage_blocks top bottom profile waterTest autoAdvance
    simpa [State.working, hlocked] using h
  have hkept : FieldAndSupplyKept s (s.packedAnew top bottom profile waterTest autoAdvance) := by
    simp [FieldAndSupplyKept, hseq, Sequencer.opened]
  have hevaluated : (s.openStage top bottom profile waterTest autoAdvance)
      = (s.packedAnew top bottom profile waterTest autoAdvance).evaluate := rfl
  refine ⟨by simp [hevaluated, htake], by simp [hevaluated, henv], by simp [hevaluated, hconf],
    State.evaluate_mark hmark, hkept.trans (State.evaluate_fieldAndSupplyKept _), ?_⟩
  intro b hb
  cases b <;> simp [sameBlock] at hb ⊢

end

/-! ## The checks of OPEN -/

theorem State.openArgsBad_iff (s : State) (top bottom : Nat) (p w a : Byte) :
    s.openArgsBad top bottom p w a = true ↔
      (20000 < bottom ∨ bottom < top + 100 ∨ top + 1000 < bottom ∨ 3 < p.toNat
        ∨ (s.profileAt p.toNat).valid = false ∨ 1 < w.toNat ∨ 1 < a.toNat) := by
  simp [State.openArgsBad, or_assoc]

/-- R19: what OPEN answers, check by check. -/
theorem State.doOpen_eq (s : State) (top bottom : Nat) (p w a : Byte) :
    s.perform (.openStage top bottom p w a) =
      if s.phase ≠ .vacant then s.refuse .refusedState
      else if s.openArgsBad top bottom p w a = true then s.refuse .badArg
      else if s.meas.sealIn.accepted = false then s.refuse .refusedSeal
      else ⟨s.openStage top bottom p.toNat (w == 1#8) (a == 1#8), .ok,
        be16 (s.openStage top bottom p.toNat (w == 1#8) (a == 1#8)).seq.counter⟩ := rfl

/-- Settles O38: the number by `nextNumber_fresh`, the rest block by block. -/
theorem openCreatesTheStage : Obligations.OpenCreatesTheStage := by
  intro s top bottom p w a h
  have htaken : (PanelCmd.openStage top.toNat bottom.toNat p w a).Taken s := PanelCmd.taken_of_operator h rfl rfl
  have hexec : exec (.openStage top bottom p w a) s = .next (s.panelArrive (.openStage top.toNat bottom.toNat p w a)) :=
    rfl
  have heq := s.doOpen_eq top.toNat bottom.toNat p w a
  simp only
  rw [← State.openArgsBad_iff]
  refine ⟨fun hvacant hgood hseal => ?_, fun hopen => ?_, fun hvacant hbad => ?_, fun hvacant hgood hseal => ?_⟩
  · rw [if_neg (by simp [hvacant]), if_neg hgood, if_neg (by simp [hseal])] at heq
    have hnext := exec_answered hexec h htaken heq
    obtain ⟨hstage, hcounter, hregisters⟩ :=
      State.openStage_works top.toNat bottom.toNat p.toNat (w == 1#8) (a == 1#8) h.2
    have hcoord := State.openStage_coord top.toNat bottom.toNat p.toNat (w == 1#8) (a == 1#8) h.2
    obtain ⟨htake, henv, hconf, hmark, hkept, honly⟩ :=
      State.openStage_blocks top.toNat bottom.toNat p.toNat (w == 1#8) (a == 1#8) h.2
    obtain ⟨htest, hbase, hconfirm, hintensity, hreg⟩ := hregisters
    obtain ⟨hallowance, hlow, hhigh, hreport, hsuspects, hrise, hquiet, hbaseline, hlimit⟩ := hcoord
    rw [hcounter] at hnext
    refine ⟨_, s.openNumber, hnext, ?_, fun hlog => nextNumber_fresh (by simpa using hlog) _, nextNumber_of_free, hcounter,
      hstage, htest, hbase, hconfirm, hintensity, hreg, htake, henv, hconf, hallowance, hlow, hhigh, hreport, hsuspects,
      hrise, hquiet, hbaseline, hlimit.1, hlimit.2, hmark, hkept,
      honly.trans ((State.setProcess_onlyChanges _ _).mono (by simp))⟩
    simp only [Answered, State.setProcess, State.openStage_frame]
  · exact refusedWith_of_refuse hexec h htaken (by rw [heq, if_pos hopen])
  · exact refusedWith_of_refuse hexec h htaken (by rw [heq, if_neg (by simp [hvacant]), if_pos hbad])
  · exact refusedWith_of_refuse hexec h htaken
      (by rw [heq, if_neg (by simp [hvacant]), if_neg hgood, if_pos hseal])

end Sys2Proof.Machine
end

section
/-! SUPPORT. The entry into WAITING and the evaluation that it raises: a stage that stays there with the conditions that
stand, and one that passes on into INJECTING (R21, R25, R83, R85, R149). -/

namespace Sys2Proof.Machine

/-! ## Conditions as another phase would find them -/

/-- The state with its stage in phase `p`, all else as it is: where the conditions of an evaluation in `p` are read. -/
def State.foundIn (p : Phase) (s : State) : State := s.modStage fun st => { st with phase := p }

theorem State.foundIn_phase {s : State} (h : s.phase ≠ .vacant) (p : Phase) : (s.foundIn p).phase = p := by
  obtain ⟨st, hst, -⟩ := State.exists_stage_of_phase h
  simp [State.phase, State.foundIn, State.modStage_stage, hst]

theorem State.foundIn_alike (p : Phase) (s : State) : ConditionsAlike s (s.foundIn p) :=
  ⟨rfl, rfl, rfl, State.modStage_opened (by intro st; rfl) s⟩

theorem ConditionsAlike.trans {a b c : State} (h : ConditionsAlike a b) (k : ConditionsAlike b c) :
    ConditionsAlike a c := by
  obtain ⟨hconf, htable, huplift, hopened⟩ := h
  obtain ⟨kconf, ktable, kuplift, kopened⟩ := k
  exact ⟨kconf.trans hconf, ktable.trans htable, kuplift.trans huplift, kopened.trans hopened⟩

/-- An evaluation in a state of the same stage, phase and report reads the same conditions. -/
theorem ConditionsAlike.keptAnew {s t : State} (h : ConditionsAlike s t) (hphase : t.phase = s.phase)
    (hreport : t.coord.report = s.coord.report) (hkept : t.seq.kept = s.seq.kept) : t.keptAnew = s.keptAnew := by
  obtain ⟨hconf, htable, huplift, hopened⟩ := h
  exact (State.anew_congr hconf htable hreport huplift hopened hphase hkept).1

/-- R152, R159: PACKED and WAITING read the same conditions. -/
theorem State.foundIn_waiting_of_packed {s : State} (h : s.phase = .packed) :
    (s.foundIn .waiting).standoffCauses.any = s.standoffCauses.any
      ∧ (s.foundIn .waiting).connectionCondition = s.connectionCondition
      ∧ (s.foundIn .waiting).upliftCondition = s.upliftCondition := by
  have hopen : s.phase ≠ .vacant := by simp [h]
  have hphase := State.foundIn_phase hopen .waiting
  have halike := s.foundIn_alike .waiting
  have hentries : (s.foundIn .waiting).table = s.table := rfl
  have hconf : (s.foundIn .waiting).conf = s.conf := rfl
  have hreport : (s.foundIn .waiting).coord = s.coord := rfl
  have huplift := halike.uplift
  obtain ⟨-, -, -, hopened⟩ := halike
  refine ⟨Bool.eq_iff_iff.mpr ?_, Bool.eq_iff_iff.mpr ?_, huplift⟩
  · simp only [State.standoffCauses_any_iff, hphase, h, hentries, hconf, Phase.active,
      State.conflicts_congr (s := s) (t := s.foundIn .waiting) rfl hopened,
      State.entryPrecedes_congr (s := s) (t := s.foundIn .waiting) rfl]
    simp
  · simp only [State.connectionCondition_iff, hphase, h, hreport,
      State.named_congr (s := s) (t := s.foundIn .waiting) rfl, State.profile_congr hconf hopened]
    simp

/-! ## The state that an entry into WAITING leaves -/

section
variable {s : State} {st : StageRecord}

/-- Any of the six conditions kept is a member of the set they make. -/
theorem Conditions.toRestraints_isEmpty (c : Conditions) : c.toRestraints.isEmpty = !c.any := by
  rw [Bool.eq_iff_iff, Restraints.isEmpty_iff]
  simp [Conditions.toRestraints, Conditions.any, Restraints.none, and_assoc]

theorem Restraints.none_union (r : Restraints) : Restraints.none.union r = r := by
  simp [Restraints.none, Restraints.union]

theorem State.enterWaiting_working (b : Restraints) (s : State) : (s.enterWaiting b).working = s.working :=
  State.working_congr (by simp)

/-- R20: the entry is told to the link. -/
theorem State.enterWaiting_urgent (h : s.working = true) (b : Restraints) : (s.enterWaiting b).link.urgent = true := by
  have hentered := State.enterPhase_urgent h .waiting
  have hset : ((s.enterPhase .waiting).setRestraints (b.union s.seq.kept.toRestraints)).link.urgent = true := hentered
  unfold State.enterWaiting
  simp only
  split
  · exact State.enterInjectingFirst_mark hset
  · exact hset

/-- R21, R25: the entry of a stage that a kept condition holds. -/
theorem State.enterWaiting_held (hst : s.seq.stage = some st) (hkept : s.seq.kept.any = true) :
    (s.enterWaiting .none).seq
        = { s.seq with
            stage := some { st with phase := .waiting, restraints := s.seq.kept.toRestraints }
            test := none
            confirmRun := if s.phase = .injecting then 0 else s.seq.confirmRun }
      ∧ (s.enterWaiting .none).coord = s.coord.handed .waiting (s.deliveredNat .hole) := by
  have hset : (Restraints.none.union s.seq.kept.toRestraints).isEmpty = false := by
    simp [Restraints.none_union, Conditions.toRestraints_isEmpty, hkept]
  rw [State.enterWaiting_of_some hset, Restraints.none_union]
  refine ⟨?_, ?_⟩
  · simp [State.setRestraints, State.modStage, State.enterPhase_seq, hst]
  · simp [State.setRestraints, State.enterPhase_coord]

/-- The conditions that the evaluation of such an entry reads. -/
theorem State.enterWaiting_keptAnew (hst : s.seq.stage = some st) (hkept : s.seq.kept.any = true)
    (hopen : s.phase ≠ .vacant) : (s.enterWaiting .none).keptAnew = (s.foundIn .waiting).keptAnew := by
  obtain ⟨hseq, hcoord⟩ := State.enterWaiting_held hst hkept
  have halike := (s.foundIn_alike .waiting).symm.trans (.of_phaseFrame (s.enterWaiting_phaseFrame .none))
  refine halike.keptAnew ?_ ?_ (by simp [hseq, State.foundIn, State.modStage])
  · rw [State.foundIn_phase hopen, State.phase, hseq]
  · rw [hcoord]
    rfl

/-- R21, R25, R149: a stage that the conditions hold in WAITING, after the evaluation of its entry (log entry 7). -/
theorem State.enterWaiting_stays (hw : s.working = true) (hst : s.seq.stage = some st) (hopen : s.phase ≠ .vacant)
    (hkept : s.seq.kept.any = true) (hstands : (s.foundIn .waiting).keptAnew.any = true) :
    let t := (s.enterWaiting .none).evaluate
    (∃ n, t.seq.stage = some { st with
        phase := .waiting, restraints := (s.foundIn .waiting).keptAnew.toRestraints, refusalTimer := n })
      ∧ t.seq.kept = (s.foundIn .waiting).keptAnew ∧ t.reg.stroke = 0 ∧ t.reg.valveOpen = false
      ∧ t.coord.baseline = some (s.deliveredNat .hole) ∧ t.link.urgent = true := by
  obtain ⟨hseq, hcoord⟩ := State.enterWaiting_held hst hkept
  have hstage := congrArg Sequencer.stage hseq
  have hphase : (s.enterWaiting .none).phase = .waiting := State.phase_of_stage hstage
  have hanew := State.enterWaiting_keptAnew hst hkept hopen
  have hset : (s.enterWaiting .none).setAnew = (s.foundIn .waiting).keptAnew.toRestraints := by
    rw [State.setAnew, State.restraints_of_stage hstage, hanew]
    exact Restraints.none_union _
  have hev := State.evaluate_restrained ((s.enterWaiting_working .none).trans hw) (by rw [hphase]; rfl)
    (by rw [hset, Conditions.toRestraints_isEmpty, hstands]; rfl)
  rw [hset] at hev
  obtain ⟨-, -, -, -, -, hremembered⟩ := hev.registers
  obtain ⟨hstroke, hvalve, -⟩ := hev.pump
  obtain ⟨hbaseline, -⟩ := hev.coord
  obtain ⟨kstroke, kvalve, -⟩ := State.enterWaiting_handed hopen .none
  refine ⟨?_, hremembered.trans hanew, hstroke.trans kstroke, ?_, ?_, State.evaluate_mark (State.enterWaiting_urgent hw _)⟩
  · rcases hev.stage hstage with h | h
    · exact ⟨_, h⟩
    · exact ⟨_, h.trans (by rw [StageRecord.timerZeroed_eq])⟩
  · rw [hvalve, kvalve, hphase]
    rfl
  · rw [hbaseline, hcoord]
    rfl

/-! ## The passage through WAITING into INJECTING -/

/-- R25, R85 to R87: what a stage that has come from WAITING into INJECTING shows, but for the refusal timer: its record
`first`, and the registers of the Sequencer, the pump and the link. -/
def InjectsFirst (first : StageRecord) (t : State) : Prop :=
  (∃ n, t.seq.stage = some { first with refusalTimer := n }) ∧ t.seq.test = none ∧ t.seq.basePressure = none
    ∧ t.seq.confirmRun = 0 ∧ t.reg.stroke = 0 ∧ t.reg.valveOpen = true ∧ t.reg.suctionWater = false
    ∧ t.link.urgent = true

/-- The evaluation of an entry into INJECTING for which nothing arrives. -/
theorem State.enterInjectingFirst_evaluated (hst : s.seq.stage = some st) (hw : s.working = true)
    (hmark : s.link.urgent = true) (hfree : s.enterInjectingFirst.arrivingAnew.isEmpty = true) :
    InjectsFirst (st.injectingFirst s.conf.tag s.time.clock s.stageSecond) s.enterInjectingFirst.evaluate
      ∧ s.enterInjectingFirst.evaluateOnce = s.enterInjectingFirst.evaluate := by
  have hstage : s.enterInjectingFirst.seq.stage = some (st.injectingFirst s.conf.tag s.time.clock s.stageSecond) := by
    rw [State.enterInjectingFirst_stage, hst]
    rfl
  have hphase : s.enterInjectingFirst.phase = .injecting := State.phase_of_stage hstage
  have hworking : s.enterInjectingFirst.working = true := (State.working_congr (by simp)).trans hw
  have hquiet : s.enterInjectingFirst.Quiet := .of_pumping (by rw [hphase]; rfl) hfree
  have hev := hquiet.evaluatedTo hworking
  obtain ⟨htest, hbase, hconfirm, -⟩ := hev.registers
  obtain ⟨hstroke, hvalve, hsuction, -⟩ := hev.pump
  rw [State.enterInjectingFirst_seq] at htest hbase hconfirm
  rw [State.enterInjectingFirst_reg] at hstroke hvalve hsuction
  exact ⟨⟨hev.record hstage, htest, hbase, hconfirm, hstroke, hvalve, hsuction,
    State.evaluate_mark (State.enterInjectingFirst_mark hmark)⟩,
    (hquiet.evaluateOnce hworking).trans (hquiet.evaluate hworking).symm⟩

/-- A stage of the same conditions for which nothing arrives in INJECTING. -/
theorem ConditionsAlike.arrives_not {t : State} (h : ConditionsAlike s t) (ht : t.phase = .injecting)
    (hopen : s.phase ≠ .vacant) (hfree : (s.foundIn .injecting).arrivingAnew.isEmpty = true) :
    t.arrivingAnew.isEmpty = true := by
  have halike := h.symm.trans (s.foundIn_alike .injecting)
  exact halike.arrivals_carry (by rw [ht]; rfl) (.inr (by rw [State.foundIn_phase hopen]; rfl)) hfree

/-- R21, R25: with no condition kept the entry passes on into INJECTING in the same event. -/
theorem State.enterWaiting_passes (hw : s.working = true) (hst : s.seq.stage = some st) (hopen : s.phase ≠ .vacant)
    (hkept : s.seq.kept.any = false) (hfree : (s.foundIn .injecting).arrivingAnew.isEmpty = true) :
    InjectsFirst (st.injectingFirst s.conf.tag s.time.clock s.stageSecond) (s.enterWaiting .none).evaluate := by
  have hset : (Restraints.none.union s.seq.kept.toRestraints).isEmpty = true := by
    simp [Restraints.none_union, Conditions.toRestraints_isEmpty, hkept]
  have hnone : s.seq.kept.toRestraints = .none := by
    rwa [Restraints.none_union, Restraints.isEmpty_iff] at hset
  have hframe := s.enterWaiting_phaseFrame .none
  rw [State.enterWaiting_of_none hset, Restraints.none_union] at hframe ⊢
  generalize hx : (s.enterPhase .waiting).setRestraints s.seq.kept.toRestraints = x at *
  have hstage : x.seq.stage = some { st with phase := .waiting, restraints := .none } := by
    simp [← hx, hnone, State.setRestraints, State.modStage_stage, State.enterPhase_stage, hst]
  have hxopen : x.phase ≠ .vacant := by simp [State.phase_of_stage hstage]
  have hxframe : PhaseFrame s x := by
    rw [← hx]
    exact (State.enterPhase_phaseFrame (by simp) s).trans (State.setRestraints_phaseFrame _ _)
  obtain ⟨htime, -, -, -, -, -, hconf, -⟩ := hxframe.blocks
  have hmark : x.link.urgent = true := by
    rw [← hx]
    exact State.enterPhase_urgent hw .waiting
  have harrives := (ConditionsAlike.of_phaseFrame hframe).arrives_not (State.enterInjectingFirst_phase hxopen) hopen hfree
  obtain ⟨hinjects, -⟩ :=
    State.enterInjectingFirst_evaluated hstage ((State.working_congr (by rw [hconf])).trans hw) hmark harrives
  rw [hconf, htime, State.stageSecond_congr htime hxframe.opened] at hinjects
  exact hinjects

/-- R22, R25: one evaluation of a WAITING stage whose set has a member and is to have none. -/
theorem State.evaluateOnce_emptied (hw : s.working = true) (hst : s.seq.stage = some st) (hp : st.phase = .waiting)
    (hmember : st.restraints ≠ .none) (hset : s.setAnew = .none) :
    ∃ x n, s.evaluateOnce = x.enterInjectingFirst
      ∧ x.seq.stage = some { st with restraints := .none, refusalTimer := n } ∧ PhaseFrame s x ∧ x.link = s.link := by
  have hphase : s.phase = .waiting := (State.phase_of_stage hst).trans hp
  have hlimits := s.formLimits_handed
  obtain ⟨uphase, urestraints, -⟩ := hlimits.1.standing
  have hframe : PhaseFrame s s.formDemand.formLimits := s.formDemand_phaseFrame.trans (State.formLimits_phaseFrame _)
  have hlink : s.formDemand.formLimits.link = s.link := by simp
  have hstage : ∃ n, s.formDemand.formLimits.seq.stage = some { st with refusalTimer := n } := by
    rcases hlimits.1.stage with h | h
    · exact ⟨_, h.trans hst⟩
    · exact ⟨_, h.trans (by rw [hst, Option.map_some, StageRecord.timerZeroed_eq])⟩
  obtain ⟨n, hstage⟩ := hstage
  have hone := State.evaluateOnce_eq hw
  rw [State.present_restrained (by rw [uphase, hphase]; rfl), urestraints] at hone
  generalize s.formDemand.formLimits = u at *
  have hkeep : PhaseFrame u (u.keep s.keptAnew) := PhaseFrame.ofSeq rfl rfl rfl
  have hne : Restraints.none ≠ (u.keep s.keptAnew).restraints := by
    have hold : (u.keep s.keptAnew).restraints = st.restraints :=
      urestraints.trans (State.restraints_of_stage hst)
    rw [hold]
    exact hmember.symm
  refine ⟨(u.keep s.keptAnew).setRestraints .none, n, ?_, ?_, (hframe.trans hkeep).trans (State.setRestraints_phaseFrame _ _),
    hlink⟩
  · rw [hone]
    have hchange := State.changeSet_of_none (s := u.keep s.keptAnew) rfl hne
    have hwaiting : (u.keep s.keptAnew).phase = .waiting := uphase.trans hphase
    rw [if_pos hwaiting] at hchange
    exact (congrArg (fun r => (u.keep s.keptAnew).changeSet r) hset).trans hchange
  · simp [State.setRestraints, State.modStage_stage, State.keep, hstage]

/-- R22, R25, R149: a WAITING stage that its last condition leaves: the evaluation takes it on into INJECTING, and the
evaluation that this raises leaves it there. -/
theorem State.evaluate_emptied (hw : s.working = true) (hst : s.seq.stage = some st) (hp : st.phase = .waiting)
    (hmember : st.restraints ≠ .none) (hset : s.setAnew = .none) (hmark : s.link.urgent = true)
    (hfree : (s.foundIn .injecting).arrivingAnew.isEmpty = true) :
    InjectsFirst (st.injectingFirst s.conf.tag s.time.clock s.stageSecond) s.evaluate := by
  obtain ⟨x, n, honce, hstage, hframe, hlink⟩ := State.evaluateOnce_emptied hw hst hp hmember hset
  have hxopen : x.phase ≠ .vacant := by simp [State.phase_of_stage hstage, hp]
  have hphase : x.enterInjectingFirst.phase = .injecting := State.enterInjectingFirst_phase hxopen
  obtain ⟨htime, -, -, -, -, -, hconf, -⟩ := hframe.blocks
  have halike : ConditionsAlike s x.enterInjectingFirst := .of_phaseFrame (honce ▸ s.evaluateOnce_phaseFrame)
  have hopen : s.phase ≠ .vacant := by simp [State.phase_of_stage hst, hp]
  obtain ⟨hinjects, hevaluates⟩ := State.enterInjectingFirst_evaluated hstage
    ((State.working_congr (by rw [hconf])).trans hw) (hlink ▸ hmark) (halike.arrives_not hphase hopen hfree)
  have hmoved : s.evaluateOnce.phase ≠ s.phase := by
    rw [honce, hphase, State.phase_of_stage hst, hp]
    decide
  rw [hconf, htime, State.stageSecond_congr htime hframe.opened] at hinjects
  rw [State.evaluate_of_moved hmoved, honce, hevaluates]
  exact hinjects

/-- R25, R149: where a condition was kept and none stands, the evaluation of the entry takes the stage on. -/
theorem State.enterWaiting_freed (hw : s.working = true) (hst : s.seq.stage = some st) (hopen : s.phase ≠ .vacant)
    (hkept : s.seq.kept.any = true) (hstands : (s.foundIn .waiting).keptAnew.any = false)
    (hfree : (s.foundIn .injecting).arrivingAnew.isEmpty = true) :
    InjectsFirst (st.injectingFirst s.conf.tag s.time.clock s.stageSecond) (s.enterWaiting .none).evaluate := by
  obtain ⟨hseq, -⟩ := State.enterWaiting_held hst hkept
  have hstage := congrArg Sequencer.stage hseq
  have hframe := s.enterWaiting_phaseFrame .none
  have hanew := State.enterWaiting_keptAnew hst hkept hopen
  obtain ⟨htime, -, -, -, -, -, hconf, -⟩ := hframe.blocks
  have hmember : s.seq.kept.toRestraints ≠ .none := by
    rintro hnone
    have hempty := Conditions.toRestraints_isEmpty s.seq.kept
    rw [hnone, hkept] at hempty
    exact absurd hempty (by decide)
  have hset : (s.enterWaiting .none).setAnew = .none := by
    have hkeptNone := Conditions.toRestraints_isEmpty (s.foundIn .waiting).keptAnew
    rw [hstands, Bool.not_false, Restraints.isEmpty_iff] at hkeptNone
    rw [State.setAnew, State.restraints_of_stage hstage, hanew, hkeptNone]
    rfl
  have hinjecting : ((s.enterWaiting .none).foundIn .injecting).phase = .injecting :=
    State.foundIn_phase (by simp [State.phase_of_stage hstage]) _
  have halike := (ConditionsAlike.of_phaseFrame hframe).trans ((s.enterWaiting .none).foundIn_alike .injecting)
  have hinjects := State.evaluate_emptied ((s.enterWaiting_working .none).trans hw) hstage rfl hmember hset
    (State.enterWaiting_urgent hw .none) (halike.arrives_not hinjecting hopen hfree)
  rw [hconf, htime, State.stageSecond_congr htime hframe.opened] at hinjects
  exact hinjects

/-- R21, R25: both ways through WAITING into INJECTING. -/
theorem State.enterWaiting_injects (hw : s.working = true) (hst : s.seq.stage = some st) (hopen : s.phase ≠ .vacant)
    (hgone : s.seq.kept.any = false ∨ (s.foundIn .waiting).keptAnew.any = false)
    (hfree : (s.foundIn .injecting).arrivingAnew.isEmpty = true) :
    InjectsFirst (st.injectingFirst s.conf.tag s.time.clock s.stageSecond) (s.enterWaiting .none).evaluate := by
  cases hkept : s.seq.kept.any with
  | false => exact State.enterWaiting_passes hw hst hopen hkept hfree
  | true => exact State.enterWaiting_freed hw hst hopen hkept (hgone.resolve_left (by simp [hkept])) hfree

end

end Sys2Proof.Machine
end

section
/-! SUPPORT. START: the three ways out of PACKED, and the refusal (R21, R25, R80, R85). -/

namespace Sys2Proof.Machine

section
variable {s : State} {st : StageRecord}

theorem State.doStart_packed (hst : s.seq.stage = some st) (hp : s.phase = .packed) :
    s.perform .start = (s.settled (State.startStage st)).answerPhase := by
  simp only [State.perform, State.doStart, hp, hst]

theorem State.startStage_kept (st : StageRecord) (s : State) : (s.startStage st).seq.kept = s.seq.kept := by
  rw [State.startStage_eq]
  split
  · split
    · simp
    · simp [State.startTest]
  · simp

/-- What the command answers out of PACKED: the state after the evaluation of its change of phase. -/
theorem exec_start (h : s.takesOperator) (hst : s.seq.stage = some st) (hp : s.phase = .packed) :
    ∃ t, exec .start s = .next t ∧ Answered s t .start .ok t.phaseData ∧ SameWorks (s.startStage st).evaluate t
      ∧ ConsolePhaseFrame s t := by
  obtain ⟨-, hmoved⟩ := State.startStage_handed hp st
  have hanswered := exec_answered_phase (i := .start) rfl h (PanelCmd.taken_of_operator h rfl rfl)
    (State.doStart_packed hst hp) (s.startStage_phaseFrame st) (s.startStage_kept st)
  rwa [State.settled_of_moved (by rwa [hp])] at hanswered

/-! ## TESTING (R80) -/

/-- R21: a wanted test begins while nothing is kept. -/
theorem State.startStage_tests (hwanted : st.testWanted = true) (hkept : s.seq.kept.any = false) :
    s.startStage st = s.startTest := by
  simp [State.startStage_eq, hwanted, hkept]

theorem State.startTest_urgent (h : s.working = true) : s.startTest.link.urgent = true :=
  State.enterPhase_urgent (s := s.modStage fun st => { st with results := .absent }) h .testing

theorem State.startTest_coord (s : State) : s.startTest.coord = s.coord.handed .testing (s.deliveredNat .hole) :=
  State.enterPhase_coord (s := s.modStage fun st => { st with results := .absent }) .testing

/-- The clause of O39 on a START that begins the test. -/
theorem exec_start_tests (h : s.takesOperator) (hst : s.seq.stage = some st) (hp : s.phase = .packed)
    (hwanted : st.testWanted = true) (hkept : s.seq.kept.any = false) (hfree : s.unhindered) :
    ∃ t st', exec .start s = .next t ∧ Answered s t .start .ok t.phaseData ∧ t.seq.stage = some st'
      ∧ st'.phase = .testing ∧ st'.restraints = .none ∧ st'.results = .absent
      ∧ t.seq.test = some ⟨1, 0, (s.profileAt st.profile).pa, 0, 0, 0, []⟩
      ∧ t.reg.stroke = 0 ∧ t.reg.valveOpen = true ∧ t.reg.suctionWater = true
      ∧ t.link.urgent = true ∧ ConsolePhaseFrame s t := by
  obtain ⟨t, hnext, hanswered, ⟨hseq, hreg, hlink, -⟩, hframe⟩ := exec_start h hst hp
  rw [State.startStage_tests hwanted hkept] at hseq hreg hlink
  have hopen : s.phase ≠ .vacant := by simp [hp]
  have hphase := State.startTest_phase hopen
  have hstage : s.startTest.seq.stage = some { st with results := .absent, phase := .testing, restraints := .none } := by
    simp [State.startTest_stage, hst]
  have hunhindered : s.startTest.unhindered := by
    obtain ⟨-, -, -, hreport, -⟩ := id hfree
    refine hfree.carries (.of_phaseFrame s.startTest_phaseFrame) ?_
    rw [State.startTest_coord]
    exact Coordination.handed_report _ _ hreport
  have hev := hunhindered.evaluates (by rw [hphase]; rfl)
  obtain ⟨n, hevaluated⟩ := hev.record hstage
  obtain ⟨htest, -⟩ := hev.registers
  obtain ⟨kstroke, kvalve, ksuction, -⟩ := hev.pump
  obtain ⟨hstroke, hvalve, hsuction⟩ := State.startTest_handed hopen
  have hprofile : s.profile = s.profileAt st.profile := by simp [State.profile, hst]
  refine ⟨t, _, hnext, hanswered, hseq ▸ hevaluated, rfl, rfl, rfl, ?_, hreg ▸ kstroke.trans hstroke, ?_, ?_,
    hlink ▸ State.evaluate_mark (State.startTest_urgent h.2), hframe⟩
  · rw [hseq, htest, State.startTest_test, hprofile]
    rfl
  · rw [hreg, kvalve, hvalve, hphase]
    rfl
  · rw [hreg, ksuction, hsuction, hphase]
    rfl

/-! ## WAITING (R21, R25, log entry 7) -/

/-- The stage that a START takes into WAITING: its test is abandoned where one was wanted. -/
def State.startsWaiting (st : StageRecord) (s : State) : State := if st.testWanted then s.abandonTest else s

theorem State.startStage_waits (h : st.testWanted = false ∨ s.seq.kept.any = true) :
    s.startStage st = (s.startsWaiting st).enterWaiting .none := by
  rw [State.startStage_eq, State.startsWaiting]
  cases hwanted : st.testWanted with
  | false => rfl
  | true => simp [h.resolve_left (by simp [hwanted])]

/-- What of a state an abandoned test leaves. -/
theorem State.startsWaiting_blocks (hst : s.seq.stage = some st) :
    (s.startsWaiting st).seq.stage
        = some { st with results := if st.testWanted then .abandoned else st.results }
      ∧ (s.startsWaiting st).seq.kept = s.seq.kept ∧ (s.startsWaiting st).coord = s.coord
      ∧ (s.startsWaiting st).conf = s.conf ∧ (s.startsWaiting st).meas = s.meas ∧ (s.startsWaiting st).phase = s.phase
      ∧ PhaseFrame s (s.startsWaiting st) := by
  unfold State.startsWaiting
  split
  · refine ⟨?_, rfl, rfl, rfl, rfl, s.abandonTest_phase, s.abandonTest_phaseFrame⟩
    simp [State.abandonTest, State.modStage_stage, hst]
  · exact ⟨hst, rfl, rfl, rfl, rfl, rfl, .refl s⟩

/-- R149, R152: the conditions that the evaluation of the entry reads are those that stand in PACKED. -/
theorem State.startsWaiting_keptAnew (hst : s.seq.stage = some st) (hp : s.phase = .packed) :
    ((s.startsWaiting st).foundIn .waiting).keptAnew
      = ⟨s.seq.kept.sensor, s.seq.kept.packer, s.standoffCauses.any, s.connectionCondition, s.upliftCondition,
          s.seq.kept.supply⟩ := by
  obtain ⟨-, hkept, hcoord, -, -, hphase, hframe⟩ := State.startsWaiting_blocks hst
  have halike := ((s.foundIn_alike .waiting).symm.trans (.of_phaseFrame hframe)).trans
    ((s.startsWaiting st).foundIn_alike .waiting)
  have hopen : s.phase ≠ .vacant := by simp [hp]
  have hsame : ((s.startsWaiting st).foundIn .waiting).keptAnew = (s.foundIn .waiting).keptAnew := by
    refine halike.keptAnew ?_ (congrArg Coordination.report hcoord) hkept
    rw [State.foundIn_phase (hphase ▸ hopen), State.foundIn_phase hopen]
  obtain ⟨hstandoff, hconnection, huplift⟩ := State.foundIn_waiting_of_packed hp
  rw [hsame]
  unfold State.keptAnew
  rw [hstandoff, hconnection, huplift]
  rfl

/-- The clause of O39 on a START that the conditions hold in WAITING. -/
theorem exec_start_waits (h : s.takesOperator) (hst : s.seq.stage = some st) (hp : s.phase = .packed)
    (hkept : s.seq.kept.any = true)
    (hstands : s.seq.kept.sensor = true ∨ s.seq.kept.packer = true ∨ s.seq.kept.supply = true
      ∨ s.standoffCauses.any = true ∨ s.connectionCondition = true ∨ s.upliftCondition = true) :
    ∃ t st', exec .start s = .next t ∧ Answered s t .start .ok t.phaseData ∧ t.seq.stage = some st'
      ∧ st'.phase = .waiting
      ∧ st'.restraints = ⟨false, false, s.seq.kept.sensor, s.seq.kept.packer, s.standoffCauses.any,
          s.connectionCondition, s.upliftCondition, s.seq.kept.supply⟩
      ∧ t.seq.kept = ⟨s.seq.kept.sensor, s.seq.kept.packer, s.standoffCauses.any, s.connectionCondition,
          s.upliftCondition, s.seq.kept.supply⟩
      ∧ (st.testWanted = true → st'.results = .abandoned) ∧ (st.testWanted = false → st'.results = st.results)
      ∧ t.reg.stroke = 0 ∧ t.reg.valveOpen = false ∧ t.coord.baseline = some (s.deliveredNat .hole)
      ∧ t.link.urgent = true ∧ ConsolePhaseFrame s t := by
  obtain ⟨t, hnext, hanswered, ⟨hseq, hreg, hlink, hcoord⟩, hframe⟩ := exec_start h hst hp
  obtain ⟨hstage, hkeptSame, -, hconf, hmeas, hphase, -⟩ := State.startsWaiting_blocks hst
  have hanew := State.startsWaiting_keptAnew hst hp
  have hany : ((s.startsWaiting st).foundIn .waiting).keptAnew.any = true := by
    rw [hanew]
    simp only [Conditions.any, Bool.or_eq_true]
    tauto
  obtain ⟨⟨n, hstays⟩, hremembered, hstroke, hvalve, hbaseline, hmark⟩ :=
    State.enterWaiting_stays ((State.working_congr (by rw [hconf])).trans h.2) hstage (by simp [hphase, hp])
      (hkeptSame ▸ hkept) hany
  rw [State.deliveredNat_congr hmeas] at hbaseline
  rw [hanew] at hstays hremembered
  rw [State.startStage_waits (.inr hkept)] at hseq hreg hlink hcoord
  refine ⟨t, _, hnext, hanswered, hseq ▸ hstays, rfl, rfl, hseq ▸ hremembered, fun hwanted => ?_, fun hwanted => ?_,
    hreg ▸ hstroke, hreg ▸ hvalve, hcoord ▸ hbaseline, hlink ▸ hmark, hframe⟩
  · simp [hwanted]
  · simp [hwanted]

/-! ## INJECTING through WAITING (R21, R25, R85) -/

/-- An unhindered station finds nothing that arrives in INJECTING. -/
theorem State.unhindered.foundInjecting (h : s.unhindered) : (s.foundIn .injecting).arrivingAnew.isEmpty = true := by
  obtain ⟨-, -, -, hreport, -⟩ := id h
  exact (h.carries (s.foundIn_alike .injecting) hreport).arrivingAnew

/-- The clause of O39 on a START that passes on into INJECTING. -/
theorem exec_start_injects (h : s.takesOperator) (hst : s.seq.stage = some st) (hp : s.phase = .packed)
    (hwanted : st.testWanted = false) (hkept : s.seq.kept.any = false) (hfree : s.unhindered) :
    ∃ t st' m, exec .start s = .next t ∧ Answered s t .start .ok t.phaseData ∧ t.seq.stage = some st'
      ∧ m = startMixOf s.conf.tag st.results ∧ st'.phase = .injecting ∧ st'.restraints = .none
      ∧ st'.results = st.results ∧ st'.startMix = some m ∧ st'.currentMix = some m
      ∧ st'.pendingMix = some ⟨m, s.stageSecond, 0⟩ ∧ st'.history = st.history ++ [⟨m, 0, s.stageSecond, false⟩]
      ∧ st'.injectionAt = some s.time.clock ∧ t.seq.basePressure = none ∧ t.seq.confirmRun = 0
      ∧ t.reg.stroke = 0 ∧ t.reg.valveOpen = true ∧ t.reg.suctionWater = false ∧ t.mixRequest = some m
      ∧ t.link.urgent = true ∧ ConsolePhaseFrame s t := by
  obtain ⟨t, hnext, hanswered, ⟨hseq, hreg, hlink, -⟩, hframe⟩ := exec_start h hst hp
  have hself : s.startsWaiting st = s := by simp [State.startsWaiting, hwanted]
  obtain ⟨⟨n, hstage⟩, -, hbase, hconfirm, hstroke, hvalve, hsuction, hmark⟩ :=
    State.enterWaiting_passes h.2 hst (by simp [hp]) hkept hfree.foundInjecting
  rw [State.startStage_waits (.inl hwanted), hself] at hseq hreg hlink
  rw [← hseq] at hstage hbase hconfirm
  have hrequest : t.mixRequest = some (startMixOf s.conf.tag st.results) := by
    simp [State.mixRequest, hstage, StageRecord.injectingFirst]
  exact ⟨t, _, _, hnext, hanswered, hstage, rfl, rfl, rfl, rfl, rfl, rfl, rfl, rfl, rfl, hbase, hconfirm, hreg ▸ hstroke,
    hreg ▸ hvalve, hreg ▸ hsuction, hrequest, hlink ▸ hmark, hframe⟩

end

/-- Settles O39, by what is wanted and what is kept. -/
theorem startTakesItsTable : Obligations.StartTakesItsTable := by
  intro s h
  refine ⟨fun st hst hpacked => ?_, fun hp => ?_⟩
  · have hp : s.phase = .packed := (State.phase_of_stage hst).trans hpacked
    simp only
    rw [← StageRecord.testWanted_iff, Bool.not_eq_true]
    exact ⟨fun hwanted hkept hfree => exec_start_tests h hst hp hwanted hkept hfree,
      fun hkept hstands => exec_start_waits h hst hp hkept hstands,
      fun hwanted hkept hfree => exec_start_injects h hst hp hwanted hkept hfree⟩
  · refine refusedWith_of_refuse rfl h (PanelCmd.taken_of_operator h rfl rfl) ?_
    simp only [State.perform, State.doStart]
    split
    · next hpacked _ => exact absurd hpacked hp
    · rfl

end Sys2Proof.Machine
end

section
/-! SUPPORT. TEST_STEP_END: the step record, and the next step or the end of the test (R25, R81 to R83, R85, R149). -/

namespace Sys2Proof.Machine

/-! ## A test that is over stays over through an evaluation -/

/-- The test state is absent, the results are `rs`, and the stage is WAITING, INJECTING or HOLDING. -/
def TestOver (rs : TestResults) (s : State) : Prop :=
  s.seq.test = none ∧ s.seq.stage.map (·.results) = some rs
    ∧ (s.phase = .waiting ∨ s.phase = .injecting ∨ s.phase = .holding)

section
variable {rs : TestResults} {s : State}

theorem TestOver.open (h : TestOver rs s) : s.phase ≠ .vacant := by
  obtain ⟨-, -, hp⟩ := h
  rcases hp with hp | hp | hp <;> simp [hp]

theorem TestOver.congr {t : State} (h : TestOver rs s) (hseq : t.seq = s.seq) : TestOver rs t := by
  obtain ⟨htest, hresults, hphase⟩ := h
  refine ⟨by rw [hseq, htest], by rw [hseq, hresults], ?_⟩
  rwa [State.phase_congr (congrArg Sequencer.stage hseq)]

theorem TestOver.setRestraints (h : TestOver rs s) (r : Restraints) : TestOver rs (s.setRestraints r) := by
  obtain ⟨htest, hresults, hphase⟩ := h
  refine ⟨htest, ?_, by rwa [State.setRestraints_phase]⟩
  rw [State.setRestraints, State.modStage_stage, Option.map_map]
  exact hresults

theorem TestOver.enterPhase (h : TestOver rs s) {p : Phase} (hp : p = .waiting ∨ p = .injecting ∨ p = .holding) :
    TestOver rs (s.enterPhase p) := by
  have hopen := h.open
  obtain ⟨htest, hresults, -⟩ := h
  refine ⟨?_, ?_, by rwa [State.enterPhase_phase hopen]⟩
  · rw [State.enterPhase_seq, htest]
    simp
  · rw [State.enterPhase_stage, Option.map_map]
    exact hresults

theorem TestOver.enterInjectingFirst (h : TestOver rs s) : TestOver rs s.enterInjectingFirst := by
  have hopen := h.open
  obtain ⟨-, hresults, -⟩ := h
  refine ⟨by rw [State.enterInjectingFirst_seq], ?_, .inr (.inl (State.enterInjectingFirst_phase hopen))⟩
  rw [State.enterInjectingFirst_stage, Option.map_map]
  exact hresults

theorem TestOver.enterHolding (h : TestOver rs s) (b : Restraints) : TestOver rs (s.enterHolding b) := by
  obtain ⟨htest, -, -⟩ := h.enterPhase (p := .holding) (by simp)
  refine ⟨htest, ?_, .inr (.inr (State.enterHolding_phase h.open _))⟩
  obtain ⟨-, hresults, -⟩ := h
  rw [State.enterHolding_stage, Option.map_map]
  exact hresults

theorem TestOver.changeSet (h : TestOver rs s) (r : Restraints) : TestOver rs (s.changeSet r) := by
  cases hr : r.isEmpty with
  | false =>
    obtain ⟨hseq, -⟩ := State.changeSet_of_some (s := s) hr
    exact (h.setRestraints r).congr hseq
  | true =>
    by_cases hsame : r = s.restraints
    · rwa [State.changeSet_same hsame]
    · rw [State.changeSet_of_none hr hsame]
      split
      · exact (h.setRestraints r).enterInjectingFirst
      · exact (h.setRestraints r).enterPhase (by simp)

theorem TestOver.present (h : TestOver rs s) (kept : Conditions) (r : Restraints) : TestOver rs (s.present kept r) := by
  have hkeep : TestOver rs (s.keep kept) := h
  obtain ⟨-, -, hp⟩ := id h
  rcases hp with hp | hp | hp
  · rw [State.present_restrained (by simp [hp, Phase.restrained])]
    exact hkeep.changeSet _
  · cases hr : r.isEmpty with
    | true => rwa [State.present_of_none (by simp [hp, Phase.pumping]) hr]
    | false =>
      rw [State.present_injecting hp hr]
      exact hkeep.enterHolding _
  · rw [State.present_restrained (by simp [hp, Phase.restrained])]
    exact hkeep.changeSet _

theorem TestOver.recomputed {t : State} (h : TestOver rs s) (hstep : StepRecomputed s t) : TestOver rs t := by
  obtain ⟨htest, hresults, hphase⟩ := h
  obtain ⟨hsame, -⟩ := hstep.standing
  refine ⟨?_, ?_, by rwa [hsame]⟩
  · obtain ⟨hseq | hseq, -⟩ := hstep <;> rw [hseq] <;> exact htest
  · rcases hstep.stage with hst | hst
    · rwa [hst]
    · rw [hst, Option.map_map, ← hresults]
      congr 1
      funext st
      rw [Function.comp, StageRecord.timerZeroed_eq]

theorem TestOver.evaluateOnce (h : TestOver rs s) : TestOver rs s.evaluateOnce := by
  cases hw : s.working with
  | false => rwa [State.evaluateOnce_of_idle hw]
  | true =>
    rw [State.evaluateOnce_eq hw]
    exact (h.recomputed s.formLimits_handed.1).present _ _

theorem TestOver.evaluate (h : TestOver rs s) : TestOver rs s.evaluate := by
  unfold State.evaluate
  simp only
  split
  · exact h.evaluateOnce
  · exact h.evaluateOnce.evaluateOnce

/-- What the pump shows once the test is over: a state that a change of phase handed over, and its evaluation. -/
theorem TestOver.pump (h : TestOver rs s.evaluate) (hpump : PumpHanded s) :
    s.evaluate.phase ≠ .testing ∧ s.evaluate.reg.suctionWater = false ∧ s.evaluate.reg.stroke = 0 := by
  have hphase : s.evaluate.phase ≠ .testing := by
    obtain ⟨-, -, hp⟩ := h
    rcases hp with hp | hp | hp <;> simp [hp]
  obtain ⟨hstroke, -, hsuction⟩ := hpump
  obtain ⟨hstill, kstroke, -, ksuction⟩ | ⟨kstroke, -, ksuction⟩ := s.evaluate_pump
  · refine ⟨hphase, ?_, kstroke.trans hstroke⟩
    rw [ksuction, hsuction, ← hstill]
    simpa using hphase
  · refine ⟨hphase, ?_, kstroke⟩
    rw [ksuction]
    simpa using hphase

end

/-! ## The step record (R81, R82) -/

/-- The record of the step that this completion ends. -/
def TestState.doneWith (q : Nat) (pEff : Int) (length : Nat) (x : TestState) : StepRecord :=
  let meanQ := (x.flowSum + q) / (x.half + 1)
  let meanP := (x.pressSum + pEff) / ((x.half : Int) + 1)
  ⟨meanQ, meanP, if 0 < meanP then some (min 9999 (meanQ * 100000 / (length * meanP.toNat))) else none⟩

/-- R81: the last completion of a step lies in its second half. -/
theorem TestState.counted_last {x : TestState} {tTest : Nat} (h : x.count + 1 = 10 * tTest) (q : Nat) (pEff : Int) :
    x.counted tTest q pEff
      = { x with
          count := x.count + 1, flowSum := x.flowSum + q, pressSum := x.pressSum + pEff, half := x.half + 1 } := by
  have hsecond : 5 * tTest < x.count + 1 := by omega
  simp [TestState.counted, hsecond]

theorem TestState.counted_stepRecord {x : TestState} {tTest : Nat} (h : x.count + 1 = 10 * tTest) (q : Nat) (pEff : Int)
    (length : Nat) : (x.counted tTest q pEff).stepRecord length = x.doneWith q pEff length := by
  rw [TestState.counted_last h]
  simp only [TestState.stepRecord, TestState.doneWith, lugeonOf, Nat.cast_add, Nat.cast_one]

section
variable {s : State} {l : Latched} {r : ReckRecord} {st : StageRecord} {x : TestState}

/-- TEST_STEP_END with the completion that ends the step. -/
theorem exec_testStepEnd (hcompleting : s.completing = some (l, r)) (hst : s.seq.stage = some st)
    (hp : st.phase = .testing) (htest : s.seq.test = some x) (hlast : x.count + 1 = 10 * s.conf.tag.tTest) :
    exec .testStepEnd s = .next (s.settled (State.endTestStep (x.counted s.conf.tag.tTest l.flow r.pEff) st)) := by
  have hphase : s.phase = .testing := (State.phase_of_stage hst).trans hp
  have hends : x.ends s.conf.tag.tTest = true := by simp [TestState.ends, hlast]
  have hending : s.endingStep l r = some (st, x.counted s.conf.tag.tTest l.flow r.pEff) := by
    simp only [State.endingStep, hphase, hst, htest, hends, if_true]
  simp only [exec, execTestStepEnd, hcompleting, hending]

/-- The state with the test results complete, which enters WAITING at the end of the test (R83). -/
def State.testCompleted (records : List StepRecord) (s : State) : State :=
  s.modStage fun u => { u with results := .complete records }

theorem State.testCompleted_stage (hst : s.seq.stage = some st) (records : List StepRecord) :
    (s.testCompleted records).seq.stage = some { st with results := .complete records } := by
  simp [State.testCompleted, State.modStage_stage, hst]

theorem State.testCompleted_phaseFrame (records : List StepRecord) (s : State) :
    PhaseFrame s (s.testCompleted records) := State.modStage_phaseFrame (by intro u; rfl) s

theorem State.endTestStep_next (h : x.step < 5) :
    s.settled (State.endTestStep x st) = { s with seq := { s.seq with
      test := some (TestState.begin (s.profileAt st.profile) (x.step + 1) (x.records ++ [x.stepRecord st.length])) } } := by
  have hend : s.endTestStep x st = { s with seq := { s.seq with
      test := some (TestState.begin (s.profileAt st.profile) (x.step + 1) (x.records ++ [x.stepRecord st.length])) } } := by
    simp [State.endTestStep, h]
  rw [State.settled_of_still, hend]
  rw [hend]
  rfl

theorem State.endTestStep_last (h : 5 ≤ x.step) (hst : s.seq.stage = some st) (hp : st.phase = .testing) :
    s.settled (State.endTestStep x st)
      = ((s.testCompleted (x.records ++ [x.stepRecord st.length])).enterWaiting .none).evaluate := by
  have hno : ¬ x.step < 5 := by omega
  have hend : s.endTestStep x st = (s.testCompleted (x.records ++ [x.stepRecord st.length])).enterWaiting .none := by
    simp [State.endTestStep, hno, State.testCompleted]
  have hstage := State.testCompleted_stage hst (x.records ++ [x.stepRecord st.length])
  rw [State.settled_of_moved, hend]
  rw [hend, State.phase_of_stage hst, hp]
  rcases State.enterWaiting_moves (s := s.testCompleted (x.records ++ [x.stepRecord st.length]))
    (by simp [State.phase_of_stage hstage, hp]) .none with hw | hw <;> simp [hw]

/-! ## The end of the test -/

/-- R83: what a completed test leaves, on any station. -/
theorem State.testCompleted_over (hst : s.seq.stage = some st) (hp : st.phase = .testing) (records : List StepRecord) :
    let t := ((s.testCompleted records).enterWaiting .none).evaluate
    t.seq.test = none ∧ t.seq.stage.map (·.results) = some (.complete records)
      ∧ t.phase ≠ .testing ∧ t.reg.suctionWater = false ∧ t.reg.stroke = 0
      ∧ FieldAndSupplyKept s t ∧ PhaseFrame s t := by
  have hstage := State.testCompleted_stage hst records
  have hframe := s.testCompleted_phaseFrame records
  have hkept : (s.testCompleted records).seq.kept = s.seq.kept := rfl
  generalize s.testCompleted records = u at *
  have hopen : u.phase ≠ .vacant := by simp [State.phase_of_stage hstage, hp]
  have hentered : TestOver (.complete records) (u.enterPhase .waiting) := by
    refine ⟨?_, ?_, .inl (State.enterPhase_phase hopen _)⟩
    · rw [State.enterPhase_seq]
      rfl
    · simp [State.enterPhase_stage, hstage]
  have hover : TestOver (.complete records) (u.enterWaiting .none) := by
    unfold State.enterWaiting
    simp only
    split
    · exact (hentered.setRestraints _).enterInjectingFirst
    · exact hentered.setRestraints _
  have hevaluated := hover.evaluate
  obtain ⟨hphase, hsuction, hstroke⟩ := hevaluated.pump (State.enterWaiting_handed hopen _)
  obtain ⟨htest, hresults, -⟩ := hevaluated
  have hfield : FieldAndSupplyKept s (u.enterWaiting .none) := by simp [FieldAndSupplyKept, hkept]
  exact ⟨htest, hresults, hphase, hsuction, hstroke, hfield.trans (State.evaluate_fieldAndSupplyKept _),
    (hframe.trans (u.enterWaiting_phaseFrame _)).trans (State.evaluate_phaseFrame _)⟩

/-- The conditions read in WAITING and INJECTING are those of the state before the results were completed. -/
theorem State.testCompleted_found (hst : s.seq.stage = some st) (records : List StepRecord) :
    ((s.testCompleted records).foundIn .waiting).keptAnew = (s.foundIn .waiting).keptAnew
      ∧ ((s.foundIn .injecting).arrivingAnew.isEmpty = true →
        ((s.testCompleted records).foundIn .injecting).arrivingAnew.isEmpty = true) := by
  have halike (p : Phase) : ConditionsAlike (s.foundIn p) ((s.testCompleted records).foundIn p) :=
    ((s.foundIn_alike p).symm.trans (.of_phaseFrame (s.testCompleted_phaseFrame records))).trans
      ((s.testCompleted records).foundIn_alike p)
  have hphase (p : Phase) : (s.foundIn p).phase = p ∧ ((s.testCompleted records).foundIn p).phase = p := by
    simp [State.phase, State.foundIn, State.testCompleted, State.modStage_stage, hst]
  refine ⟨(halike .waiting).keptAnew ?_ rfl rfl, fun hfree => ?_⟩
  · rw [(hphase .waiting).1, (hphase .waiting).2]
  · exact (halike .injecting).symm.arrivals_carry (by rw [(hphase .injecting).2]; rfl)
      (.inr (by rw [(hphase .injecting).1]; rfl)) hfree

end

/-- A condition that stands, in words of the six. -/
theorem State.keptAnew_any_iff (s : State) :
    s.keptAnew.any = true ↔ s.seq.kept.sensor = true ∨ s.seq.kept.packer = true ∨ s.seq.kept.supply = true
      ∨ s.standoffCauses.any = true ∨ s.connectionCondition = true ∨ s.upliftCondition = true := by
  simp only [State.keptAnew, Conditions.any, Bool.or_eq_true]
  tauto

/-- Settles O18: the record by `counted_stepRecord`, the end of the test by the entry into WAITING. -/
theorem testStepEndFormsRecord : Obligations.TestStepEndFormsRecord := by
  intro s l r st x hcompleting hst hp htest hlast meanQ meanP done
  have hdone : (x.counted s.conf.tag.tTest l.flow r.pEff).stepRecord st.length = done :=
    TestState.counted_stepRecord hlast _ _ _
  have hcounted := TestState.counted_last hlast l.flow r.pEff
  have hstep : (x.counted s.conf.tag.tTest l.flow r.pEff).step = x.step := by rw [hcounted]
  have hrecords : (x.counted s.conf.tag.tTest l.flow r.pEff).records = x.records := by rw [hcounted]
  refine ⟨_, exec_testStepEnd hcompleting hst hp htest hlast, fun hmore => ?_, fun hend => ?_, fun hend hw => ?_⟩
  · rw [State.endTestStep_next (by rwa [hstep]), hdone, hstep, hrecords]
    refine ⟨rfl, ?_, rfl⟩
    intro b hb
    cases b <;> simp [sameBlock] at hb ⊢
  · rw [State.endTestStep_last (by rwa [hstep]) hst hp, hdone, hrecords]
    exact State.testCompleted_over hst hp _
  · rw [State.endTestStep_last (by rwa [hstep]) hst hp, hdone, hrecords]
    have hstage := State.testCompleted_stage hst (x.records ++ [done])
    have hopen : (s.testCompleted (x.records ++ [done])).phase ≠ .vacant := by
      simp [State.phase_of_stage hstage, hp]
    have hsecond : (s.testCompleted (x.records ++ [done])).stageSecond = s.stageSecond :=
      State.stageSecond_congr rfl (s.testCompleted_phaseFrame _).opened
    have hworking : (s.testCompleted (x.records ++ [done])).working = true := hw
    obtain ⟨hfound, hfree⟩ := State.testCompleted_found hst (x.records ++ [done])
    have hany := (s.foundIn .waiting).keptAnew_any_iff
    refine ⟨fun hkept hstands => ?_, fun hcase hstandoff hconnection huplift => ?_⟩
    · obtain ⟨⟨n, hst'⟩, hremembered, -, hvalve, hbaseline, hmark⟩ :=
        State.enterWaiting_stays hworking hstage hopen hkept (hfound ▸ hany.mpr hstands)
      rw [hfound] at hst' hremembered
      exact ⟨_, hst', rfl, rfl, hremembered, hvalve, hbaseline, hmark⟩
    · have hnone := hfree ((s.foundIn .injecting).arrivingAnew_isEmpty_iff.mpr ⟨hstandoff, hconnection, huplift⟩)
      have hgone : s.seq.kept.any = false ∨ (s.foundIn .waiting).keptAnew.any = false :=
        hcase.imp_right fun hno => by rwa [← Bool.not_eq_true, hany]
      rw [← hfound] at hgone
      have hinjects := State.enterWaiting_injects hworking hstage hopen hgone hnone
      obtain ⟨⟨n, hst'⟩, -, hbase, hconfirm, -, hvalve, -, hmark⟩ := hinjects
      rw [hsecond] at hst'
      refine ⟨_, _, hst', rfl, rfl, rfl, rfl, rfl, rfl, rfl, rfl, hbase, hconfirm, hvalve, ?_, hmark⟩
      simp only [State.mixRequest, hst', StageRecord.injectingFirst]
      rfl

end Sys2Proof.Machine
end

section
/-! SUPPORT. RESTART: the pump stops, the stage is kept, and LISTEN begins again (R40, R131, R147, R154, R184). -/

namespace Sys2Proof.Machine

/-! ## The slot of the link while the phase moves (R118) -/

/-- From `s` to `t` what the slot holds stays; into an empty slot at most one comes that does not send. -/
def SlotStays (s t : State) : Prop :=
  t.link.slot = s.link.slot ∨ (s.link.slot = none ∧ ∃ o, t.link.slot = some o ∧ o.sending = false)

section
variable {s t u : State}

theorem SlotStays.of_link (h : t.link = s.link) : SlotStays s t := .inl (by rw [h])

theorem SlotStays.trans (h : SlotStays s t) (k : SlotStays t u) : SlotStays s u := by
  rcases k with k | ⟨knone, o, ko, kwait⟩
  · rcases h with h | ⟨hnone, o, ho, hwait⟩
    · exact .inl (k.trans h)
    · exact .inr ⟨hnone, o, k.trans ho, hwait⟩
  · rcases h with h | ⟨hnone, o', ho', -⟩
    · exact .inr ⟨h.symm.trans knone, o, ko, kwait⟩
    · simp [ho'] at knone

/-- What is sending stays sending. -/
theorem SlotStays.sending (h : SlotStays s t) : t.link.sending = s.link.sending := by
  rcases h with h | ⟨hnone, o, ho, hwait⟩
  · simp only [Link.sending, h]
  · simp [Link.sending, hnone, ho, hwait]

theorem SlotStays.slot (h : SlotStays s t) {o : Outgoing} (ho : s.link.slot = some o) : t.link.slot = some o := by
  rcases h with h | ⟨hnone, -⟩
  · exact h.trans ho
  · simp [ho] at hnone

theorem State.urgent_slotStays (s : State) : SlotStays s s.urgent := by
  unfold State.urgent Link.serveUrgent
  split
  · simp only
    split
    · next hserve =>
      refine .inr ⟨?_, _, rfl, rfl⟩
      simp only [Bool.true_and, Bool.and_eq_true, Option.isNone_iff_eq_none] at hserve
      exact hserve.1
    · exact .inl rfl
  · exact .inl rfl

theorem State.enterPhase_slotStays (p : Phase) (s : State) : SlotStays s (s.enterPhase p) := by
  unfold State.enterPhase State.handover
  refine SlotStays.trans (t := { (s.modStage fun st => _) with
    reg := _, coord := _, seq := _, env := _ }) ?_ (State.urgent_slotStays _)
  exact .of_link rfl

theorem State.enterInjectingFirst_slotStays (s : State) : SlotStays s s.enterInjectingFirst :=
  (s.enterPhase_slotStays .injecting).trans (.of_link (by simp [State.enterInjectingFirst]))

theorem State.enterWaiting_slotStays (b : Restraints) (s : State) : SlotStays s (s.enterWaiting b) := by
  have hentered : SlotStays s ((s.enterPhase .waiting).setRestraints (b.union s.seq.kept.toRestraints)) :=
    (s.enterPhase_slotStays .waiting).trans (.of_link rfl)
  unfold State.enterWaiting
  simp only
  split
  · exact hentered.trans (State.enterInjectingFirst_slotStays _)
  · exact hentered

theorem State.enterHolding_slotStays (b : Restraints) (s : State) : SlotStays s (s.enterHolding b) :=
  (s.enterPhase_slotStays .holding).trans (.of_link rfl)

theorem State.changeSet_slotStays (r : Restraints) (s : State) : SlotStays s (s.changeSet r) := by
  have hset : SlotStays s (s.setRestraints r) := .of_link rfl
  unfold State.changeSet
  split
  · exact .of_link rfl
  · split
    · split
      · exact hset.trans (State.enterInjectingFirst_slotStays _)
      · exact hset.trans (State.enterPhase_slotStays _ _)
    · exact hset.trans (State.urgent_slotStays _)

theorem State.arrive_slotStays (r : Restraints) (s : State) : SlotStays s (s.arrive r) := by
  have habandon : SlotStays s s.abandonTest := .of_link rfl
  unfold State.arrive
  split
  · exact habandon.trans (State.enterWaiting_slotStays _ _)
  · exact s.enterHolding_slotStays _
  · exact s.changeSet_slotStays _
  · exact s.changeSet_slotStays _
  · exact .of_link rfl

theorem State.present_slotStays (kept : Conditions) (r : Restraints) (s : State) : SlotStays s (s.present kept r) := by
  have hkeep : SlotStays s (s.keep kept) := .of_link rfl
  unfold State.present
  simp only
  split
  · split
    · exact hkeep
    · exact hkeep.trans (State.arrive_slotStays _ _)
  · split
    · exact hkeep
    · exact hkeep.trans (State.arrive_slotStays _ _)
  · exact hkeep.trans (State.changeSet_slotStays _ _)
  · exact hkeep.trans (State.changeSet_slotStays _ _)
  · exact hkeep

theorem State.evaluateOnce_slotStays (s : State) : SlotStays s s.evaluateOnce := by
  cases hw : s.working with
  | false =>
    rw [State.evaluateOnce_of_idle hw]
    exact .of_link rfl
  | true =>
    rw [State.evaluateOnce_eq hw]
    have hlimits : SlotStays s s.formDemand.formLimits := .of_link (by simp)
    exact hlimits.trans (State.present_slotStays _ _ _)

theorem State.evaluate_slotStays (s : State) : SlotStays s s.evaluate := by
  unfold State.evaluate
  simp only
  split
  · exact s.evaluateOnce_slotStays
  · exact s.evaluateOnce_slotStays.trans (State.evaluateOnce_slotStays _)

theorem State.restartStage_slotStays (s : State) : SlotStays s s.restartStage := by
  have habandon : SlotStays s s.abandonTest := .of_link rfl
  unfold State.restartStage
  split
  · exact habandon.trans (State.enterPhase_slotStays _ _)
  · exact s.enterHolding_slotStays _
  · exact s.changeSet_slotStays _
  · exact s.changeSet_slotStays _
  · exact .of_link rfl

theorem State.settle_slotStays (p : Phase) (s : State) : SlotStays s (s.settle p) := by
  unfold State.settle
  split
  · exact .of_link rfl
  · exact s.evaluate_slotStays

end

/-! ## The stage at RESTART (R40) -/

/-- R40: the phase that RESTART leaves. -/
def Phase.restarted : Phase → Phase
  | .testing => .packed
  | .injecting => .holding
  | p => p

theorem Phase.restarted_pumping (p : Phase) : p.restarted.pumping = false := by cases p <;> rfl

/-- What RESTART keeps of a record (R40): `st` before it, `st'` after it. -/
def StageRecord.RestartedAs (st st' : StageRecord) : Prop :=
  st'.phase = st.phase.restarted
    ∧ (st.phase = .testing → st'.results = .abandoned)
    ∧ (st.phase = .injecting → st'.holdTimer = 0)
    ∧ (st.phase = .waiting ∨ st.phase = .injecting ∨ st.phase = .holding →
        st'.restraints.operator = true ∧ st'.pendingMix = st.pendingMix ∧ st'.history = st.history)

/-- A change of the set and the refusal timer that leaves OPERATOR in the set of a restrained stage. -/
theorem StageRecord.RestartedAs.change {st st' : StageRecord} (h : st.RestartedAs st') {r : Restraints} {n : Nat}
    (hr : st'.phase.restrained = true → r.operator = st'.restraints.operator) :
    st.RestartedAs { st' with restraints := r, refusalTimer := n } := by
  obtain ⟨hphase, hresults, htimer, hkept⟩ := h
  refine ⟨hphase, hresults, htimer, fun hp => ?_⟩
  obtain ⟨hoperator, hpending, hhistory⟩ := hkept hp
  refine ⟨?_, hpending, hhistory⟩
  rw [← hoperator]
  refine hr ?_
  rw [hphase]
  rcases hp with hp | hp | hp <;> rw [hp] <;> rfl

section
variable {s : State} {st : StageRecord}

/-- An evaluation of a stage that does not pump, and has OPERATOR in its set where it has one: the phase stands. -/
theorem State.evaluate_idle (hw : s.working = true) (hst : s.seq.stage = some st) (hp : st.phase.pumping = false)
    (hset : st.phase.restrained = true → st.restraints.operator = true) :
    ∃ r n, s.evaluate.seq.stage = some { st with restraints := r, refusalTimer := n }
      ∧ (st.phase.restrained = true → r = s.setAnew ∧ r.operator = true) ∧ s.evaluate.seq.kept = s.keptAnew
      ∧ s.evaluate.reg.stroke = s.reg.stroke ∧ s.evaluate.reg.valveOpen = s.reg.valveOpen := by
  have hphase := State.phase_of_stage hst
  cases hr : st.phase.restrained with
  | false =>
    have hev := State.Quiet.evaluatedTo (.of_idle (by rw [hphase, hp]) (by rw [hphase, hr])) hw
    obtain ⟨n, hstage⟩ := hev.record hst
    obtain ⟨-, -, -, -, -, hkept⟩ := hev.registers
    obtain ⟨hstroke, hvalve, -⟩ := hev.pump
    exact ⟨st.restraints, n, hstage, nofun, hkept, hstroke, hvalve⟩
  | true =>
    have hoperator : s.restraints.operator = true := (State.restraints_of_stage hst) ▸ hset hr
    obtain ⟨hmember, hlatched, -⟩ := State.setAnew_latched (.inl hoperator)
    have hev := State.evaluate_restrained hw (by rw [hphase, hr]) hmember
    obtain ⟨-, -, -, -, -, hkept⟩ := hev.registers
    obtain ⟨hstroke, hvalve, -⟩ := hev.pump
    have hstage : ∃ n, s.evaluate.seq.stage = some { st with restraints := s.setAnew, refusalTimer := n } := by
      rcases hev.stage hst with h | h
      · exact ⟨st.refusalTimer, h⟩
      · exact ⟨_, h.trans (by rw [StageRecord.timerZeroed_eq])⟩
    obtain ⟨n, hstage⟩ := hstage
    exact ⟨_, n, hstage, fun _ => ⟨rfl, hlatched.trans hoperator⟩, hkept, hstroke, hvalve⟩

/-- R40: the record as RESTART moves it, before any evaluation. -/
theorem State.restartStage_record (hst : s.seq.stage = some st) :
    ∃ st', s.restartStage.seq.stage = some st' ∧ st.RestartedAs st' := by
  have hphase := State.phase_of_stage hst
  have hchange (hr : s.phase.restrained = true) (hto : s.restartStage = s.changeSet (s.restraints.union .onlyOperator)) :
      s.restartStage.seq.stage = some { st with restraints := { st.restraints with operator := true } } := by
    obtain ⟨hseq, -⟩ := State.changeSet_of_some (s := s) (State.union_operator_some s.restraints)
    rw [hto, congrArg Sequencer.stage hseq, Restraints.union_onlyOperator, State.restraints_of_stage hst]
    simp [State.setRestraints, State.modStage_stage, hst]
  cases hp : st.phase with
  | testing =>
    have hstage : s.restartStage.seq.stage
        = some { st with results := .abandoned, phase := .packed, restraints := .none } := by
      simp [State.restartStage, hphase, hp, State.enterPhase_stage, State.abandonTest, State.modStage_stage, hst,
        Phase.restrained]
    exact ⟨_, hstage, by simp [StageRecord.RestartedAs, hp, Phase.restarted]⟩
  | injecting =>
    have hstage : s.restartStage.seq.stage = some { st with
        phase := .holding, restraints := Restraints.onlyOperator.union s.seq.kept.toRestraints, holdTimer := 0 } := by
      simp [State.restartStage, hphase, hp, State.enterHolding_stage, hst]
    exact ⟨_, hstage, by
      simp [StageRecord.RestartedAs, hp, Phase.restarted, Restraints.union, Restraints.onlyOperator]⟩
  | waiting | holding =>
    have hstage := hchange (by rw [hphase, hp]; rfl) (by simp [State.restartStage, hphase, hp])
    exact ⟨_, hstage, by simp [StageRecord.RestartedAs, hp, Phase.restarted]⟩
  | vacant | packed | closed =>
    have hsame : s.restartStage = s := by simp [State.restartStage, hphase, hp]
    exact ⟨st, by rw [hsame, hst], by simp [StageRecord.RestartedAs, hp, Phase.restarted]⟩

/-- Where the record that RESTART leaves is restrained, OPERATOR is in its set. -/
theorem StageRecord.RestartedAs.operator {st' : StageRecord} (h : st.RestartedAs st')
    (hr : st'.phase.restrained = true) : st'.restraints.operator = true := by
  obtain ⟨hphase, -, -, hkept⟩ := h
  rw [hphase] at hr
  refine (hkept ?_).1
  cases hp : st.phase <;> simp [hp, Phase.restarted, Phase.restrained] at hr ⊢

/-- R40: RESTART leaves the pump stopped, whatever the phase. -/
theorem State.restartStage_pump (h : s.reg.stroke = 0 ∧ s.reg.valveOpen = false) :
    s.restartStage.reg.stroke = 0 ∧ s.restartStage.reg.valveOpen = false
      ∧ s.restartStage.phase = s.phase.restarted := by
  cases hp : s.phase.pumping with
  | true =>
    obtain ⟨hphase, hstroke, hvalve, -⟩ := State.restartStage_pumping hp
    have hmoved : s.restartStage.phase = s.phase.restarted := by
      rw [hphase]
      rcases Phase.pumping_iff.mp hp with hp | hp <;> simp [hp, Phase.restarted]
    exact ⟨hstroke, by rw [hvalve, hmoved, Phase.restarted_pumping], hmoved⟩
  | false =>
    obtain ⟨hphase, hreg, -⟩ := State.restartStage_idle hp
    obtain ⟨hstroke, hvalve⟩ := h
    refine ⟨by rw [hreg, hstroke], by rw [hreg, hvalve], ?_⟩
    rw [hphase]
    cases hphase : s.phase <;> simp [hphase, Phase.pumping, Phase.restarted] at hp ⊢

/-- The state after the Regulator's and the Sequencer's part of RESTART. -/
def State.restartedStage (s : State) : State := s.stopPump.restartStage.settle s.phase

theorem PhaseFrame.link {s t : State} (h : PhaseFrame s t) :
    t.link = { s.link with slot := t.link.slot, generator := t.link.generator, urgent := t.link.urgent } := by
  obtain ⟨-, -, -, -, -, -, hlink, -⟩ := h
  exact hlink

theorem State.stopPump_phaseFrame (s : State) : PhaseFrame s s.stopPump := PhaseFrame.ofReg rfl rfl

theorem State.restartedStage_phaseFrame (s : State) : PhaseFrame s s.restartedStage :=
  (s.stopPump_phaseFrame.trans (State.restartStage_phaseFrame _)).trans (State.settle_phaseFrame _ _)

theorem State.restartStage_kept (s : State) : s.restartStage.seq.kept = s.seq.kept := by
  unfold State.restartStage
  split <;> simp

theorem State.restartedStage_kept (s : State) : FieldAndSupplyKept s s.restartedStage := by
  have hkept : FieldAndSupplyKept s s.stopPump.restartStage := by
    simp [FieldAndSupplyKept, State.restartStage_kept]
  exact hkept.trans (State.settle_fieldAndSupplyKept _ _)

theorem State.restartedStage_slotStays (s : State) : SlotStays s s.restartedStage := by
  have hstop : SlotStays s s.stopPump := .of_link rfl
  exact (hstop.trans (State.restartStage_slotStays _)).trans (State.settle_slotStays _ _)

/-- R40: the stage and the pump after the first two parts of RESTART and their evaluation. -/
theorem State.restartedStage_works (hw : s.working = true) :
    s.restartedStage.reg.stroke = 0 ∧ s.restartedStage.reg.valveOpen = false
      ∧ (s.seq.stage = none → s.restartedStage.seq.stage = none)
      ∧ (∀ st, s.seq.stage = some st → ∃ st', s.restartedStage.seq.stage = some st' ∧ st.RestartedAs st') := by
  obtain ⟨hstroke, hvalve, hmoved⟩ := State.restartStage_pump (s := s.stopPump) ⟨rfl, rfl⟩
  have hworking : s.stopPump.restartStage.working = true := (State.working_congr (by simp)).trans hw
  have hrecord (st : StageRecord) (hst : s.seq.stage = some st) :=
    State.restartStage_record (s := s.stopPump) (st := st) hst
  have hphase : s.stopPump.phase = s.phase := rfl
  unfold State.restartedStage State.settle
  split
  · refine ⟨hstroke, hvalve, fun hnone => ?_, hrecord⟩
    have hsame : s.stopPump.restartStage = s.stopPump := by
      simp [State.restartStage, State.phase, hnone]
    rw [hsame]
    exact hnone
  · next hne =>
    have hsome : s.seq.stage ≠ none := by
      rintro hnone
      have hvacant : s.phase = .vacant := by simp [State.phase, hnone]
      rw [hmoved, hphase, hvacant] at hne
      exact hne rfl
    obtain ⟨st, hst⟩ := Option.ne_none_iff_exists'.mp hsome
    obtain ⟨st', hst', hrestarted⟩ := hrecord st hst
    obtain ⟨r, n, hstage, hset, -, kstroke, kvalve⟩ := State.evaluate_idle hworking hst'
      (by rw [hrestarted.1, Phase.restarted_pumping]) hrestarted.operator
    refine ⟨kstroke.trans hstroke, kvalve.trans hvalve, fun hnone => absurd hnone hsome, fun st₁ hst₁ => ?_⟩
    obtain rfl : st = st₁ := Option.some.inj (hst.symm.trans hst₁)
    exact ⟨_, hstage, hrestarted.change fun hr => by rw [(hset hr).2, hrestarted.operator hr]⟩

/-! ## The whole of RESTART -/

/-- The state that the last evaluation of RESTART finds. -/
def State.restarting (s : State) : State :=
  { s.restartedStage with link := s.restartedStage.link.restart }.clearTable.listenAgain

theorem State.restart_eq (s : State) : s.restart = s.restarting.evaluate := rfl

/-- R131: the link as RESTART leaves it, but for the mark and the generator. -/
theorem Link.restart_fields (l : Link) :
    l.restart.seqCounter = 0 ∧ l.restart.firstCount = 3 ∧ l.restart.sinceStart = l.sinceStart ∧ l.restart.drops = l.drops
      ∧ l.restart.counters = l.counters ∧ l.restart.silence = l.silence ∧ l.restart.receiver = l.receiver
      ∧ l.restart.charOn = l.charOn ∧ l.restart.sentTime = l.sentTime ∧ l.restart.cut = (l.cut || l.sending.isSome)
      ∧ ∃ k, l.restart.slot = some ⟨false, 1, k, none, 0, [], 0⟩ := by
  simp [Link.restart, Link.requestPeriodic, Link.create]

/-- R147, R154, R184: the blocks of that state. -/
theorem State.restarting_blocks (s : State) :
    s.restarting.seq = s.restartedStage.seq ∧ s.restarting.reg = s.restartedStage.reg
      ∧ s.restarting.link = s.restartedStage.link.restart
      ∧ s.restarting.table = { s.table with entries := [] }
      ∧ s.restarting.conf = { s.conf with station := .listen }
      ∧ s.restarting.coord.listenStart = some (s.time.clock, s.time.tenths) := by
  obtain ⟨htime, -, -, -, htable, -, hconf, -⟩ := s.restartedStage_phaseFrame.blocks
  simp [State.restarting, State.listenAgain, State.clearTable, State.setEntries, htime, htable, hconf]

theorem State.restarting_working (s : State) : s.restarting.working = true := by
  obtain ⟨-, -, -, -, hconf, -⟩ := s.restarting_blocks
  simp [State.working, hconf]

/-- R154: in LISTEN STANDOFF stands. -/
theorem State.restarting_standoff (s : State) : s.restarting.keptAnew.standoff = true := by
  obtain ⟨-, -, -, -, hconf, -⟩ := s.restarting_blocks
  exact s.restarting.standoffCauses_any_iff.mpr (.inr (.inr (.inl (by rw [hconf]))))

/-- R40, R184: the stage and the pump after RESTART. -/
theorem State.restart_works (hw : s.working = true) :
    s.restart.reg.stroke = 0 ∧ s.restart.reg.valveOpen = false ∧ s.restart.seq.kept.standoff = true
      ∧ (s.seq.stage = none → s.restart.seq.stage = none)
      ∧ (∀ st, s.seq.stage = some st → ∃ st', s.restart.seq.stage = some st' ∧ st.RestartedAs st'
          ∧ (st'.phase.restrained = true → st'.restraints.standoff = true)) := by
  obtain ⟨hstroke, hvalve, hnone, hsome⟩ := State.restartedStage_works hw
  have hworking := s.restarting_working
  have hstandoff := s.restarting_standoff
  obtain ⟨hseq, hreg, -⟩ := s.restarting_blocks
  rw [← hseq] at hnone hsome
  rw [← hreg] at hstroke hvalve
  rw [State.restart_eq]
  generalize s.restarting = w at *
  cases hst : s.seq.stage with
  | none =>
    have hvacant : w.phase = .vacant := by simp [State.phase, hnone hst]
    have hev := State.Quiet.evaluatedTo (s := w) (.of_idle (by rw [hvacant]; rfl) (by rw [hvacant]; rfl)) hworking
    obtain ⟨-, -, -, -, -, hkept⟩ := hev.registers
    obtain ⟨kstroke, kvalve, -⟩ := hev.pump
    exact ⟨kstroke.trans hstroke, kvalve.trans hvalve, by rw [hkept, hstandoff],
      fun _ => hev.stage_of_none (hnone hst), fun _ hsome => absurd hsome (by simp)⟩
  | some st =>
    obtain ⟨st', hst', hrestarted⟩ := hsome st hst
    obtain ⟨r, n, hstage, hset, hkept, kstroke, kvalve⟩ := State.evaluate_idle hworking hst'
      (by rw [hrestarted.1, Phase.restarted_pumping]) hrestarted.operator
    refine ⟨kstroke.trans hstroke, kvalve.trans hvalve, by rw [hkept, hstandoff], fun hnone => absurd hnone (by simp),
      fun st₁ hst₁ => ?_⟩
    obtain rfl := Option.some.inj hst₁
    refine ⟨_, hstage, hrestarted.change fun hr => by rw [(hset hr).2, hrestarted.operator hr], fun hr => ?_⟩
    have hanew := (hset hr).1
    simp only [hanew]
    simp [State.setAnew, Restraints.union, Conditions.toRestraints, hstandoff]

/-- R131: the link after RESTART, whose evaluation touches no more than the slot, the generator and the mark. -/
theorem State.restart_link (s : State) :
    s.restart.link.seqCounter = 0 ∧ s.restart.link.firstCount = 3
      ∧ (∃ k, s.restart.link.slot = some ⟨false, 1, k, none, 0, [], 0⟩)
      ∧ s.restart.link.sinceStart = s.link.sinceStart ∧ s.restart.link.drops = s.link.drops
      ∧ s.restart.link.counters = s.link.counters ∧ s.restart.link.silence = s.link.silence
      ∧ s.restart.link.receiver = s.link.receiver ∧ s.restart.link.charOn = s.link.charOn
      ∧ s.restart.link.sentTime = s.link.sentTime
      ∧ s.restart.link.cut = (s.link.cut || s.link.sending.isSome) := by
  have hfirst := s.restartedStage_phaseFrame.link
  have hlast := s.restarting.evaluate_phaseFrame.link
  obtain ⟨-, -, hlink, -⟩ := s.restarting_blocks
  have hslot := s.restarting.evaluate_slotStays
  have hsending := s.restartedStage_slotStays.sending
  obtain ⟨hseq, hcount, hsince, hdrops, hcounters, hsilence, hreceiver, hchar, hsent, hcut, k, hinstance⟩ :=
    s.restartedStage.link.restart_fields
  rw [State.restart_eq]
  refine ⟨?_, ?_, ⟨k, hslot.slot (hlink ▸ hinstance)⟩, ?_, ?_, ?_, ?_, ?_, ?_, ?_, ?_⟩
  all_goals rw [hlast, hlink]
  · exact hseq
  · exact hcount
  · exact hsince.trans (by rw [hfirst])
  · exact hdrops.trans (by rw [hfirst])
  · exact hcounters.trans (by rw [hfirst])
  · exact hsilence.trans (by rw [hfirst])
  · exact hreceiver.trans (by rw [hfirst])
  · exact hchar.trans (by rw [hfirst])
  · exact hsent.trans (by rw [hfirst])
  · refine hcut.trans ?_
    rw [hsending, hfirst]

/-- R184: the blocks after RESTART. -/
theorem State.restart_blocks (s : State) :
    s.restart.conf = { s.conf with station := .listen } ∧ s.restart.table = { s.table with entries := [] }
      ∧ s.restart.coord.listenStart = some (s.time.clock, s.time.tenths)
      ∧ s.restart.reg.commanded = s.reg.commanded ∧ s.restart.reg.reached = s.reg.reached
      ∧ s.restart.seq.stage.map (·.asOpened) = s.seq.stage.map (·.asOpened)
      ∧ s.restart.seq.counter = s.seq.counter ∧ FieldAndSupplyKept s s.restart
      ∧ OnlyChanges [.conf, .coord, .reg, .table, .seq, .link, .panel] s s.restart := by
  obtain ⟨hseq, hreg, -, htable, hconf, hlisten⟩ := s.restarting_blocks
  obtain ⟨-, hcommanded, hreached, hcounter, -, hopened, -⟩ := s.restartedStage_phaseFrame
  obtain ⟨-, kcommanded, kreached, kcounter, -, kopened, -, -, -, -, -, -, -, -, klisten⟩ :=
    s.restarting.evaluate_phaseFrame
  rw [hreg] at kcommanded kreached
  rw [hseq] at kcounter kopened
  have hkept : FieldAndSupplyKept s s.restarting := by
    have h := s.restartedStage_kept
    rwa [FieldAndSupplyKept, ← hseq] at h
  refine ⟨by rw [State.restart_eq]; simpa using hconf, by rw [State.restart_eq]; simpa using htable,
    klisten.trans hlisten, kcommanded.trans hcommanded, kreached.trans hreached, kopened.trans hopened,
    kcounter.trans hcounter, hkept.trans (State.evaluate_fieldAndSupplyKept _), ?_⟩
  intro b hb
  cases b <;> simp [sameBlock] at hb ⊢

end

/-- R172: RESTART at engineer level passes the general checks of a configured station. -/
theorem PanelCmd.restart_taken {s : State} (h : s.takesEngineer) : PanelCmd.restart.Taken s := by
  obtain ⟨⟨-, hw⟩, hlevel⟩ := h
  simp [PanelCmd.Taken, State.generalCheck, State.holdsRead, hw, hlevel]

/-- Settles O47: the stage by `restart_works`, the link by `restart_link`, the rest by the frames. -/
theorem restartKeepsTheStage : Obligations.RestartKeepsTheStage := by
  intro s h
  have hnext := exec_answered (i := .restart) (c := .restart) (a := s.restart.answerOk) rfl h.1 (PanelCmd.restart_taken h) rfl
  obtain ⟨hconf, htable, hlisten, hcommanded, hreached, hopened, hcounter, hkept, honly⟩ := s.restart_blocks
  obtain ⟨hseqCounter, hfirst, hslot, hlink⟩ := s.restart_link
  obtain ⟨hstroke, hvalve, hstandoff, hnone, hsome⟩ := State.restart_works h.1.2
  have hphase : s.restart.phase = s.phase.restarted := by
    cases hst : s.seq.stage with
    | none => simp [State.phase, hst, hnone hst, Phase.restarted]
    | some st =>
      obtain ⟨st', hst', hrestarted, -⟩ := hsome st hst
      rw [State.phase_of_stage hst', State.phase_of_stage hst, hrestarted.1]
  have hrecord {p : Phase} (hp : s.phase = p) (hne : p ≠ .vacant) :
      ∃ st st', s.seq.stage = some st ∧ st.phase = p ∧ s.restart.seq.stage = some st' ∧ st.RestartedAs st'
        ∧ (st'.phase.restrained = true → st'.restraints.standoff = true) := by
    obtain ⟨st, hst, hstp⟩ := State.exists_stage_of_phase (hp ▸ hne)
    obtain ⟨st', hst', hrestarted⟩ := hsome st hst
    exact ⟨st, st', hst, hstp.trans hp, hst', hrestarted⟩
  refine ⟨_, hnext, ?_, hconf, hlisten, hstroke, hvalve, hcommanded, hreached, htable, hphase, hopened, hcounter,
    fun hp => ?_, fun hp => ?_, fun hp => ?_, hstandoff, hkept, hseqCounter, hfirst, hslot, ?_⟩
  · simp only [Answered, State.setProcess, State.answerOk, State.restart_frame]
  · obtain ⟨st, st', -, hstp, hst', ⟨-, hresults, -⟩, -⟩ := hrecord hp (by decide)
    exact (congrArg (Option.map _) hst').trans (congrArg some (hresults hstp))
  · obtain ⟨st, st', -, hstp, hst', ⟨-, -, htimer, -⟩, -⟩ := hrecord hp (by decide)
    exact (congrArg (Option.map _) hst').trans (congrArg some (htimer hstp))
  · obtain ⟨st, st', hst, hstp, hst', ⟨hmoved, -, -, hheld⟩, hset⟩ := hrecord (p := s.phase) rfl
      (by rcases hp with hp | hp | hp <;> simp [hp])
    rw [← hstp] at hp
    obtain ⟨hoperator, hpending, hhistory⟩ := hheld hp
    have hrestrained : st'.phase.restrained = true := by
      rw [hmoved]
      rcases hp with hp | hp | hp <;> rw [hp] <;> rfl
    have hrestraints := State.restraints_of_stage hst'
    refine ⟨(congrArg Restraints.operator hrestraints).trans hoperator,
      (congrArg Restraints.standoff hrestraints).trans (hset hrestrained), ?_, ?_⟩
    · rw [hst]
      exact (congrArg (Option.map _) hst').trans (congrArg some hpending)
    · rw [hst]
      exact (congrArg (Option.map _) hst').trans (congrArg some hhistory)
  · obtain ⟨hsince, hdrops, hcounters, hsilence, hreceiver, hchar, hsent, hcut⟩ := hlink
    exact ⟨hsince, hdrops, hcounters, hsilence, hreceiver, hchar, hsent, hcut,
      honly.trans ((State.setProcess_onlyChanges _ _).mono (by simp))⟩

end Sys2Proof.Machine
end

section
/-! SUPPORT. An INJECTING, HOLDING or CLOSED stage through whatever an evaluation or a presentation may do to it: its mixes
stand, a latched member keeps a HOLDING stage, and a CLOSED record is frozen (R22, R23, R27, R34, R88). -/

namespace Sys2Proof.Machine

/-! ## One stage record goes on as another -/

/-- INJECTING, HOLDING or CLOSED: injection has begun. -/
def Phase.begun : Phase → Bool
  | .injecting | .holding | .closed => true
  | _ => false

/-- OPERATOR or TRIP is in the set. -/
def Restraints.anyLatched (r : Restraints) : Bool := r.operator || r.trip

/-- How the record of a stage whose injection has begun may stand later: a CLOSED one as it was; an INJECTING or HOLDING
one in either phase with its mixes; and a HOLDING one that a latched member holds, in HOLDING with its timer. -/
def StageRecord.GoesOnAs (a b : StageRecord) : Prop :=
  (a.phase = .closed → b = a)
    ∧ (a.phase ≠ .closed → (b.phase = .injecting ∨ b.phase = .holding) ∧ b.history = a.history
        ∧ b.pendingMix = a.pendingMix ∧ b.currentMix = a.currentMix)
    ∧ (a.phase = .holding → a.restraints.anyLatched = true →
        b.phase = .holding ∧ b.holdTimer = a.holdTimer ∧ b.restraints.operator = a.restraints.operator
          ∧ b.restraints.trip = a.restraints.trip)

theorem StageRecord.GoesOnAs.refl {a : StageRecord} (h : a.phase.begun = true) : a.GoesOnAs a := by
  refine ⟨fun _ => rfl, fun hopen => ⟨?_, rfl, rfl, rfl⟩, fun hp _ => ⟨hp, rfl, rfl, rfl⟩⟩
  cases hp : a.phase <;> simp [hp, Phase.begun] at h hopen ⊢

theorem StageRecord.GoesOnAs.begun {a b : StageRecord} (h : a.GoesOnAs b) : b.phase.begun = true := by
  obtain ⟨hclosed, hopen, -⟩ := h
  by_cases hp : a.phase = .closed
  · rw [hclosed hp, hp]
    rfl
  · obtain ⟨hphase, -⟩ := hopen hp
    rcases hphase with hphase | hphase <;> rw [hphase] <;> rfl

theorem StageRecord.GoesOnAs.trans {a b c : StageRecord} (h : a.GoesOnAs b) (k : b.GoesOnAs c) : a.GoesOnAs c := by
  obtain ⟨hclosed, hopen, hheld⟩ := h
  obtain ⟨kclosed, kopen, kheld⟩ := k
  refine ⟨fun hp => ?_, fun hp => ?_, fun hp hlatched => ?_⟩
  · have hb := hclosed hp
    rw [kclosed (by rw [hb, hp]), hb]
  · obtain ⟨hphase, hhistory, hpending, hcurrent⟩ := hopen hp
    obtain ⟨kphase, khistory, kpending, kcurrent⟩ := kopen (by rcases hphase with h | h <;> simp [h])
    exact ⟨kphase, khistory.trans hhistory, kpending.trans hpending, kcurrent.trans hcurrent⟩
  · obtain ⟨hphase, htimer, hoperator, htrip⟩ := hheld hp hlatched
    have hstill : b.restraints.anyLatched = true := by
      rwa [Restraints.anyLatched, hoperator, htrip]
    obtain ⟨kphase, ktimer, koperator, ktrip⟩ := kheld hphase hstill
    exact ⟨kphase, ktimer.trans htimer, koperator.trans hoperator, ktrip.trans htrip⟩

/-- A zeroed refusal timer is none of it. -/
theorem StageRecord.GoesOnAs.timerZeroed {a : StageRecord} (h : a.phase.begun = true) : a.GoesOnAs a.timerZeroed := by
  obtain ⟨-, hopen, hheld⟩ := StageRecord.GoesOnAs.refl h
  refine ⟨fun hp => by simp [StageRecord.timerZeroed, hp], ?_, ?_⟩
  all_goals rw [a.timerZeroed_eq]
  · exact hopen
  · exact hheld

/-! ## The stage of one state goes on in another -/

/-- From `s` to `t` a stage whose injection has begun goes on, with its base pressure and intensity run, with a
confirmation run of 0 where it had one, and, where it is CLOSED, with S and the valve. -/
def GoesOn (s t : State) : Prop :=
  ∀ st, s.seq.stage = some st → st.phase.begun = true →
    ∃ st', t.seq.stage = some st' ∧ st.GoesOnAs st' ∧ t.seq.basePressure = s.seq.basePressure
      ∧ t.seq.intensityRun = s.seq.intensityRun ∧ (s.seq.confirmRun = 0 → t.seq.confirmRun = 0)
      ∧ (st.phase = .closed → t.reg.stroke = s.reg.stroke ∧ t.reg.valveOpen = s.reg.valveOpen)

section
variable {s t u : State}

theorem GoesOn.refl (s : State) : GoesOn s s := fun st hst hbegun =>
  ⟨st, hst, .refl hbegun, rfl, rfl, id, fun _ => ⟨rfl, rfl⟩⟩

theorem GoesOn.trans (h : GoesOn s t) (k : GoesOn t u) : GoesOn s u := by
  intro st hst hbegun
  obtain ⟨st', hst', hgoes, hbase, hrun, hconfirm, hpump⟩ := h st hst hbegun
  obtain ⟨st'', hst'', kgoes, kbase, krun, kconfirm, kpump⟩ := k st' hst' hgoes.begun
  refine ⟨st'', hst'', hgoes.trans kgoes, kbase.trans hbase, krun.trans hrun, fun h0 => kconfirm (hconfirm h0), fun hp => ?_⟩
  obtain ⟨hstroke, hvalve⟩ := hpump hp
  obtain ⟨kstroke, kvalve⟩ := kpump (by rw [hgoes.1 hp, hp])
  exact ⟨kstroke.trans hstroke, kvalve.trans hvalve⟩

/-- A move that leaves the Sequencer, and of a CLOSED stage the pump. -/
theorem GoesOn.of_seq (hseq : t.seq = s.seq)
    (hpump : s.phase = .closed → t.reg.stroke = s.reg.stroke ∧ t.reg.valveOpen = s.reg.valveOpen) : GoesOn s t := by
  intro st hst hbegun
  refine ⟨st, by rw [hseq, hst], .refl hbegun, by rw [hseq], by rw [hseq], fun h => by rwa [hseq], fun hp => ?_⟩
  exact hpump ((State.phase_of_stage hst).trans hp)

theorem GoesOn.of_blocks (hseq : t.seq = s.seq) (hreg : t.reg = s.reg) : GoesOn s t :=
  .of_seq hseq fun _ => by simp [hreg]

theorem GoesOn.ite {c : Prop} [Decidable c] (h : c → GoesOn s t) (k : ¬ c → GoesOn s u) :
    GoesOn s (if c then t else u) := by
  split
  · exact h ‹_›
  · exact k ‹_›

theorem GoesOn.recomputed (h : StepRecomputed s t) : GoesOn s t := by
  intro st hst hbegun
  obtain ⟨hstroke, hvalve, -⟩ := h.pump
  have hregisters : t.seq.basePressure = s.seq.basePressure ∧ t.seq.intensityRun = s.seq.intensityRun
      ∧ t.seq.confirmRun = s.seq.confirmRun := by
    obtain ⟨h | h, -⟩ := h <;> simp [h]
  obtain ⟨hbase, hrun, hconfirm⟩ := hregisters
  rcases h.stage with hsame | hzeroed
  · exact ⟨st, hsame.trans hst, .refl hbegun, hbase, hrun, fun h0 => hconfirm.trans h0, fun _ => ⟨hstroke, hvalve⟩⟩
  · exact ⟨_, hzeroed.trans (by rw [hst]; rfl), .timerZeroed hbegun, hbase, hrun, fun h0 => hconfirm.trans h0,
      fun _ => ⟨hstroke, hvalve⟩⟩

theorem State.keep_goesOn (kept : Conditions) (s : State) : GoesOn s (s.keep kept) := by
  intro st hst hbegun
  exact ⟨st, hst, .refl hbegun, rfl, rfl, id, fun _ => ⟨rfl, rfl⟩⟩

/-- R27: INJECTING goes on in HOLDING. -/
theorem State.enterHolding_goesOn (h : s.phase = .injecting) (b : Restraints) : GoesOn s (s.enterHolding b) := by
  intro st hst _
  have hp : st.phase = .injecting := (State.phase_of_stage hst).symm.trans h
  have hseq : (s.enterHolding b).seq = { s.seq with
      stage := (s.enterHolding b).seq.stage, test := none, confirmRun := 0 } := by
    simp [State.enterHolding, State.modStage, State.enterPhase_seq, h]
  refine ⟨_, by rw [State.enterHolding_stage, hst]; rfl, ?_, by rw [hseq], by rw [hseq], fun _ => by rw [hseq],
    fun hclosed => by simp [hp] at hclosed⟩
  simp [StageRecord.GoesOnAs, hp]

/-- R22, R23, R27: a new set of a HOLDING stage, with its latched members. -/
theorem State.changeSet_goesOn (h : s.phase = .holding) {r : Restraints} (hoperator : r.operator = s.restraints.operator)
    (htrip : r.trip = s.restraints.trip) : GoesOn s (s.changeSet r) := by
  intro st hst _
  have hp : st.phase = .holding := (State.phase_of_stage hst).symm.trans h
  rw [State.restraints_of_stage hst] at hoperator htrip
  cases hr : r.isEmpty with
  | false =>
    obtain ⟨hseq, -⟩ := State.changeSet_of_some (s := s) hr
    refine ⟨{ st with restraints := r }, ?_, ?_, by rw [hseq]; rfl, by rw [hseq]; rfl, fun h0 => by rw [hseq]; exact h0,
      fun hclosed => by simp [hp] at hclosed⟩
    · rw [hseq]
      simp [State.setRestraints, State.modStage_stage, hst]
    · simp [StageRecord.GoesOnAs, hp, hoperator, htrip]
  | true =>
    by_cases hsame : r = s.restraints
    · rw [State.changeSet_same hsame]
      exact GoesOn.refl s st hst (by rw [hp]; rfl)
    · have hlatched : st.restraints.anyLatched = false := by
        rw [Restraints.isEmpty_iff] at hr
        simp only [hr, Restraints.none] at hoperator htrip
        simp [Restraints.anyLatched, ← hoperator, ← htrip]
      have hseq : (s.changeSet r).seq = { s.seq with
          stage := some { st with phase := .injecting, restraints := .none }, test := none } := by
        rw [State.changeSet_of_none hr hsame, if_neg (by rw [h]; decide), State.enterPhase_seq,
          State.setRestraints_phase, h]
        simp [State.setRestraints, State.modStage, hst, Phase.restrained]
      refine ⟨_, congrArg Sequencer.stage hseq, ?_, by rw [hseq], by rw [hseq], fun h0 => by rw [hseq]; exact h0,
        fun hclosed => by simp [hp] at hclosed⟩
      simp [StageRecord.GoesOnAs, hp, hlatched]

theorem State.present_goesOn (kept : Conditions) (r : Restraints) (s : State) : GoesOn s (s.present kept r) := by
  intro st hst hbegun
  have hphase := State.phase_of_stage hst
  have hkeep := s.keep_goesOn kept
  refine GoesOn.trans (t := s.keep kept) hkeep ?_ st hst hbegun
  cases hp : st.phase with
  | closed =>
    rw [State.present_of_still (by rw [hphase, hp]; rfl) (by rw [hphase, hp]; rfl)]
    exact .refl _
  | injecting =>
    cases hr : r.isEmpty with
    | true =>
      rw [State.present_of_none (by rw [hphase, hp]; rfl) hr]
      exact .refl _
    | false =>
      rw [State.present_injecting (hphase.trans hp) hr]
      exact State.enterHolding_goesOn (s := s.keep kept) (hphase.trans hp) _
  | holding =>
    rw [State.present_restrained (by rw [hphase, hp]; rfl)]
    refine State.changeSet_goesOn (s := s.keep kept) (hphase.trans hp) ?_ ?_
    · exact Bool.or_false _
    · exact Bool.or_false _
  | vacant | packed | testing | waiting => simp [hp, Phase.begun] at hbegun

theorem State.presentSupply_goesOn (p : Bool) (s : State) : GoesOn s (s.presentSupply p) :=
  .ite (fun _ => .refl s) fun _ => State.present_goesOn _ _ s

theorem State.evaluateOnce_goesOn (s : State) : GoesOn s s.evaluateOnce := by
  cases hw : s.working with
  | false =>
    rw [State.evaluateOnce_of_idle hw]
    exact .refl s
  | true =>
    rw [State.evaluateOnce_eq hw]
    exact (GoesOn.recomputed s.formLimits_handed.1).trans (State.present_goesOn _ _ _)

theorem State.evaluate_goesOn (s : State) : GoesOn s s.evaluate := by
  unfold State.evaluate
  simp only
  split
  · exact s.evaluateOnce_goesOn
  · exact s.evaluateOnce_goesOn.trans (State.evaluateOnce_goesOn _)

theorem State.settle_goesOn (p : Phase) (s : State) : GoesOn s (s.settle p) :=
  .ite (fun _ => .refl s) fun _ => s.evaluate_goesOn

theorem GoesOn.settled {f : State → State} (h : GoesOn s (f s)) : GoesOn s (s.settled f) :=
  h.trans (State.settle_goesOn _ _)

/-- An evaluation of a state that leaves the Sequencer and the pump. -/
theorem GoesOn.evaluated (hseq : t.seq = s.seq) (hreg : t.reg = s.reg) : GoesOn s t.evaluate :=
  (GoesOn.of_blocks hseq hreg).trans t.evaluate_goesOn

/-! ## The parts of a second boundary besides the Sequencer's -/

theorem State.boundaryCoordination_goesOn (s : State) : GoesOn s s.boundaryCoordination := by
  have hlisten : GoesOn s (if s.listenOver then s.endListen else s) :=
    .ite (fun _ => .evaluated rfl rfl) fun _ => .refl s
  have hrefresh (u : State) : GoesOn u u.refreshSuspects := .of_blocks (by simp) (by simp)
  unfold State.boundaryCoordination
  exact .ite (fun _ => (hlisten.trans (hrefresh _)).trans (State.evaluate_goesOn _)) fun _ => .refl s

theorem State.ageEntries_goesOn (n : Nat) (s : State) : GoesOn s (s.ageEntries n) := by
  unfold State.ageEntries
  exact .ite (fun _ => .refl s) fun _ => .evaluated (by simp) (by simp)

theorem State.boundaryTag_goesOn (s : State) : GoesOn s s.boundaryTag := by
  unfold State.boundaryTag
  exact .ite (fun _ => .of_blocks (by simp [State.loadCompleted, State.unconfigure])
    (by simp [State.loadCompleted, State.unconfigure])) fun _ => .refl s

theorem State.boundaryTask_goesOn {task : BoundaryTask} (h : task ≠ .sequencer) (n : Nat) (s : State) :
    GoesOn s (s.boundaryTask n task) := by
  cases task with
  | sequencer => exact absurd rfl h
  | tagTimeout => exact s.boundaryTag_goesOn
  | counters => exact .of_blocks (by simp [State.boundaryTask]) (by simp [State.boundaryTask])
  | duplicate => exact .ite (fun _ => .evaluated (by simp) (by simp)) fun _ => .refl s
  | aging => exact s.ageEntries_goesOn n
  | coordination => exact s.boundaryCoordination_goesOn
  | faults =>
    exact .of_blocks (by simp [State.boundaryTask, State.boundaryFaults])
      (by simp [State.boundaryTask, State.boundaryFaults])

end

/-! ## The part that an order names first -/

/-- The element that the order names first comes first, and only once. -/
theorem firstOnly_of_head {α : Type} [BEq α] [LawfulBEq α] {x : α} {l m : List α} (h : l.head? = some x) :
    ∃ rest, firstOnly (l ++ m) = x :: rest ∧ x ∉ rest := by
  obtain ⟨tail, rfl⟩ := List.head?_eq_some_iff.mp h
  exact ⟨_, rfl, by simp⟩

/-- A second boundary whose order begins with the Sequencer: its part first, and a stage that it leaves goes on. -/
theorem State.boundaryWork_of_sequencer {ord : BoundaryOrder} (h : ord.tasks.head? = some .sequencer) (s : State) :
    GoesOn (s.settled State.boundarySequencer) (s.boundaryWork ord) := by
  obtain ⟨rest, hrest, hnot⟩ := firstOnly_of_head
    (m := [.tagTimeout, .sequencer, .counters, .duplicate, .aging, .coordination, .faults]) h
  unfold State.boundaryWork boundarySchedule
  rw [hrest, List.foldl_cons]
  refine List.foldlRecOn (motive := GoesOn (s.settled State.boundarySequencer)) _ _ (.refl _) fun t ht task hmem =>
    ht.trans (State.boundaryTask_goesOn ?_ _ t)
  rintro rfl
  exact hnot hmem

end Sys2Proof.Machine
end

section
/-! SUPPORT. The hold timer: HOLD_TIMER_EXPIRY, and the Sequencer first at a second boundary (R28, R34, R35, R96). -/

namespace Sys2Proof.Machine

/-! ## A close, on any station -/

/-- R34, R35: a closed stage after the evaluation of its phase change, which a station that does not work does not
make. -/
theorem State.closeStage_settled {s : State} {st : StageRecord} (hst : s.seq.stage = some st) (hopen : s.phase ≠ .vacant)
    (o : Outcome) (c : Criteria) (r : ReckRecord) :
    (s.closeStage o c r).evaluate.seq.stage
        = some (st.closedAs o c r s.time.clock s.reg.commanded s.reg.reached)
      ∧ (s.closeStage o c r).evaluate.reg.stroke = 0 ∧ (s.closeStage o c r).evaluate.reg.valveOpen = false
      ∧ (s.closeStage o c r).evaluate.seq.basePressure = s.seq.basePressure
      ∧ (s.closeStage o c r).evaluate.seq.intensityRun = s.seq.intensityRun := by
  have hclosed := State.closeStage_phase hopen o c r
  have hstage : (s.closeStage o c r).seq.stage
      = some (st.closedAs o c r s.time.clock s.reg.commanded s.reg.reached) := by
    rw [State.closeStage_stage, hst]
    rfl
  obtain ⟨hstroke, hvalve, -⟩ := State.closeStage_handed hopen o c r
  have hregisters : (s.closeStage o c r).seq.basePressure = s.seq.basePressure
      ∧ (s.closeStage o c r).seq.intensityRun = s.seq.intensityRun := by
    simp [State.closeStage, State.enterPhase_seq, State.modStage]
  obtain ⟨hbase, hrun⟩ := hregisters
  obtain ⟨st', hst', hgoes, kbase, krun, -, hpump⟩ := (s.closeStage o c r).evaluate_goesOn _ hstage rfl
  obtain ⟨kstroke, kvalve⟩ := hpump rfl
  rw [hclosed] at hvalve
  exact ⟨by rw [hst', hgoes.1 rfl], kstroke.trans hstroke, kvalve.trans hvalve, kbase.trans hbase, krun.trans hrun⟩

/-! ## The hold timer at one boundary -/

section
variable {s : State} {st : StageRecord}

/-- The state with one more second of hold (R28). -/
def State.heldLonger (s : State) : State := s.modStage fun st => { st with holdTimer := st.holdTimer + 1 }

theorem State.heldLonger_stage (hst : s.seq.stage = some st) :
    s.heldLonger.seq.stage = some { st with holdTimer := st.holdTimer + 1 } := by
  simp [State.heldLonger, State.modStage_stage, hst]

theorem State.heldLonger_phaseFrame (s : State) : PhaseFrame s s.heldLonger :=
  State.modStage_phaseFrame (by intro st; rfl) s

/-- R28: a hold of t_hold closes the stage. -/
theorem State.boundaryHold_closes (hst : s.seq.stage = some st) (h : s.conf.tag.tHold ≤ st.holdTimer + 1) :
    s.boundaryHold = s.heldLonger.closeStage .interrupted .none s.env.record := by
  have hstage := State.heldLonger_stage hst
  unfold State.heldLonger at hstage
  simp only [State.boundaryHold, hstage, h, if_true]
  rfl

theorem State.boundaryHold_stays (hst : s.seq.stage = some st) (h : st.holdTimer + 1 < s.conf.tag.tHold) :
    s.boundaryHold = s.heldLonger := by
  have hstage := State.heldLonger_stage hst
  have hno : ¬ s.conf.tag.tHold ≤ st.holdTimer + 1 := by omega
  unfold State.heldLonger at hstage
  simp only [State.boundaryHold, hstage, hno, if_false]
  rfl

/-- R28, R34, R35: what a hold of t_hold leaves. -/
theorem State.boundaryHold_settled (hst : s.seq.stage = some st) (hp : st.phase = .holding)
    (h : s.conf.tag.tHold ≤ st.holdTimer + 1) :
    (s.settled State.boundaryHold).seq.stage
        = some (StageRecord.closedAs .interrupted .none s.env.record s.time.clock s.reg.commanded s.reg.reached
            { st with holdTimer := st.holdTimer + 1 })
      ∧ (s.settled State.boundaryHold).reg.stroke = 0 ∧ (s.settled State.boundaryHold).reg.valveOpen = false := by
  have hstage := State.heldLonger_stage hst
  have hopen : s.heldLonger.phase ≠ .vacant := by simp [State.phase_of_stage hstage, hp]
  have hclose := State.boundaryHold_closes hst h
  have hmoved : s.boundaryHold.phase ≠ s.phase := by
    rw [hclose, State.closeStage_phase hopen, State.phase_of_stage hst, hp]
    decide
  rw [State.settled_of_moved hmoved, hclose]
  obtain ⟨hclosed, hstroke, hvalve, -⟩ := State.closeStage_settled hstage hopen .interrupted .none s.env.record
  exact ⟨hclosed, hstroke, hvalve⟩

theorem State.boundaryHold_phaseFrame (s : State) : PhaseFrame s s.boundaryHold := by
  unfold State.boundaryHold
  simp only
  split
  · split
    · exact s.heldLonger_phaseFrame.trans (State.closeStage_phaseFrame _ _ _ _)
    · exact s.heldLonger_phaseFrame
  · exact s.heldLonger_phaseFrame

theorem State.boundaryHold_kept (s : State) : s.boundaryHold.seq.kept = s.seq.kept := by
  unfold State.boundaryHold
  simp only
  split
  · split <;> simp [State.closeStage_kept]
  · simp

/-- HOLD_TIMER_EXPIRY at a boundary not taken yet, the hold timer one short of t_hold. -/
theorem exec_holdTimerExpiry (hdue : s.time.boundaryDue = true) (hst : s.seq.stage = some st) (hp : st.phase = .holding)
    (h : s.conf.tag.tHold ≤ st.holdTimer + 1) :
    exec .holdTimerExpiry s = .next (s.settled State.boundaryHold) := by
  have hover : s.holdOver = true := by simp [State.holdOver, State.phase_of_stage hst, hp, hst, h]
  have hat : s.atBoundary = true := hdue
  simp [exec, execHoldTimerExpiry, hover, hat]

/-- The Sequencer's part of a second boundary found in HOLDING. -/
theorem State.boundarySequencer_holding (hst : s.seq.stage = some st) (hp : st.phase = .holding) :
    s.settled State.boundarySequencer = s.settled State.boundaryHold := by
  simp [State.settled, State.boundarySequencer, State.phase_of_stage hst, hp]

/-- A boundary keeps the clock that its advance brought. -/
theorem State.boundaryWork_time (ord : BoundaryOrder) (s : State) : (s.boundaryWork ord).time = s.time :=
  List.foldlRecOn (motive := fun t : State => t.time = s.time) _ _ rfl fun t ht task _ => by simpa using ht

end

/-- Settles O26: the close at t_hold, and what the rest of a boundary leaves of it. -/
theorem holdTimerExpires : Obligations.HoldTimerExpires := by
  refine ⟨fun s st hdue hst hp hlast => ?_, fun ord s st hopen hfirst hst hp => ?_⟩
  · have hend : s.conf.tag.tHold ≤ st.holdTimer + 1 := hlast.ge
    obtain ⟨hstage, hstroke, hvalve⟩ := State.boundaryHold_settled hst hp hend
    have hkept : FieldAndSupplyKept s s.boundaryHold := by simp [FieldAndSupplyKept, State.boundaryHold_kept]
    exact ⟨_, _, exec_holdTimerExpiry hdue hst hp hend, hstage, rfl, rfl, rfl, rfl, hlast, rfl, rfl, rfl, rfl, rfl, hstroke,
      hvalve, hkept.trans (State.settle_fieldAndSupplyKept _ _), s.boundaryHold_phaseFrame.settled⟩
  · have hgoes := s.atNewSecond.boundaryWork_of_sequencer hfirst
    have htime := s.atNewSecond.boundaryWork_time ord
    have hst₀ : s.atNewSecond.seq.stage = some st := hst
    rw [State.boundarySequencer_holding hst₀ hp] at hgoes
    have hnext := exec_secondBoundary_of_open hopen ord
    by_cases hend : s.conf.tag.tHold ≤ st.holdTimer + 1
    · obtain ⟨hstage, hstroke, hvalve⟩ := State.boundaryHold_settled hst₀ hp hend
      obtain ⟨st', hst', ⟨hfrozen, -⟩, -, -, -, hpump⟩ := hgoes _ hstage rfl
      obtain ⟨kstroke, kvalve⟩ := hpump rfl
      obtain rfl := hfrozen rfl
      refine ⟨_, _, hnext, hst', fun _ => ⟨rfl, rfl, rfl, ?_, rfl, rfl, rfl, rfl, rfl, rfl, kstroke.trans hstroke,
        kvalve.trans hvalve⟩, fun hless => by omega⟩
      rw [htime]
      rfl
    · have hless : st.holdTimer + 1 < s.conf.tag.tHold := by omega
      have hhold : s.atNewSecond.boundaryHold = s.atNewSecond.heldLonger := State.boundaryHold_stays hst₀ hless
      have hstage := State.heldLonger_stage hst₀
      have hsettled : s.atNewSecond.settled State.boundaryHold = s.atNewSecond.heldLonger := by
        rw [State.settled_of_still, hhold]
        rw [hhold, State.phase_of_stage hstage, State.phase_of_stage hst₀]
      rw [hsettled] at hgoes
      obtain ⟨st', hst', ⟨-, -, hheld⟩, -⟩ := hgoes _ hstage (by simp [hp, Phase.begun])
      refine ⟨_, st', hnext, hst', fun h => absurd h hend, fun _ hlatched => hheld hp ?_⟩
      simpa [Restraints.anyLatched] using hlatched

end Sys2Proof.Machine
end

section
/-! SUPPORT. The Sequencer at a completion found in INJECTING: its checks, the ranked close, and the rest of the completion
(R33 to R35, R91, R92, R94, R95, R97, R98). -/

namespace Sys2Proof.Machine

section
variable {s t : State} {st : StageRecord} {r : ReckRecord} {l : Latched}

/-! ## The checks, one by one -/

/-- R91: what the first of the checks leaves. -/
def State.baseTaken (st : StageRecord) (r : ReckRecord) (s : State) : State :=
  { s with seq := { s.seq with basePressure := s.baseAfter st r } }

theorem State.takeBase_eq (hst : s.seq.stage = some st) (r : ReckRecord) : s.takeBase r.pEff = s.baseTaken st r := by
  have hkept (h : s.baseAfter st r = s.seq.basePressure) : s.baseTaken st r = s := by
    unfold State.baseTaken
    rw [h]
  cases hbase : s.seq.basePressure with
  | some b =>
    rw [hkept (by simp [State.baseAfter, hbase])]
    simp [State.takeBase, hst, hbase]
  | none =>
    by_cases hpending : st.pendingMix = none
    · simp [State.takeBase, State.baseTaken, hst, hbase, State.baseAfter, hpending]
    · rw [hkept (by simp [State.baseAfter, hbase, hpending])]
      simp [State.takeBase, hst, hpending]

/-- R92: the test of thickening, made with the base pressure that the first step took. -/
theorem State.thickens_iff (hst : s.seq.stage = some st) (r : ReckRecord) :
    (s.baseTaken st r).thickens r.pEff = true ↔ ∃ m, s.thickensFrom st r m := by
  simp only [State.thickens, State.baseTaken, hst, StageRecord.newest, State.thickensFrom]
  cases hcurrent : st.currentMix with
  | none => simp
  | some m =>
    cases hbase : s.baseAfter st r with
    | none => simp
    | some b =>
      cases hnewest : st.history.getLast? with
      | none => simp
      | some newest =>
        cases hmix : s.conf.tag.mix? m with
        | none => simp [hmix]
        | some x => simp [hmix, and_assoc]

/-- R92: a stage thickens from its current mix. -/
theorem State.thickensFrom_current {m : Nat} (h : s.thickensFrom st r m) : st.currentMix = some m := by
  obtain ⟨hcurrent, -⟩ := h
  exact hcurrent

/-- The record of a stage that requests the mix after `m` at stage second `sec`. -/
def StageRecord.thickened (m sec : Nat) (st : StageRecord) : StageRecord :=
  { st with history := st.history ++ [⟨m + 1, 0, sec, false⟩], pendingMix := some ⟨m + 1, sec, 0⟩ }

theorem State.thicken_of_not (hst : s.seq.stage = some st) (h : ∀ m, ¬ s.thickensFrom st r m) :
    (s.baseTaken st r).thicken r.pEff = s.baseTaken st r := by
  have hno : ¬ (s.baseTaken st r).thickens r.pEff = true := by
    rw [State.thickens_iff hst]
    rintro ⟨m, hm⟩
    exact h m hm
  exact if_neg hno

theorem State.thicken_of_thickens (hst : s.seq.stage = some st) {m : Nat} (h : s.thickensFrom st r m) :
    (s.baseTaken st r).thicken r.pEff = { s.baseTaken st r with seq := { (s.baseTaken st r).seq with
      stage := some (st.thickened m s.stageSecond), confirmRun := 0 } } := by
  have hyes : (s.baseTaken st r).thickens r.pEff = true := (State.thickens_iff hst r).mpr ⟨m, h⟩
  have hmix : (s.baseTaken st r).currentMix = some m := by
    simp [State.currentMix, State.baseTaken, hst, State.thickensFrom_current h]
  unfold State.thicken
  rw [if_pos hyes, hmix]
  simp [State.requestMix, State.modStage, State.baseTaken, State.stageSecond, StageRecord.thickened, hst]

/-- R95: the refusal timer after its step. -/
def State.timerAfter (st : StageRecord) (r : ReckRecord) (s : State) : Nat :=
  refusalAfter (10 * (s.profileAt st.profile).tref) r st

theorem State.stepRefusal_eq (hst : s.seq.stage = some st) (r : ReckRecord) :
    s.stepRefusal r
      = { s with seq := { s.seq with stage := some { st with refusalTimer := s.timerAfter st r } } } := by
  simp [State.stepRefusal, State.modStage, State.refusalGoal, State.profile, State.timerAfter, State.profileAt, hst]

/-- The record after the checks of a completion at which the stage does not thicken. -/
theorem State.injectingChecks_of_not (hst : s.seq.stage = some st) (h : ∀ m, ¬ s.thickensFrom st r m) :
    s.injectingChecks r = { s with seq := { s.seq with
      stage := some { st with refusalTimer := s.timerAfter st r }
      basePressure := s.baseAfter st r, intensityRun := s.runAfter r } } := by
  unfold State.injectingChecks
  rw [State.takeBase_eq hst, State.thicken_of_not hst h, State.stepRefusal_eq (s := s.baseTaken st r) hst]
  rfl

/-- The record after the checks of a completion at which the stage thickens: the next mix is pending, so the refusal timer
holds. -/
theorem State.injectingChecks_of_thickens (hst : s.seq.stage = some st) {m : Nat} (h : s.thickensFrom st r m) :
    s.injectingChecks r = { s with seq := { s.seq with
      stage := some (st.thickened m s.stageSecond)
      basePressure := s.baseAfter st r, intensityRun := s.runAfter r, confirmRun := 0 } } := by
  unfold State.injectingChecks
  rw [State.takeBase_eq hst, State.thicken_of_thickens hst h, State.stepRefusal_eq rfl]
  rfl

/-- What every completion's checks leave of the Sequencer, whether the stage thickens or not. -/
theorem State.injectingChecks_eq (hst : s.seq.stage = some st) (r : ReckRecord) :
    ∃ st' n, s.injectingChecks r = { s with seq := { s.seq with
        stage := some st', basePressure := s.baseAfter st r, intensityRun := s.runAfter r, confirmRun := n } }
      ∧ st'.phase = st.phase ∧ st'.asOpened = st.asOpened ∧ st'.currentMix = st.currentMix
      ∧ (∀ m, s.thickensFrom st r m → n = 0 ∧ st' = st.thickened m s.stageSecond)
      ∧ ((∀ m, ¬ s.thickensFrom st r m) →
          n = s.seq.confirmRun ∧ st' = { st with refusalTimer := s.timerAfter st r }) := by
  by_cases h : ∃ m, s.thickensFrom st r m
  · obtain ⟨m, hm⟩ := h
    refine ⟨_, 0, State.injectingChecks_of_thickens hst hm, rfl, rfl, rfl, fun k hk => ⟨rfl, ?_⟩,
      fun hnone => absurd hm (hnone m)⟩
    obtain rfl : m = k :=
      Option.some.inj ((State.thickensFrom_current hm).symm.trans (State.thickensFrom_current hk))
    rfl
  · have hnone : ∀ m, ¬ s.thickensFrom st r m := fun m hm => h ⟨m, hm⟩
    exact ⟨_, s.seq.confirmRun, State.injectingChecks_of_not hst hnone, rfl, rfl, rfl, fun m hm => absurd hm (hnone m),
      fun _ => ⟨rfl, rfl⟩⟩

/-! ## The ranked close (R94, R98) -/

/-- R98: where a criterion holds, the outcome is the first of the three in rank. -/
theorem Criteria.outcome_of_met {c : Criteria} (h : c.refusal = true ∨ c.intensity = true ∨ c.volume = true) :
    c.outcome = some (if c.refusal then .refusal else if c.intensity then .intensityLimit else .volumeLimit) := by
  unfold Criteria.outcome
  cases hrefusal : c.refusal with
  | true => rfl
  | false =>
    cases hintensity : c.intensity with
    | true => rfl
    | false => simpa [hrefusal, hintensity] using h

theorem State.completeInjecting_closes {o : Outcome} (h : ((s.injectingChecks r).criteriaHeld r).outcome = some o) :
    s.completeInjecting r = (s.injectingChecks r).closeStage o ((s.injectingChecks r).criteriaHeld r) r := by
  simp only [State.completeInjecting, h]

theorem State.completeInjecting_goes (h : ((s.injectingChecks r).criteriaHeld r).outcome = none) :
    s.completeInjecting r = s.injectingChecks r := by
  simp only [State.completeInjecting, h]

/-- The record that closes a stage at a completion. -/
theorem State.completeInjecting_settled (hst : s.seq.stage = some st) (hp : st.phase = .injecting) {o : Outcome}
    (h : ((s.injectingChecks r).criteriaHeld r).outcome = some o) {st' : StageRecord}
    (hst' : (s.injectingChecks r).seq.stage = some st') (hp' : st'.phase = st.phase) :
    s.settled (State.completeInjecting r)
        = ((s.injectingChecks r).closeStage o ((s.injectingChecks r).criteriaHeld r) r).evaluate
      ∧ (s.settled (State.completeInjecting r)).seq.stage
        = some (st'.closedAs o ((s.injectingChecks r).criteriaHeld r) r (s.injectingChecks r).time.clock
            (s.injectingChecks r).reg.commanded (s.injectingChecks r).reg.reached)
      ∧ (s.settled (State.completeInjecting r)).reg.stroke = 0
      ∧ (s.settled (State.completeInjecting r)).reg.valveOpen = false
      ∧ (s.settled (State.completeInjecting r)).seq.basePressure = (s.injectingChecks r).seq.basePressure
      ∧ (s.settled (State.completeInjecting r)).seq.intensityRun = (s.injectingChecks r).seq.intensityRun := by
  have hopen : (s.injectingChecks r).phase ≠ .vacant := by simp [State.phase_of_stage hst', hp', hp]
  have hclose := State.completeInjecting_closes h
  have hmoved : (s.completeInjecting r).phase ≠ s.phase := by
    rw [hclose, State.closeStage_phase hopen, State.phase_of_stage hst, hp]
    decide
  rw [State.settled_of_moved hmoved, hclose]
  exact ⟨rfl, State.closeStage_settled hst' hopen o _ r⟩

/-- R44: the record of the reckoning in flight is of the open stage. -/
theorem State.completing_number (h : s.completing = some (l, r)) (hst : s.seq.stage = some st) :
    r.stageNumber = some st.number := by
  unfold State.completing at h
  split at h
  · split at h
    · next hopen =>
      obtain ⟨rfl, rfl⟩ := Prod.mk.inj (Option.some.inj h)
      simp only [State.stillOpen, hst, beq_iff_eq] at hopen
      simp [Latched.record, hopen]
    · cases h
  · cases h

theorem exec_endCriteriaClose (hcompleting : s.completing = some (l, r)) (hst : s.seq.stage = some st)
    (hp : st.phase = .injecting) {o : Outcome} (h : ((s.injectingChecks r).criteriaHeld r).outcome = some o) :
    exec .endCriteriaClose s = .next (s.settled (State.completeInjecting r)) := by
  have hclosing : s.closing r = true := by simp [State.closing, State.phase_of_stage hst, hp, h]
  simp [exec, execEndCriteriaClose, hcompleting, hclosing]

/-- The frame of the checks, but for the intensity run. -/
theorem State.injectingChecks_phaseFrame (hst : s.seq.stage = some st) (r : ReckRecord) :
    PhaseFrame { s with seq := { s.seq with intensityRun := s.runAfter r } } (s.injectingChecks r) := by
  obtain ⟨st', n, hchecks, -, hopened, -⟩ := State.injectingChecks_eq hst r
  rw [hchecks]
  exact PhaseFrame.ofSeq (s := { s with seq := { s.seq with intensityRun := s.runAfter r } }) rfl rfl
    (by simp [hst, hopened])

/-! ## The other parts of a completion -/

/-- A move of the Regulator of a stage that is not CLOSED, with a refusal timer that a risen step zeroes. -/
theorem GoesOn.of_regulator
    (hseq : t.seq = s.seq ∨ t.seq = { s.seq with stage := s.seq.stage.map StageRecord.timerZeroed })
    (hopen : s.phase ≠ .closed) : GoesOn s t := by
  have hstep : StepRecomputed s { s with seq := t.seq } := ⟨hseq, .inl rfl⟩
  obtain ⟨hphase, -⟩ := hstep.standing
  exact (GoesOn.recomputed hstep).trans
    (.of_seq (s := { s with seq := t.seq }) rfl fun hclosed => absurd (hphase.symm.trans hclosed) hopen)

theorem State.completeRegulator_goesOn (q : Nat) (r : ReckRecord) (s : State) : GoesOn s (s.completeRegulator q r) := by
  unfold State.completeRegulator
  split
  · next h =>
    refine .of_regulator ?_ (by simp [h])
    have harrival : (s.arrivalPart r.pEff).seq = s.seq := by simp
    have hadvance (u : State) : (u.advancePart q).seq = u.seq
        ∨ (u.advancePart q).seq = { u.seq with stage := u.seq.stage.map StageRecord.timerZeroed } := by
      unfold State.advancePart
      split
      · exact (State.recomputeStep_recomputed u.effective
          { u with reg := { u.reg with commanded := u.reg.commanded + 1 } }).1
      · exact .inl rfl
    rw [← harrival]
    exact hadvance _
  · next h => exact .of_regulator (.inl rfl) (by simp [h])
  · exact .refl s

/-- R167: an allowance bounds S of an INJECTING stage only. -/
theorem State.setAllowance_reg (h : s.phase ≠ .injecting) (a : Nat) : (s.setAllowance a).reg = s.reg := by
  have hp : ({ s with coord := { s.coord with allowance := a } } : State).phase ≠ .injecting := h
  simp [State.setAllowance, hp]

theorem State.formSupply_goesOn (s : State) : GoesOn s s.formSupply := by
  refine .of_seq (by simp) fun hclosed => ?_
  have hreg : s.formSupply.reg = s.formDemand.reg := by
    refine State.setAllowance_reg ?_ _
    rw [State.phase_congr (s := s) (by simp), hclosed]
    decide
  simp [hreg]

theorem State.supplyEvaluation_goesOn (s : State) : GoesOn s s.supplyEvaluation := by
  have hjudge (u : State) (n : Nat) : GoesOn u (u.judgeSupply n) :=
    .ite (fun _ => GoesOn.settled (u.presentSupply_goesOn true)) fun _ =>
      .ite (fun _ => GoesOn.settled (u.presentSupply_goesOn false)) fun _ => .refl u
  exact .ite (fun _ => s.formSupply_goesOn.trans (hjudge _ _)) fun _ => .refl s

theorem State.completeTask_goesOn {task : CompletionTask} (h : task ≠ .sequencer) (l : Latched) (r : ReckRecord)
    (s : State) : GoesOn s (s.completeTask l r task) := by
  cases task with
  | sequencer => exact absurd rfl h
  | regulator => exact s.completeRegulator_goesOn _ _
  | supply => exact s.supplyEvaluation_goesOn
  | counters => exact .of_blocks (by simp [State.completeTask]) (by simp [State.completeTask])

/-- A completion whose order begins with the Sequencer: its part first, and a stage that it leaves goes on. -/
theorem State.completionWork_of_sequencer {ord : List CompletionTask} (h : ord.head? = some .sequencer) (l : Latched)
    (r : ReckRecord) (s : State) :
    GoesOn (s.settled (State.completeSequencer l.flow r)) (s.completionWork ord l r) := by
  obtain ⟨rest, hrest, hnot⟩ := firstOnly_of_head (m := [.regulator, .sequencer, .supply, .counters]) h
  unfold State.completionWork completionSchedule
  rw [hrest, List.foldl_cons]
  refine List.foldlRecOn (motive := GoesOn (s.settled (State.completeSequencer l.flow r))) _ _ (.refl _)
    fun t ht task hmem => ht.trans (State.completeTask_goesOn ?_ l r t)
  rintro rfl
  exact hnot hmem

/-- The state that the work of a stored completion finds: nothing in flight, the record stored (R43, R44). -/
def State.stored (r : ReckRecord) (s : State) : State := { s with env := { s.env with inFlight := none, record := r } }

/-- RECKONING_COMPLETION of a stage still open, the Sequencer first in its order. -/
theorem exec_reckoningCompletion (hcompleting : s.completing = some (l, r)) {ord : List CompletionTask}
    (h : ord.head? = some .sequencer) :
    ∃ t, exec (.reckoningCompletion ord) s = .next t
      ∧ GoesOn ((s.stored r).settled (State.completeSequencer l.flow r)) t := by
  have hflight : s.env.inFlight = some l := by
    unfold State.completing at hcompleting
    split at hcompleting
    · next hl =>
      split at hcompleting
      · obtain ⟨rfl, -⟩ := Prod.mk.inj (Option.some.inj hcompleting)
        exact hl
      · cases hcompleting
    · cases hcompleting
  have hcomplete : s.complete ord = ((s.stored r).completionWork ord l r).releaseRead.beginFromSlot := by
    simp only [State.complete, hflight, hcompleting]
    rfl
  refine ⟨s.complete ord, rfl, ?_⟩
  rw [hcomplete]
  exact ((s.stored r).completionWork_of_sequencer h l r).trans (.of_blocks (by simp) (by simp))

end

/-! ## The obligation, clause by clause -/

section
variable {s : State} {st : StageRecord} {r : ReckRecord} {l : Latched}

/-- The clause of O23 on END_CRITERIA_CLOSE. -/
theorem exec_endCriteriaClose_closes (hcompleting : s.completing = some (l, r)) (hst : s.seq.stage = some st)
    (hp : st.phase = .injecting) {met : Criteria} (hmet : (s.injectingChecks r).criteriaHeld r = met)
    (h : met.refusal = true ∨ met.intensity = true ∨ met.volume = true) :
    ∃ t st', exec .endCriteriaClose s = .next t ∧ t.seq.stage = some st' ∧ st'.phase = .closed
      ∧ st'.criteria = met
      ∧ st'.outcome = some (if met.refusal then .refusal else if met.intensity then .intensityLimit else .volumeLimit)
      ∧ st'.closedAt = some s.time.clock ∧ st'.finals = some ⟨r.pEff, r.v, r.i⟩
      ∧ st'.stepsAtClose = some (s.reg.commanded, s.reg.reached) ∧ st'.pendingMix = none
      ∧ st'.restraints = .none ∧ t.reg.stroke = 0 ∧ t.reg.valveOpen = false ∧ FieldAndSupplyKept s t
      ∧ PhaseFrame { s with seq := { s.seq with intensityRun := t.seq.intensityRun } } t := by
  have houtcome := Criteria.outcome_of_met h
  rw [← hmet] at houtcome
  obtain ⟨st', n, hchecks, hphase', hopened, -⟩ := State.injectingChecks_eq hst r
  have hst' : (s.injectingChecks r).seq.stage = some st' := by rw [hchecks]
  obtain ⟨hsettled, hstage, hstroke, hvalve, -, hrun⟩ :=
    State.completeInjecting_settled hst hp houtcome hst' hphase'
  have hnumber : st'.number = st.number := (StageRecord.opened_fields hopened).1
  have hfinals : finalsOf r st'.number = some ⟨r.pEff, r.v, r.i⟩ := by
    simp [finalsOf, State.completing_number hcompleting hst, hnumber]
  have hrunAfter : (s.injectingChecks r).seq.intensityRun = s.runAfter r := by rw [hchecks]
  have hframe : PhaseFrame { s with seq := { s.seq with intensityRun := s.runAfter r } }
      (s.settled (State.completeInjecting r)) := by
    rw [hsettled]
    exact ((State.injectingChecks_phaseFrame hst r).trans (State.closeStage_phaseFrame _ _ _ _)).trans
      (State.evaluate_phaseFrame _)
  have hkept : FieldAndSupplyKept s (s.settled (State.completeInjecting r)) := by
    have hchecksKept : (s.injectingChecks r).seq.kept = s.seq.kept := by rw [hchecks]
    rw [hsettled]
    exact FieldAndSupplyKept.trans (by simp [FieldAndSupplyKept, State.closeStage_kept, hchecksKept])
      (State.evaluate_fieldAndSupplyKept _)
  have hblocks : (s.injectingChecks r).time = s.time ∧ (s.injectingChecks r).reg = s.reg := by
    rw [hchecks]
    exact ⟨rfl, rfl⟩
  obtain ⟨htime, hreg⟩ := hblocks
  rw [htime, hreg, hmet] at hstage
  refine ⟨_, _, exec_endCriteriaClose hcompleting hst hp houtcome, hstage, rfl, rfl, ?_, rfl, hfinals, rfl, rfl, rfl,
    hstroke, hvalve, hkept, ?_⟩
  · rw [← hmet]
    rfl
  · rw [hrun, hrunAfter]
    exact hframe

/-- The clause of O23 on the checks. -/
theorem State.injectingChecks_clause (hst : s.seq.stage = some st) (r : ReckRecord) :
    let goal := 10 * (s.profileAt st.profile).tref
    let timer :=
      if st.pendingMix.isSome then st.refusalTimer
      else if r.refusalFlowOk = false then 0
      else if r.refusalPressureOk = true ∧ r.binding = true then min goal (st.refusalTimer + 1)
      else st.refusalTimer
    ∃ st', (s.injectingChecks r).seq.stage = some st'
      ∧ (s.injectingChecks r).seq = { s.seq with
          stage := some st', basePressure := s.baseAfter st r, intensityRun := s.runAfter r
          confirmRun := (s.injectingChecks r).seq.confirmRun }
      ∧ (∀ m, s.thickensFrom st r m →
          (s.injectingChecks r).seq.confirmRun = 0
            ∧ st' = { st with
                history := st.history ++ [⟨m + 1, 0, s.stageSecond, false⟩]
                pendingMix := some ⟨m + 1, s.stageSecond, 0⟩ })
      ∧ ((∀ m, ¬ s.thickensFrom st r m) →
          (s.injectingChecks r).seq.confirmRun = s.seq.confirmRun ∧ st' = { st with refusalTimer := timer })
      ∧ (s.injectingChecks r).criteriaHeld r
          = ⟨decide (goal ≤ st'.refusalTimer), decide (30 ≤ s.runAfter r), r.volumeReached⟩
      ∧ OnlyChanges [.seq] s (s.injectingChecks r) := by
  intro goal timer
  have htimer : s.timerAfter st r = timer := by
    simp only [State.timerAfter, refusalAfter, Bool.and_eq_true]
    rfl
  obtain ⟨st', n, hchecks, -, hopened, -, hthick, hthin⟩ := State.injectingChecks_eq hst r
  have hprofile : st'.profile = st.profile := by
    obtain ⟨-, -, -, -, hprofile, -⟩ := StageRecord.opened_fields hopened
    exact hprofile
  rw [hchecks]
  refine ⟨st', rfl, rfl, hthick, fun hnone => htimer ▸ hthin hnone, ?_, ?_⟩
  · simp only [State.criteriaHeld, State.refusalGoal, State.profile, hprofile]
    rfl
  · intro b hb
    cases b <;> simp [sameBlock] at hb ⊢

/-- The Sequencer's part of a completion found in INJECTING: the checks' record, closed or not. -/
theorem State.completeSequencer_record (hst : s.seq.stage = some st) (hp : st.phase = .injecting) (q : Nat)
    (r : ReckRecord) :
    ∃ st' n st₁,
      (∀ m, s.thickensFrom st r m → n = 0 ∧ st' = st.thickened m s.stageSecond)
      ∧ ((∀ m, ¬ s.thickensFrom st r m) → st' = { st with refusalTimer := s.timerAfter st r })
      ∧ (s.settled (State.completeSequencer q r)).seq.stage = some st₁
      ∧ (s.settled (State.completeSequencer q r)).seq.basePressure = s.baseAfter st r
      ∧ (s.settled (State.completeSequencer q r)).seq.intensityRun = s.runAfter r
      ∧ st₁.history = st'.history ∧ st₁.currentMix = st.currentMix
      ∧ (st₁.phase = .closed ∧ st₁.pendingMix = none
        ∨ st₁.phase = .injecting ∧ st₁.pendingMix = st'.pendingMix
          ∧ (s.settled (State.completeSequencer q r)).seq.confirmRun = n) := by
  obtain ⟨st', n, hchecks, hphase', -, hcurrent, hthick, hthin⟩ := State.injectingChecks_eq hst r
  have hst' : (s.injectingChecks r).seq.stage = some st' := by rw [hchecks]
  have hthin' (hnone : ∀ m, ¬ s.thickensFrom st r m) : st' = { st with refusalTimer := s.timerAfter st r } := by
    obtain ⟨-, hrecord⟩ := hthin hnone
    exact hrecord
  have hsequencer : s.settled (State.completeSequencer q r) = s.settled (State.completeInjecting r) := by
    simp [State.settled, State.completeSequencer, State.phase_of_stage hst, hp]
  rw [hsequencer]
  cases houtcome : ((s.injectingChecks r).criteriaHeld r).outcome with
  | some o =>
    obtain ⟨-, hstage, -, -, hbase, hrun⟩ := State.completeInjecting_settled hst hp houtcome hst' hphase'
    exact ⟨st', n, _, hthick, hthin', hstage, hbase.trans (by rw [hchecks]), hrun.trans (by rw [hchecks]), rfl, hcurrent,
      .inl ⟨rfl, rfl⟩⟩
  | none =>
    have hgoes := State.completeInjecting_goes houtcome
    have hsettled : s.settled (State.completeInjecting r) = s.injectingChecks r := by
      rw [State.settled_of_still, hgoes]
      rw [hgoes, State.injectingChecks_phase]
    rw [hsettled]
    exact ⟨st', n, st', hthick, hthin', hst', by rw [hchecks], by rw [hchecks], rfl, hcurrent,
      .inr ⟨hphase'.trans hp, rfl, by rw [hchecks]⟩⟩

/-- The clause of O23 on RECKONING_COMPLETION. -/
theorem exec_reckoningCompletion_goes (hcompleting : s.completing = some (l, r)) {ord : List CompletionTask}
    (hfirst : ord.head? = some .sequencer) (hst : s.seq.stage = some st) (hp : st.phase = .injecting) :
    ∃ t st', exec (.reckoningCompletion ord) s = .next t ∧ t.seq.stage = some st'
      ∧ t.seq.basePressure = s.baseAfter st r ∧ t.seq.intensityRun = s.runAfter r ∧ st'.currentMix = st.currentMix
      ∧ (∀ m, s.thickensFrom st r m →
          st'.history = st.history ++ [⟨m + 1, 0, s.stageSecond, false⟩]
            ∧ (st'.phase ≠ .closed → st'.pendingMix = some ⟨m + 1, s.stageSecond, 0⟩ ∧ t.seq.confirmRun = 0))
      ∧ ((∀ m, ¬ s.thickensFrom st r m) →
          st'.history = st.history ∧ (st'.phase ≠ .closed → st'.pendingMix = st.pendingMix))
      ∧ (st'.phase = .closed → st'.pendingMix = none) := by
  obtain ⟨t, hnext, hgoes⟩ := exec_reckoningCompletion hcompleting hfirst
  obtain ⟨st', n, st₁, hthick, hthin, hstage, hbase, hrun, hhistory, hcurrent, hends⟩ :=
    State.completeSequencer_record (s := s.stored r) hst hp l.flow r
  have hbegun : st₁.phase.begun = true := by rcases hends with ⟨h, -⟩ | ⟨h, -⟩ <;> rw [h] <;> rfl
  obtain ⟨st₂, hstage₂, ⟨hclosed, hopen, -⟩, hbase₂, hrun₂, hconfirm, -⟩ := hgoes st₁ hstage hbegun
  refine ⟨t, st₂, hnext, hstage₂, hbase₂.trans hbase, hrun₂.trans hrun, ?_⟩
  rcases hends with ⟨hp₁, hpending⟩ | ⟨hp₁, hpending, hn⟩
  · obtain rfl := hclosed hp₁
    refine ⟨hcurrent, fun m hm => ?_, fun hnone => ?_, fun _ => hpending⟩
    · obtain ⟨-, rfl⟩ := hthick m hm
      exact ⟨hhistory, fun hgone => absurd hp₁ hgone⟩
    · obtain rfl := hthin hnone
      exact ⟨hhistory, fun hgone => absurd hp₁ hgone⟩
  · obtain ⟨hphase, hhistory₂, hpending₂, hcurrent₂⟩ := hopen (by rw [hp₁]; decide)
    have hgoing : st₂.phase ≠ .closed := by rcases hphase with h | h <;> rw [h] <;> decide
    refine ⟨hcurrent₂.trans hcurrent, fun m hm => ?_, fun hnone => ?_, fun hgone => absurd hgone hgoing⟩
    · obtain ⟨rfl, rfl⟩ := hthick m hm
      exact ⟨hhistory₂.trans hhistory, fun _ => ⟨hpending₂.trans hpending, hconfirm hn⟩⟩
    · obtain rfl := hthin hnone
      exact ⟨hhistory₂.trans hhistory, fun _ => hpending₂.trans hpending⟩

end

/-- Settles O23, clause by clause. -/
theorem endCriteriaClose : Obligations.EndCriteriaClose :=
  ⟨fun _ _ _ _ hcompleting hst hp h => exec_endCriteriaClose_closes hcompleting hst hp rfl h,
    fun _ r _ hst _ => State.injectingChecks_clause hst r,
    fun _ _ _ _ _ hcompleting hfirst hst hp => exec_reckoningCompletion_goes hcompleting hfirst hst hp⟩

end Sys2Proof.Machine
end

section
/-! SUPPORT. The bounds of the saturating counters, block by block, and how a move of the machine keeps them: the counters
of each block are raised by the saturating operations alone (R43, R100, R106, R130, R170, R185). -/

namespace Sys2Proof.Machine

/-! ## The bounds, block by block -/

/-- The remainders of the Take Counters lie below their units and the six stage counters within 32 bits (R100 to R106). -/
def TakeCounters.Bounded (t : TakeCounters) : Prop :=
  t.remGrout < 600 ∧ t.remWater < 600 ∧ t.remStroke < 6000
    ∧ t.live.volume ≤ max32 ∧ t.live.water ≤ max32 ∧ t.live.strokes ≤ max32
    ∧ t.live.secWaiting ≤ max32 ∧ t.live.secInjecting ≤ max32 ∧ t.live.secHolding ≤ max32

/-- The twelve link counters lie within 16 bits (R130). -/
def LinkCounters.Bounded (c : LinkCounters) : Prop :=
  c.good ≤ max16 ∧ c.crcFailed ≤ max16 ∧ c.fragment ≤ max16 ∧ c.badLength ≤ max16 ∧ c.badContent ≤ max16
    ∧ c.filtered ≤ max16 ∧ c.stale ≤ max16 ∧ c.ownIdentity ≤ max16 ∧ c.tableFull ≤ max16
    ∧ c.transmitted ≤ max16 ∧ c.abandoned ≤ max16 ∧ c.dropped ≤ max16

/-- The link counters and the consecutive drops lie within their bounds (R126, R130). -/
def Link.Bounded (l : Link) : Prop := l.counters.Bounded ∧ l.drops ≤ 255

/-- Every fault count lies within 8 bits (R185). -/
def Faults.Bounded (f : Faults) : Prop := ∀ k, (f.get k).count ≤ 255

theorem countersBounded_iff (s : State) :
    CountersBounded s ↔ s.take.Bounded ∧ s.env.replaced ≤ max16 ∧ s.panel.badFrames ≤ max16 ∧ s.link.Bounded
      ∧ s.faults.Bounded := by
  simp only [CountersBounded, TakeCounters.Bounded, Link.Bounded, LinkCounters.Bounded, Faults.Bounded, and_assoc]

/-- From `s` to `t` the counters of each block stay within their bounds. -/
def KeepsBounds (s t : State) : Prop :=
  (s.take.Bounded → t.take.Bounded) ∧ (s.env.replaced ≤ max16 → t.env.replaced ≤ max16)
    ∧ (s.panel.badFrames ≤ max16 → t.panel.badFrames ≤ max16) ∧ (s.link.Bounded → t.link.Bounded)
    ∧ (s.faults.Bounded → t.faults.Bounded)

/-- A move of the link that leaves its counters and the drops. -/
theorem Link.Bounded.of_same {l m : Link} (h : m.counters = l.counters ∧ m.drops = l.drops) (hl : l.Bounded) :
    m.Bounded := by
  obtain ⟨hcounters, hdrops⟩ := h
  rwa [Link.Bounded, hcounters, hdrops]

/-- A move of blocks that hold no counter. -/
theorem KeepsBounds.of_stands {s t : State}
    (h : t.take = s.take ∧ t.env = s.env ∧ t.panel = s.panel ∧ t.link = s.link ∧ t.faults = s.faults) :
    KeepsBounds s t := by
  obtain ⟨htake, henv, hpanel, hlink, hfaults⟩ := h
  rw [KeepsBounds, htake, henv, hpanel, hlink, hfaults]
  exact ⟨id, id, id, id, id⟩

section
variable {s : State}

theorem KeepsBounds.of_take {x : TakeCounters} (h : s.take.Bounded → x.Bounded) : KeepsBounds s { s with take := x } :=
  ⟨h, id, id, id, id⟩

theorem KeepsBounds.of_env {e : Envelope} (h : s.env.replaced ≤ max16 → e.replaced ≤ max16) :
    KeepsBounds s { s with env := e } := ⟨id, h, id, id, id⟩

theorem KeepsBounds.of_panel {p : Panel} (h : s.panel.badFrames ≤ max16 → p.badFrames ≤ max16) :
    KeepsBounds s { s with panel := p } := ⟨id, id, h, id, id⟩

theorem KeepsBounds.of_link {l : Link} (h : s.link.Bounded → l.Bounded) : KeepsBounds s { s with link := l } :=
  ⟨id, id, id, h, id⟩

theorem KeepsBounds.of_faults {f : Faults} (h : s.faults.Bounded → f.Bounded) : KeepsBounds s { s with faults := f } :=
  ⟨id, id, id, id, h⟩

end

theorem KeepsBounds.counters {s t : State} (h : KeepsBounds s t) (hs : CountersBounded s) : CountersBounded t := by
  rw [countersBounded_iff] at hs ⊢
  obtain ⟨htake, henv, hpanel, hlink, hfaults⟩ := hs
  obtain ⟨ktake, kenv, kpanel, klink, kfaults⟩ := h
  exact ⟨ktake htake, kenv henv, kpanel hpanel, klink hlink, kfaults hfaults⟩

theorem KeepsBounds.refl (s : State) : KeepsBounds s s := ⟨id, id, id, id, id⟩

theorem KeepsBounds.trans {a b c : State} (h : KeepsBounds a b) (k : KeepsBounds b c) : KeepsBounds a c := by
  obtain ⟨htake, henv, hpanel, hlink, hfaults⟩ := h
  obtain ⟨ktake, kenv, kpanel, klink, kfaults⟩ := k
  exact ⟨ktake ∘ htake, kenv ∘ henv, kpanel ∘ hpanel, klink ∘ hlink, kfaults ∘ hfaults⟩

/-- A choice between two moves that each keep the bounds. -/
theorem KeepsBounds.ite {s t u : State} {c : Prop} [Decidable c] (h : KeepsBounds s t) (k : KeepsBounds s u) :
    KeepsBounds s (if c then t else u) := by
  split
  · exact h
  · exact k

/-- A move that is made only while its guard holds. -/
theorem KeepsBounds.guarded {s t : State} {c : Prop} [Decidable c] (h : KeepsBounds s t) :
    KeepsBounds s (if c then t else s) := .ite h (.refl s)

/-! ## The saturating operations -/

@[simp] theorem satSucc_le_iff (bound n : Nat) : satSucc bound n ≤ bound ↔ n ≤ bound := by
  unfold satSucc
  split <;> omega

@[simp] theorem raise32_le (n units : Nat) : raise32 n units ≤ max32 := Nat.min_le_left _ _

/-! ## The fault record -/

theorem Faults.Bounded.set {f : Faults} (h : f.Bounded) (k : FaultKind) {e : FaultEntry} (he : e.count ≤ 255) :
    (f.set k e).Bounded := by
  intro j
  by_cases hj : j = k
  · subst hj
    rwa [Faults.get_set_same]
  · rw [Faults.get_set_of_ne f hj]
    exact h j

theorem Faults.get_map (g : FaultKind → FaultEntry → FaultEntry) (f : Faults) (k : FaultKind) :
    (f.map g).get k = g k (f.get k) := by
  cases k <;> rfl

theorem Faults.Bounded.map {f : Faults} (h : f.Bounded) {g : FaultKind → FaultEntry → FaultEntry}
    (hg : ∀ k e, e.count ≤ 255 → (g k e).count ≤ 255) : (f.map g).Bounded := by
  intro k
  rw [Faults.get_map]
  exact hg k _ (h k)

theorem FaultEntry.report_count_le {e : FaultEntry} (h : e.count ≤ 255) (clock : Nat) (d : Option Detail) :
    (e.report clock d).count ≤ 255 := by
  unfold FaultEntry.report
  split
  · exact h
  · exact (satSucc_le_iff 255 e.count).mpr h

theorem FaultEntry.refresh_count (clock : Nat) (k : FaultKind) (e : FaultEntry) : (e.refresh clock k).count = e.count := by
  unfold FaultEntry.refresh
  split <;> rfl

theorem FaultEntry.cleared_count_le (clock : Nat) (k : FaultKind) (e : FaultEntry) :
    (e.cleared clock k).count ≤ 255 := by
  unfold FaultEntry.cleared
  split <;> simp

theorem State.report_bounds (k : FaultKind) (d : Option Detail) (s : State) : KeepsBounds s (s.report k d) :=
  .of_faults fun h => h.set k (FaultEntry.report_count_le (h k) _ _)

theorem State.setPresent_bounds (k : FaultKind) (p : Bool) (s : State) : KeepsBounds s (s.setPresent k p) :=
  .of_faults fun h => h.set k (h k)

/-! ## The link -/

@[simp] theorem Link.create_tallies (l : Link) : l.create.counters = l.counters ∧ l.create.drops = l.drops := ⟨rfl, rfl⟩

@[simp] theorem Link.serveUrgent_tallies (l : Link) :
    l.serveUrgent.counters = l.counters ∧ l.serveUrgent.drops = l.drops := by
  unfold Link.serveUrgent
  split <;> simp

@[simp] theorem Link.requestPeriodic_tallies (l : Link) :
    l.requestPeriodic.counters = l.counters ∧ l.requestPeriodic.drops = l.drops := by
  unfold Link.requestPeriodic
  split <;> simp

theorem Link.fragment_bounded {l : Link} (h : l.Bounded) : l.fragment.Bounded := by
  simpa [Link.Bounded, LinkCounters.Bounded, Link.fragment] using h

theorem Link.badLength_bounded {l : Link} (h : l.Bounded) : l.badLength.Bounded := by
  simpa [Link.Bounded, LinkCounters.Bounded, Link.badLength] using h

theorem Link.charEnd_bounded {l : Link} (h : l.Bounded) : l.charEnd.Bounded := h

theorem Link.serveUrgent_bounded {l : Link} (h : l.Bounded) : l.serveUrgent.Bounded := h.of_same l.serveUrgent_tallies

theorem Link.driveOn_bounded {l : Link} (h : l.Bounded) : l.driveOn.Bounded := by
  unfold Link.driveOn
  split <;> exact h

/-- R115, R127: a silence may end a frame as a fragment. -/
theorem Link.silenceReached_bounded {l : Link} (h : l.Bounded) : l.silenceReached.Bounded := by
  unfold Link.silenceReached
  split
  · split
    · exact Link.fragment_bounded h
    · exact h
  · exact h

theorem Link.pass_bounded {l : Link} (h : l.Bounded) (working : Bool) (d : Nat) : (l.pass working d).Bounded :=
  Link.silenceReached_bounded h

/-- R131: the entry into LISTEN starts the drops anew. -/
theorem Link.enterListen_bounded {l : Link} (own : Identity) (h : l.Bounded) : (l.enterListen own).Bounded := by
  obtain ⟨hcounters, -⟩ := h
  simp [Link.Bounded, Link.enterListen, hcounters]

theorem State.modLink_bounds {f : Link → Link} (hf : ∀ l, l.Bounded → (f l).Bounded) (s : State) :
    KeepsBounds s (s.modLink f) :=
  .of_link (hf s.link)

theorem State.countLink_bounds {f : LinkCounters → LinkCounters} (hf : ∀ c, c.Bounded → (f c).Bounded) (s : State) :
    KeepsBounds s (s.countLink f) :=
  .of_link (fun ⟨hcounters, hdrops⟩ => ⟨hf _ hcounters, hdrops⟩)

/-! ## A change of phase, and an evaluation -/

/-- R20, R148: a change of phase, with the evaluation it raises, touches no counter. -/
theorem PhaseFrame.bounds {s t : State} (h : PhaseFrame s t) : KeepsBounds s t := by
  obtain ⟨-, -, henv, htake, -, hpanel, -, hfaults, -, -⟩ := h.blocks
  have hlink : t.link.counters = s.link.counters ∧ t.link.drops = s.link.drops := by rw [h.link]; simp
  rw [KeepsBounds, htake, henv, hpanel, hfaults]
  exact ⟨id, id, id, .of_same hlink, id⟩

theorem State.urgent_bounds (s : State) : KeepsBounds s s.urgent := s.urgent_phaseFrame.bounds

/-- A part of an event with the evaluation that a change of phase raises. -/
theorem KeepsBounds.settled {s : State} {f : State → State} (h : KeepsBounds s (f s)) : KeepsBounds s (s.settled f) :=
  h.trans (State.settle_phaseFrame _ _).bounds

/-- A move and the evaluation that follows it. -/
theorem KeepsBounds.evaluate {s t : State} (h : KeepsBounds s t) : KeepsBounds s t.evaluate :=
  h.trans t.evaluate_phaseFrame.bounds

/-- A move, told to the link. -/
theorem KeepsBounds.urgent {s t : State} (h : KeepsBounds s t) : KeepsBounds s t.urgent := h.trans t.urgent_bounds

end Sys2Proof.Machine
end

section
/-! SUPPORT. The Take Counters, the Envelope Unit and the parts of a completion, of a second boundary and of a sample set
keep the bounds (R43, R100 to R113). -/

namespace Sys2Proof.Machine

/-! ## Take Counters -/

/-- A change of the Sequencer, the Regulator or the Coordination Unit: none of them holds a counter. -/
theorem State.modStage_bounds (f : StageRecord → StageRecord) (s : State) : KeepsBounds s (s.modStage f) :=
  .of_stands (by simp)

theorem State.noteSaturation_bounds (hit flag : Bool) (set : Saturated → Saturated) (s : State) :
    KeepsBounds s (s.noteSaturation hit flag set) := by
  have hflag : KeepsBounds s (s.modLive fun l => { l with saturated := set l.saturated }) := .of_take id
  exact .guarded (hflag.trans (State.report_bounds _ _ _))

/-- R101: the remainder is taken anew and the units saturate. -/
theorem State.countGrout_bounds (flow : Nat) (s : State) : KeepsBounds s (s.countGrout flow) := by
  unfold State.countGrout
  simp only
  refine KeepsBounds.trans (KeepsBounds.trans (.of_take ?_) (State.modStage_bounds _ _))
    (State.noteSaturation_bounds _ _ _ _)
  rintro ⟨-, hwater, hstroke, -, hlive⟩
  exact ⟨Nat.mod_lt _ (by decide), hwater, hstroke, raise32_le _ _, hlive⟩

theorem State.countWater_bounds (flow : Nat) (s : State) : KeepsBounds s (s.countWater flow) := by
  unfold State.countWater
  simp only
  refine KeepsBounds.trans (.of_take ?_) (State.noteSaturation_bounds _ _ _ _)
  rintro ⟨hgrout, -, hstroke, hvolume, -, hlive⟩
  exact ⟨hgrout, Nat.mod_lt _ (by decide), hstroke, hvolume, raise32_le _ _, hlive⟩

theorem State.countStrokes_bounds (stroke : Nat) (s : State) : KeepsBounds s (s.countStrokes stroke) := by
  unfold State.countStrokes
  simp only
  refine KeepsBounds.trans (.of_take ?_) (State.noteSaturation_bounds _ _ _ _)
  rintro ⟨hgrout, hwater, -, hvolume, htest, -, hlive⟩
  exact ⟨hgrout, hwater, Nat.mod_lt _ (by decide), hvolume, htest, raise32_le _ _, hlive⟩

theorem State.notePeakQ_bounds (flow : Nat) (s : State) : KeepsBounds s (s.notePeakQ flow) := .of_take id

theorem State.sampleCounters_bounds (flow gauge stroke : Nat) (s : State) :
    KeepsBounds s (s.sampleCounters flow gauge stroke) := by
  have hgathered (u : State) (w : Window) : KeepsBounds u { u with take := { u.take with window := w } } := .of_take id
  have hgrout := KeepsBounds.guarded (c := s.phase = .injecting ∨ s.phase = .holding) (s.countGrout_bounds flow)
  have hwater (u : State) := KeepsBounds.guarded (c := s.phase = .testing) (u.countWater_bounds flow)
  have hstroke (u : State) :=
    KeepsBounds.ite (c := s.phase = .vacant ∨ s.phase = .closed) (.refl u) (u.countStrokes_bounds stroke)
  have hpeak (u : State) := KeepsBounds.guarded (c := s.phase.pumping = true) (u.notePeakQ_bounds flow)
  exact (((hgrout.trans (hwater _)).trans (hstroke _)).trans (hpeak _)).trans (hgathered _ _)

theorem State.completionCounters_bounds (flow : Nat) (p : Int) (s : State) :
    KeepsBounds s (s.completionCounters flow p) := by
  have hgathered (w : Window) : KeepsBounds s { s with take := { s.take with window := w } } := .of_take id
  exact (hgathered _).trans (.guarded (.of_take id))

/-- R104: one more second in the phase found. -/
theorem State.countSecond_bounds (s : State) : KeepsBounds s s.countSecond := by
  unfold State.countSecond
  simp only
  split
  · refine KeepsBounds.trans (.of_take ?_) (State.noteSaturation_bounds _ _ _ _)
    rintro ⟨hgrout, hwater, hstroke, hvolume, htest, hstrokes, -, hlater⟩
    exact ⟨hgrout, hwater, hstroke, hvolume, htest, hstrokes, raise32_le _ _, hlater⟩
  · refine KeepsBounds.trans (.of_take ?_) (State.noteSaturation_bounds _ _ _ _)
    rintro ⟨hgrout, hwater, hstroke, hvolume, htest, hstrokes, hwaiting, -, hholding⟩
    exact ⟨hgrout, hwater, hstroke, hvolume, htest, hstrokes, hwaiting, raise32_le _ _, hholding⟩
  · refine KeepsBounds.trans (.of_take ?_) (State.noteSaturation_bounds _ _ _ _)
    rintro ⟨hgrout, hwater, hstroke, hvolume, htest, hstrokes, hwaiting, hinjecting, -⟩
    exact ⟨hgrout, hwater, hstroke, hvolume, htest, hstrokes, hwaiting, hinjecting, raise32_le _ _⟩
  · exact .refl s

theorem State.takeCopy_bounds (c : CopyCause) (s : State) : KeepsBounds s (s.takeCopy c) := .of_take id

theorem State.boundaryCounters_bounds (s : State) : KeepsBounds s s.boundaryCounters := by
  have hclosed (u : State) : KeepsBounds u u.closeWindow := .of_take id
  have hcopied (u : State) := KeepsBounds.guarded (c := u.take.autoCopy = true) (u.takeCopy_bounds .auto)
  exact (s.countSecond_bounds.trans (hclosed _)).trans (hcopied _)

/-- R113: OPEN clears the counters and their remainders. -/
theorem TakeCounters.opened_bounded (number : Nat) (t : TakeCounters) : (t.opened number).Bounded :=
  ⟨Nat.zero_lt_succ _, Nat.zero_lt_succ _, Nat.zero_lt_succ _, Nat.zero_le _, Nat.zero_le _, Nat.zero_le _,
    Nat.zero_le _, Nat.zero_le _, Nat.zero_le _⟩

/-! ## Envelope Unit -/

theorem State.beginReckoning_bounds (set : SampleSet) (s : State) : KeepsBounds s (s.beginReckoning set) := by
  unfold State.beginReckoning
  split
  · exact .refl s
  · exact .of_env id

/-- R43: a replaced set is counted, saturating. -/
theorem State.offerSet_bounds (set : SampleSet) (s : State) : KeepsBounds s (s.offerSet set) := by
  unfold State.offerSet
  refine .guarded ?_
  split
  · exact s.beginReckoning_bounds set
  · split
    · exact .of_env id
    · exact .of_env (satSucc_le_iff _ _).mpr

theorem State.beginFromSlot_bounds (s : State) : KeepsBounds s s.beginFromSlot := by
  have hempty : KeepsBounds s { s with env := { s.env with slot := none } } := .of_env id
  unfold State.beginFromSlot
  split
  · exact .refl s
  · exact hempty.trans (State.beginReckoning_bounds _ _)

end Sys2Proof.Machine
end

section
/-! SUPPORT. The parts of a completion, of a second boundary and of a sample set, the table and the tag keep the bounds. -/

namespace Sys2Proof.Machine

/-! ## Sequencer, Regulator and Coordination Unit -/

theorem State.makeCurrent_bounds (m : Nat) (s : State) : KeepsBounds s (s.makeCurrent m) := by
  unfold State.makeCurrent
  simp only
  split
  · exact .urgent (.of_stands (by simp))
  · exact .of_stands (by simp)

theorem State.confirmMix_bounds (m : Nat) (s : State) : KeepsBounds s (s.confirmMix m) :=
  (s.modStage_bounds _).trans (State.makeCurrent_bounds m _)

theorem State.timeoutMix_bounds (m : Nat) (s : State) : KeepsBounds s (s.timeoutMix m) :=
  ((s.report_bounds _ _).trans (State.modStage_bounds _ _)).trans (State.makeCurrent_bounds m _)

theorem State.arrivalPart_bounds (p : Int) (s : State) : KeepsBounds s (s.arrivalPart p) := by
  have hreach : KeepsBounds s s.reachStep := .urgent (.of_stands (by simp))
  unfold State.arrivalPart
  refine .ite hreach (.ite (.of_stands (by simp)) (.ite (.guarded hreach) (.of_stands (by simp))))

theorem State.completeRegulator_bounds (q : Nat) (r : ReckRecord) (s : State) :
    KeepsBounds s (s.completeRegulator q r) := by
  unfold State.completeRegulator
  split
  · have hadvanced (u : State) : KeepsBounds u (u.advancePart q) := .of_stands (by simp)
    have hstroke (u : State) : KeepsBounds u (u.strokeUpdate r.gSet) := .of_stands (by simp)
    exact ((s.arrivalPart_bounds r.pEff).trans (hadvanced _)).trans (hstroke _)
  · exact .of_stands (by simp)
  · exact .refl s

theorem State.injectingChecks_bounds (r : ReckRecord) (s : State) : KeepsBounds s (s.injectingChecks r) :=
  .of_stands (by simp)

theorem State.endTestStep_bounds (x : TestState) (st : StageRecord) (s : State) :
    KeepsBounds s (s.endTestStep x st) := by
  unfold State.endTestStep
  simp only
  split
  · exact .of_stands (by simp)
  · exact (s.modStage_bounds _).trans (State.enterWaiting_phaseFrame _ _).bounds

theorem State.completeInjecting_bounds (r : ReckRecord) (s : State) : KeepsBounds s (s.completeInjecting r) := by
  unfold State.completeInjecting
  simp only
  split
  · exact (s.injectingChecks_bounds r).trans (State.closeStage_phaseFrame _ _ _ _).bounds
  · exact s.injectingChecks_bounds r

theorem State.completeTest_bounds (q : Nat) (p : Int) (s : State) : KeepsBounds s (s.completeTest q p) := by
  unfold State.completeTest
  split
  · simp only
    split
    · exact s.endTestStep_bounds _ _
    · exact .of_stands (by simp)
  · exact .refl s

theorem State.completeSequencer_bounds (q : Nat) (r : ReckRecord) (s : State) :
    KeepsBounds s (s.completeSequencer q r) := by
  unfold State.completeSequencer
  split
  · exact s.completeTest_bounds q _
  · exact s.completeInjecting_bounds r
  · exact .refl s

theorem State.presentSupply_bounds (p : Bool) (s : State) : KeepsBounds s (s.settled (State.presentSupply p)) :=
  (s.presentSupply_phaseFrame p).settled.bounds

theorem State.supplyEvaluation_bounds (s : State) : KeepsBounds s s.supplyEvaluation := by
  have hjudged (u : State) (n : Nat) : KeepsBounds u (u.judgeSupply n) :=
    .ite (u.presentSupply_bounds true) (.guarded (u.presentSupply_bounds false))
  exact .guarded (KeepsBounds.trans (b := s.formSupply) (.of_stands (by simp)) (hjudged _ _))

theorem State.sampleHeader_bounds (s : State) : KeepsBounds s s.sampleHeader := by
  have hrun (n : Nat) : KeepsBounds s { s with coord := { s.coord with headerRun := n } } := .of_stands (by simp)
  exact .guarded (.ite ((hrun _).trans (State.presentSupply_bounds true _)) (hrun _))

/-- A change of the Coordination Unit, told to the link and evaluated. -/
theorem KeepsBounds.told {s : State} {c : Coordination} :
    KeepsBounds s (State.evaluate (State.urgent { s with coord := c })) :=
  .evaluate (.urgent (.of_stands (by simp)))

theorem State.sampleConnection_bounds (s : State) : KeepsBounds s s.sampleConnection := by
  unfold State.sampleConnection
  exact .guarded (.ite (.of_stands (by simp)) (.ite .told (.ite .told (.ite (.of_stands (by simp)) (.of_stands (by simp))))))

theorem State.sampleUplift_bounds (s : State) : KeepsBounds s s.sampleUplift := by
  unfold State.sampleUplift
  refine .guarded ?_
  split
  · exact .refl s
  · exact .ite (.of_stands (by simp)) .told

theorem State.sampleConfirm_bounds (s : State) : KeepsBounds s s.sampleConfirm := by
  unfold State.sampleConfirm
  split
  · exact .refl s
  · exact .ite (.ite (s.confirmMix_bounds _) (.of_stands (by simp))) (.of_stands (by simp))

theorem State.boundaryCoordination_bounds (s : State) : KeepsBounds s s.boundaryCoordination := by
  have hlisten : KeepsBounds s (if s.listenOver then s.endListen else s) := .guarded (.evaluate (.of_stands (by simp)))
  have hsuspects (u : State) : KeepsBounds u u.refreshSuspects := .guarded (.ite (.refl u) (.urgent (.of_stands (by simp))))
  exact .guarded (.evaluate (hlisten.trans (hsuspects _)))

/-! ## Neighbour Table -/

theorem State.setEntries_evaluate_bounds (l : List Entry) (s : State) : KeepsBounds s (s.setEntries l).evaluate :=
  .evaluate (.of_stands (by simp))

theorem State.hearOwn_bounds (s : State) : KeepsBounds s s.hearOwn := by
  let t : State := { s.countLink fun c => { c with ownIdentity := satSucc max16 c.ownIdentity } with
    table := { s.table with duplicate := true, ownHeard := some s.time.clock } }
  have hflag (u : State) (x : NeighbourTable) : KeepsBounds u { u with table := x } := .of_stands (by simp)
  have hcounted : KeepsBounds s t :=
    (State.countLink_bounds (f := fun c => { c with ownIdentity := satSucc max16 c.ownIdentity })
      (by simp [LinkCounters.Bounded]) s).trans (hflag _ _)
  have hseen : KeepsBounds t { t with faults := { t.faults with
      duplicateId := { t.faults.duplicateId with last := some s.time.clock } } } :=
    .of_faults fun h => h.set .duplicateId (h .duplicateId)
  unfold State.hearOwn
  simp only
  split
  · exact .ite hcounted (hcounted.trans hseen)
  · exact .evaluate ((hcounted.trans (State.setPresent_bounds _ _ _)).trans (State.report_bounds _ _ _))

theorem State.admission_bounds (b : Bulletin) (s : State) : KeepsBounds s (s.admission b) := by
  have hfull (d : Option Detail) : KeepsBounds s
      ((s.countLink fun x => { x with tableFull := satSucc max16 x.tableFull }).report .tableFull d) :=
    (State.countLink_bounds (by simp [LinkCounters.Bounded]) s).trans (State.report_bounds _ _ _)
  unfold State.admission
  refine .ite s.hearOwn_bounds (.ite (State.countLink_bounds (by simp [LinkCounters.Bounded]) s) ?_)
  split
  · exact .ite (s.setEntries_evaluate_bounds _) (State.countLink_bounds (by simp [LinkCounters.Bounded]) s)
  · refine .ite (s.setEntries_evaluate_bounds _) ?_
    split
    · exact .ite (s.setEntries_evaluate_bounds _) (hfull _)
    · exact hfull _

theorem State.clearDuplicate_bounds (s : State) : KeepsBounds s s.clearDuplicate := by
  have hcleared : KeepsBounds s { s with table := { s.table with duplicate := false } } := .of_stands (by simp)
  exact .evaluate (hcleared.trans (State.setPresent_bounds _ _ _))

theorem State.reportSilent_bounds (e : Entry) (s : State) : KeepsBounds s (s.reportSilent e) :=
  .guarded (s.report_bounds _ _)

theorem State.ageEntries_bounds (n : Nat) (s : State) : KeepsBounds s (s.ageEntries n) := by
  have hreported (l : List Entry) (u : State) : KeepsBounds u (l.foldl State.reportSilent u) :=
    List.foldlRecOn (motive := KeepsBounds u) _ _ (.refl u) fun t ht e _ => ht.trans (t.reportSilent_bounds e)
  have hset (l : List Entry) : KeepsBounds s (s.setEntries l) := .of_stands (by simp)
  exact .ite (.refl s) (.evaluate ((hset _).trans (hreported _ _)))

theorem State.removeEntry_bounds (e : Entry) (s : State) : KeepsBounds s (s.removeEntry e) := by
  have hset (l : List Entry) : KeepsBounds s (s.setEntries l) := .of_stands (by simp)
  exact .evaluate ((hset _).trans (State.reportSilent_bounds e _))

/-! ## The tag -/

theorem State.loadCompleted_bounds (j : Judgement) (s : State) : KeepsBounds s (s.loadCompleted j) := by
  have hfailed (r : LoadResult) : KeepsBounds s (s.unconfigure r) := by
    have hstation (c : Configuration) : KeepsBounds s { s with conf := c } := .of_stands (by simp)
    exact ((hstation _).trans (State.setPresent_bounds _ _ _)).trans (State.report_bounds _ _ _)
  cases j with
  | absent => exact hfailed _
  | crcFailed => exact hfailed _
  | outOfRange o => exact hfailed _
  | accepted t ps => exact .evaluate (.of_link (Link.enterListen_bounded _))

/-! ## The composite events -/

theorem State.boundaryMix_bounds (s : State) : KeepsBounds s s.boundaryMix := by
  unfold State.boundaryMix
  split
  · exact .ite (s.timeoutMix_bounds _) (s.modStage_bounds _)
  · exact .refl s

theorem State.boundarySequencer_bounds (s : State) : KeepsBounds s s.boundarySequencer := by
  unfold State.boundarySequencer
  split
  · exact s.boundaryHold_phaseFrame.bounds
  · exact s.boundaryMix_bounds
  · exact .refl s

theorem State.boundaryFaults_bounds (s : State) : KeepsBounds s s.boundaryFaults :=
  .of_faults fun h => h.map fun k e he => (FaultEntry.refresh_count _ k e).trans_le he

theorem State.boundaryTask_bounds (n : Nat) (task : BoundaryTask) (s : State) :
    KeepsBounds s (s.boundaryTask n task) := by
  cases task with
  | tagTimeout => exact .guarded (s.loadCompleted_bounds _)
  | sequencer => exact s.boundarySequencer_bounds.settled
  | counters => exact s.boundaryCounters_bounds
  | duplicate => exact .guarded s.clearDuplicate_bounds
  | aging => exact s.ageEntries_bounds n
  | coordination => exact s.boundaryCoordination_bounds
  | faults => exact s.boundaryFaults_bounds

theorem State.setTime_bounds (x : Timebase) (s : State) : KeepsBounds s { s with time := x } := .of_stands (by simp)

theorem State.secondBoundary_bounds (ord : BoundaryOrder) (s : State) : KeepsBounds s (s.secondBoundary ord) := by
  have hwork (u : State) : KeepsBounds u (u.boundaryWork ord) :=
    List.foldlRecOn (motive := KeepsBounds u) _ _ (.refl u) fun t ht task _ => ht.trans (t.boundaryTask_bounds _ task)
  exact .guarded ((s.setTime_bounds _).trans (hwork _))

theorem State.trip_bounds (s : State) : KeepsBounds s s.trip := by
  have hstopped : KeepsBounds s s.stopPump := .of_stands (by simp)
  exact (hstopped.trans (State.report_bounds _ _ _)).trans (KeepsBounds.settled (State.arrive_phaseFrame _ _).bounds)

theorem State.sampleTask_bounds (set : SampleSet) (task : SampleTask) (p : State × Nat) :
    KeepsBounds p.1 (State.sampleTask set task p).1 := by
  obtain ⟨s, stroke⟩ := p
  cases task with
  | trip =>
    simp only [State.sampleTask]
    split
    · exact s.trip_bounds
    · exact .refl s
  | field => exact s.presentField_phaseFrame.settled.bounds
  | counters => exact s.sampleCounters_bounds _ _ _
  | envelope => exact s.offerSet_bounds set
  | confirm => exact s.sampleConfirm_bounds
  | uplift => exact s.sampleUplift_bounds
  | connection => exact s.sampleConnection_bounds
  | header => exact s.sampleHeader_bounds

/-- R6 to R9: the measurement reports SENSOR faults alone. -/
theorem State.sampleChannel_bounds (ch : Channel) (code : RawCode) (s : State) :
    KeepsBounds s (s.sampleChannel ch code) := by
  have hset (c : ChannelState) : KeepsBounds s (s.setChannel ch c) := .of_stands (by simp)
  have hpresent (p : Bool) := (hset (s.channelAfter ch code)).trans (State.setPresent_bounds .sensor p _)
  exact .ite ((hpresent _).trans (State.report_bounds _ _ _)) (hpresent _)

theorem State.sampleInput_bounds (i : Input) (level : Bool) (s : State) : KeepsBounds s (s.sampleInput i level) :=
  .of_stands (by simp)

theorem State.judgeInputs_bounds (inp : SampleInput) (order : List Channel) (s : State) :
    KeepsBounds s (s.judgeInputs inp order) := by
  have hchannels : KeepsBounds s ((channelOrder order).foldl (fun s ch => s.sampleChannel ch (inp.codes.get ch)) s) :=
    List.foldlRecOn (motive := KeepsBounds s) _ _ (.refl s) fun t ht ch _ => ht.trans (t.sampleChannel_bounds ch _)
  exact ((hchannels.trans (State.sampleInput_bounds _ _ _)).trans (State.sampleInput_bounds _ _ _)).trans
    (State.sampleInput_bounds _ _ _)

theorem State.takeSampleSet_bounds (inp : SampleInput) (ord : SampleOrder) (s : State) :
    KeepsBounds s (s.takeSampleSet inp ord) := by
  have hbuilt (u : State) : KeepsBounds u u.buildSet := .of_stands (by simp)
  have hjudged : KeepsBounds s (s.judgeInputs inp ord.channels).buildSet :=
    (s.judgeInputs_bounds inp ord.channels).trans (hbuilt _)
  have hwork (set : SampleSet) (stroke : Nat) (u : State) : KeepsBounds u (u.sampleWork set ord.tasks stroke) :=
    List.foldlRecOn (motive := fun p : State × Nat => KeepsBounds u p.1) _ _ (.refl u) fun p hp task _ =>
      hp.trans (State.sampleTask_bounds set task p)
  unfold State.takeSampleSet
  simp only
  split
  · exact hjudged.trans (hwork _ _ _)
  · exact hjudged

theorem State.sampleSet_bounds (inp : SampleInput) (ord : SampleOrder) (s : State) :
    KeepsBounds s (s.sampleSet inp ord) :=
  (KeepsBounds.guarded (s.secondBoundary_bounds _)).trans
    ((State.setTime_bounds _ _).trans (State.takeSampleSet_bounds inp ord _))

theorem State.presentChange_bounds (s : State) : KeepsBounds s s.presentChange := by
  have hamended : KeepsBounds s s.amendLatest := .of_stands (by simp)
  exact hamended.trans (State.presentField_phaseFrame _).settled.bounds

theorem State.completeTask_bounds (l : Latched) (r : ReckRecord) (task : CompletionTask) (s : State) :
    KeepsBounds s (s.completeTask l r task) := by
  cases task with
  | regulator => exact s.completeRegulator_bounds _ _
  | sequencer => exact (s.completeSequencer_bounds _ _).settled
  | supply => exact s.supplyEvaluation_bounds
  | counters => exact s.completionCounters_bounds _ _

end Sys2Proof.Machine
end

section
/-! SUPPORT. The curtain link and the panel port keep the bounds (R114 to R131, R170 to R186). -/

namespace Sys2Proof.Machine

/-! ## The curtain link -/

/-- R126: a drop is counted twice over, each saturating. -/
theorem State.dropOutgoing_bounds (s : State) : KeepsBounds s s.dropOutgoing := by
  let l : Link := { s.link with
    slot := none, periodic := 0, drops := satSucc 255 s.link.drops
    counters := { s.link.counters with dropped := satSucc max16 s.link.counters.dropped } }
  have hdropped : KeepsBounds s { s with link := l } :=
    .of_link (by simp [l, Link.Bounded, LinkCounters.Bounded])
  have hreported (u : State) : KeepsBounds u ((u.setPresent .linkJam true).report .linkJam none) :=
    (u.setPresent_bounds _ _).trans (State.report_bounds _ _ _)
  have hserved (u : State) : KeepsBounds u { u with link := u.link.serveUrgent } :=
    .of_link Link.serveUrgent_bounded
  exact (hdropped.trans (.guarded (hreported _))).trans (hserved _)

theorem State.failAttempt_bounds (o : Outgoing) (s : State) : KeepsBounds s (s.failAttempt o) := by
  have hcounted : KeepsBounds s (s.countLink fun c => { c with abandoned := satSucc max16 c.abandoned }) :=
    State.countLink_bounds (by simp [LinkCounters.Bounded]) s
  have hagain (u : State) (g : Option (BitVec 16)) (x : Option Outgoing) :
      KeepsBounds u { u with link := { u.link with generator := g, slot := x } } := .of_link id
  unfold State.failAttempt
  exact .ite (hcounted.trans (hagain _ _ _)) (hcounted.trans (State.dropOutgoing_bounds _))

theorem State.completeTransmission_bounds (s : State) : KeepsBounds s s.completeTransmission := by
  have hsent (u : State) : KeepsBounds u { u with link := Link.serveUrgent { u.link with
      slot := none, firstCount := u.link.firstCount - 1, drops := 0
      counters := { u.link.counters with transmitted := satSucc max16 u.link.counters.transmitted } } } := by
    refine .of_link (fun ⟨hcounters, _⟩ => Link.serveUrgent_bounded ⟨?_, Nat.zero_le _⟩)
    simpa [LinkCounters.Bounded] using hcounters
  exact (s.setPresent_bounds .linkJam false).trans (hsent _)

theorem State.beginAttempt_bounds (o : Outgoing) (s : State) : KeepsBounds s (s.beginAttempt o) :=
  .of_link id

theorem State.readBack_bounds (o : Outgoing) (b : Byte) (stopFound : Bool) (s : State) :
    KeepsBounds s (s.readBack o b stopFound) := by
  unfold State.readBack
  exact .ite (.ite s.completeTransmission_bounds (.of_link id)) (s.failAttempt_bounds o)

theorem State.charEnd_bounds (s : State) : KeepsBounds s (s.modLink Link.charEnd) :=
  s.modLink_bounds fun _ => Link.charEnd_bounded

theorem Panel.silenceReached_badFrames {p : Panel} (h : p.badFrames ≤ max16) : p.silenceReached.badFrames ≤ max16 := by
  unfold Panel.silenceReached
  split
  · split
    · exact h
    · exact (satSucc_le_iff _ _).mpr h
    · exact h
  · exact h

theorem State.pass_bounds (d : Nat) (s : State) : KeepsBounds s (s.pass d) :=
  ⟨id, id, Panel.silenceReached_badFrames (p := { s.panel with silence := s.panel.silence + d }),
    fun h => Link.pass_bounded h _ _, id⟩

theorem State.atMoment_bounds {f : State → State} (hf : ∀ u, KeepsBounds u (f u)) (d : Nat) (s : State) :
    KeepsBounds s (s.atMoment d f) :=
  .guarded ((s.pass_bounds d).trans (hf _))

theorem State.failInHand_bounds (o : Outgoing) (s : State) : KeepsBounds s (s.failInHand o) :=
  .ite (s.charEnd_bounds.trans (State.failAttempt_bounds o _)) (State.atMoment_bounds (State.failAttempt_bounds o) _ s)

theorem State.setReceiver_bounds (r : Link → LinkReceiver) (s : State) :
    KeepsBounds s (s.modLink fun l => { l with receiver := r l }) :=
  s.modLink_bounds (f := fun l => { l with receiver := r l }) fun _ h => h

theorem State.finishFrame_bounds (n : Byte) (body check : List Byte) (s : State) :
    KeepsBounds s (s.finishFrame n body check) := by
  unfold State.finishFrame
  refine (s.setReceiver_bounds fun _ => .hunting).trans ?_
  simp only
  split
  · exact State.countLink_bounds (by simp [LinkCounters.Bounded]) _
  · exact State.countLink_bounds (by simp [LinkCounters.Bounded]) _
  · exact (State.countLink_bounds (by simp [LinkCounters.Bounded]) _).trans (.guarded (State.admission_bounds _ _))

/-- R127, R128: a good character goes on with the frame, or ends it by its lead or its length. -/
theorem State.frameCharacter_bounds (got : List Byte) (b : Byte) (s : State) :
    KeepsBounds s (s.frameCharacter got b) := by
  have hgoes (c : Prop) [Decidable c] (r : LinkReceiver) {l e : Link} (hl : l.Bounded) (he : e.Bounded) :
      (if c then { l with receiver := r } else e).Bounded := by
    split
    · exact hl
    · exact he
  unfold State.frameCharacter
  split
  · exact s.modLink_bounds fun _ hl => hgoes _ _ hl (Link.fragment_bounded hl)
  · exact s.modLink_bounds fun _ hl => hgoes _ _ hl (Link.fragment_bounded hl)
  · exact s.modLink_bounds fun _ hl => hgoes _ _ hl (Link.badLength_bounded hl)
  · exact .ite (s.finishFrame_bounds _ _ _) (s.setReceiver_bounds _)
  · exact .refl s

theorem State.fragment_bounds (s : State) : KeepsBounds s (s.modLink Link.fragment) :=
  s.modLink_bounds fun _ => Link.fragment_bounded

theorem State.receive_bounds (b : Byte) (stopFound : Bool) (s : State) : KeepsBounds s (s.receive b stopFound) := by
  unfold State.receive
  split
  · exact .refl s
  · exact .guarded (s.frameCharacter_bounds _ _)
  · exact .ite (s.frameCharacter_bounds _ _) s.fragment_bounds

theorem State.character_bounds (b : Byte) (stopFound : Bool) (s : State) : KeepsBounds s (s.character b stopFound) := by
  unfold State.character
  refine s.charEnd_bounds.trans ?_
  simp only
  split
  · exact (State.readBack_bounds _ _ _ _).trans (State.modLink_bounds (fun _ => Link.driveOn_bounded) _)
  · exact State.receive_bounds _ _ _

theorem State.wholeFrame_bounds (bytes : List Byte) (s : State) : KeepsBounds s (s.wholeFrame bytes) := by
  unfold State.wholeFrame
  split
  · exact .guarded (s.charEnd_bounds.trans (State.finishFrame_bounds _ _ _ _))
  · exact .refl s

theorem State.badLengthFrame_bounds (n : Byte) (s : State) : KeepsBounds s (s.badLengthFrame n) :=
  .guarded (s.modLink_bounds fun _ => Link.badLength_bounded (l := Link.charEnd _))

theorem State.endFragment_bounds (why : FragmentCause) (s : State) : KeepsBounds s (s.endFragment why) := by
  have hended : KeepsBounds s (s.modLink fun l => l.charEnd.fragment) :=
    s.modLink_bounds fun _ => Link.fragment_bounded (l := Link.charEnd _)
  cases why with
  | silence => exact .guarded (State.atMoment_bounds (fun u => .guarded u.fragment_bounds) _ s)
  | framing => exact .guarded hended
  | badLead =>
    simp only [State.endFragment]
    split
    · exact .guarded hended
    · exact .guarded hended
    · exact .refl s

/-! ## The console commands -/

/-- The Conf block holds no counter. -/
theorem State.setConf_bounds (c : Configuration) (s : State) : KeepsBounds s { s with conf := c } := .of_stands (by simp)

/-- R44: of the Envelope Unit a change of phase empties the slot alone. -/
theorem Envelope.handed_replaced (new : Phase) (e : Envelope) : (e.handed new).replaced = e.replaced := by
  unfold Envelope.handed
  split <;> rfl

theorem State.vacate_bounds (s : State) : KeepsBounds s s.vacate :=
  .urgent (.of_env ((Envelope.handed_replaced _ _).trans_le))

theorem State.openStage_bounds (top bottom profile : Nat) (waterTest autoAdvance : Bool) (s : State) :
    KeepsBounds s (s.openStage top bottom profile waterTest autoAdvance) := by
  obtain ⟨-, htake, henv, -⟩ := s.createStage_blocks top bottom profile waterTest autoAdvance
  have hcreated : KeepsBounds s (s.createStage top bottom profile waterTest autoAdvance) := by
    rw [KeepsBounds, htake, henv]
    obtain ⟨-, -, hlink, -, hpanel, hfaults, -⟩ := s.createStage_frame top bottom profile waterTest autoAdvance
    rw [hlink, hpanel, hfaults]
    exact ⟨fun _ => TakeCounters.opened_bounded _ _, fun _ => Nat.zero_le _, id, id, id⟩
  exact .evaluate (hcreated.trans (State.handover_phaseFrame _ (by simp) _).bounds)

theorem State.restart_bounds (s : State) : KeepsBounds s s.restart := by
  have hstage : KeepsBounds s (s.stopPump.settled State.restartStage) := s.restartedStage_phaseFrame.bounds
  have hlink (u : State) : KeepsBounds u { u with link := u.link.restart } := by
    obtain ⟨-, -, -, hdrops, hcounters, -⟩ := u.link.restart_fields
    exact .of_link (.of_same ⟨hcounters, hdrops⟩)
  have hlisten (u : State) : KeepsBounds u u.clearTable.listenAgain := .of_stands (by simp)
  exact .evaluate ((hstage.trans (hlink _)).trans (hlisten _))

end Sys2Proof.Machine
end

section
/-! SUPPORT. Every row of the table, every console command and the idle step keep the bounds. -/

namespace Sys2Proof.Machine

/-! ## The owners of the console commands -/

theorem State.doOpen_bounds (top bottom : Nat) (profile test advance : Byte) (s : State) :
    KeepsBounds s (s.doOpen top bottom profile test advance).state := by
  unfold State.doOpen
  split
  · exact .refl s
  · split
    · exact .refl s
    · split
      · exact .refl s
      · exact s.openStage_bounds _ _ _ _ _

theorem State.doStart_bounds (s : State) : KeepsBounds s s.doStart.state := by
  unfold State.doStart
  split
  · exact (s.startStage_phaseFrame _).settled.bounds
  · exact .refl s

theorem State.doStep_bounds (n : Nat) (s : State) : KeepsBounds s (s.doStep n).state := by
  have hcommanded (c : Nat) : KeepsBounds s (s.setCommanded c) := .of_stands (by simp)
  have hruns (u : State) (r : Regulator) : KeepsBounds u { u with reg := r } := .of_stands (by simp)
  unfold State.doStep
  split
  · exact .refl s
  · split
    · exact .refl s
    · exact (hcommanded _).trans (hruns _ _)

theorem State.doHold_bounds (s : State) : KeepsBounds s s.doHold.state := by
  unfold State.doHold
  split
  · exact (s.arrive_phaseFrame _).settled.bounds
  · exact .refl s

theorem State.doRelease_bounds (s : State) : KeepsBounds s s.doRelease.state := by
  unfold State.doRelease
  split
  · simp only
    split <;> exact s.releaseStage_phaseFrame.settled.bounds
  · exact .refl s

theorem State.doStop_bounds (s : State) : KeepsBounds s s.doStop.state := by
  unfold State.doStop
  split
  · exact s.stopStage_phaseFrame.settled.bounds
  · exact .refl s

theorem State.abortStage_bounds (s : State) : KeepsBounds s s.abortStage := by
  have hclosed : KeepsBounds s (s.closeStage .aborted .none s.env.record) := (s.closeStage_phaseFrame _ _ _).bounds
  unfold State.abortStage
  split
  · exact s.vacate_bounds
  · exact hclosed
  · exact hclosed
  · exact hclosed
  · exact hclosed
  · exact .refl s

theorem State.doAbort_bounds (s : State) : KeepsBounds s s.doAbort.state := by
  unfold State.doAbort
  split
  · exact s.abortStage_bounds.settled
  · exact .refl s

theorem State.acceptStage_bounds (st : StageRecord) (s : State) : KeepsBounds s (s.acceptStage st) := by
  have hlogged (p : List LogRecord) : KeepsBounds s { s with panel := { s.panel with log := p } } := .of_panel id
  exact (hlogged _).trans (State.vacate_bounds _)

theorem State.doAccept_bounds (s : State) : KeepsBounds s s.doAccept.state := by
  unfold State.doAccept
  split
  · split
    · exact .refl s
    · exact (s.acceptStage_bounds _).settled
  · exact .refl s

theorem State.doRead_bounds (item window index : Byte) (s : State) :
    KeepsBounds s (s.doRead item window index).state := by
  unfold State.doRead
  split
  · exact .of_stands (by simp)
  · exact .refl s

theorem State.doLogRead_bounds (k : Nat) (s : State) : KeepsBounds s (s.doLogRead k).state := by
  unfold State.doLogRead
  split <;> exact .refl s

theorem State.doLogTake_bounds (s : State) : KeepsBounds s s.doLogTake.state := by
  unfold State.doLogTake
  split
  · exact .refl s
  · exact .of_panel id

theorem State.doMix_bounds (n : Nat) (s : State) : KeepsBounds s (s.doMix n).state := by
  have hforced : KeepsBounds s (s.forceMix n) := (s.requestMix_phaseFrame n).bounds.trans (State.modStage_bounds _ _)
  unfold State.doMix
  split
  · exact .refl s
  · split
    · exact .refl s
    · split
      · exact .refl s
      · split
        · exact .refl s
        · exact hforced

theorem State.doTune_bounds (profile field value : Nat) (s : State) :
    KeepsBounds s (s.doTune profile field value).state := by
  unfold State.doTune
  split
  · exact .refl s
  · split
    · exact .refl s
    · split
      · exact .refl s
      · split
        · exact .refl s
        · exact s.setConf_bounds _

theorem State.doAuto_bounds (setting : Byte) (s : State) : KeepsBounds s (s.doAuto setting).state := by
  unfold State.doAuto
  split
  · exact .refl s
  · exact .of_take id

/-- R186: masking leaves the count. -/
theorem State.doMask_bounds (kind setting : Nat) (s : State) : KeepsBounds s (s.doMask kind setting).state := by
  unfold State.doMask
  split
  · split
    · exact .refl s
    · exact .of_faults fun h => h.set _ (h _)
  · exact .refl s

theorem State.doFaultClear_bounds (s : State) : KeepsBounds s s.doFaultClear.state :=
  .of_faults fun h => h.map fun k e _ => e.cleared_count_le _ k

/-- R174: whatever the owner of a command does. -/
theorem State.perform_bounds (c : PanelCmd) (s : State) : KeepsBounds s (s.perform c).state := by
  cases c with
  | openStage top bottom profile test advance => exact s.doOpen_bounds _ _ _ _ _
  | start => exact s.doStart_bounds
  | stepTo n => exact s.doStep_bounds n
  | hold => exact s.doHold_bounds
  | release => exact s.doRelease_bounds
  | stop => exact s.doStop_bounds
  | abort => exact s.doAbort_bounds
  | accept => exact s.doAccept_bounds
  | read item window index => exact s.doRead_bounds _ _ _
  | logRead k => exact s.doLogRead_bounds k
  | logTake => exact s.doLogTake_bounds
  | mix n => exact s.doMix_bounds n
  | tune profile field value => exact s.doTune_bounds _ _ _
  | lock => exact s.setConf_bounds _
  | auto setting => exact s.doAuto_bounds setting
  | mask kind setting => exact s.doMask_bounds _ _
  | restart => exact s.restart_bounds
  | snap => exact s.takeCopy_bounds .snap
  | faultClear => exact s.doFaultClear_bounds
  | unknown code | badLength code args | status => exact .refl s

/-! ## The panel port -/

theorem State.setProcess_bounds (p : Option InProcess) (s : State) : KeepsBounds s (s.setProcess p) := .of_panel id

theorem State.answer_bounds (c : PanelCmd) (s : State) : KeepsBounds s (s.answer c).state := by
  unfold State.answer
  split
  · exact .refl s
  · exact s.perform_bounds c

theorem State.takeCommand_bounds (c : PanelCmd) (s : State) : KeepsBounds s (s.takeCommand c) :=
  .ite (s.setProcess_bounds _) ((s.answer_bounds c).trans (State.setProcess_bounds _ _))

theorem State.panelArrive_bounds (c : PanelCmd) (s : State) : KeepsBounds s (s.panelArrive c) := by
  unfold State.panelArrive
  split
  · exact s.report_bounds _ _
  · split
    · exact s.takeCommand_bounds c
    · exact .of_panel id

theorem State.endResponse_bounds (s : State) : KeepsBounds s s.endResponse := by
  have hfree : KeepsBounds s { s with panel := { s.panel with slot := none, inProcess := none } } := .of_panel id
  unfold State.endResponse
  split
  · split
    · exact hfree.trans (State.takeCommand_bounds _ _)
    · exact s.setProcess_bounds _
  · exact .refl s

/-- R170: a bad frame is counted, saturating. -/
theorem State.badPanelFrame_bounds (s : State) : KeepsBounds s s.badPanelFrame :=
  .of_panel (satSucc_le_iff _ _).mpr

theorem State.setPanelReceiver_bounds (r : PanelReceiver) (s : State) : KeepsBounds s (s.setPanelReceiver r) :=
  .of_panel id

theorem State.completeMessage_bounds (msg : List Byte) (s : State) : KeepsBounds s (s.completeMessage msg) := by
  have hhunting : KeepsBounds s (s.setPanelReceiver .hunting) := s.setPanelReceiver_bounds _
  unfold State.completeMessage
  simp only
  split
  · split
    · exact hhunting.trans (State.panelArrive_bounds _ _)
    · exact hhunting
  · exact hhunting.trans (State.badPanelFrame_bounds _)

/-- A byte ends the silence of the line, which may have discarded a message (R170). -/
theorem State.panelQuiet_bounds (s : State) :
    KeepsBounds s { s with panel := { s.panel.silenceReached with silence := 0 } } :=
  .of_panel Panel.silenceReached_badFrames

theorem State.panelByte_bounds (b : Byte) (s : State) : KeepsBounds s (s.panelByte b) := by
  unfold State.panelByte
  simp only
  refine s.panelQuiet_bounds.trans ?_
  split
  · refine .ite (State.setPanelReceiver_bounds _ _) ?_
    exact (State.setPanelReceiver_bounds _ _).trans (State.badPanelFrame_bounds _)
  · exact .ite (State.completeMessage_bounds _ _) (State.setPanelReceiver_bounds _ _)
  · exact .refl _

theorem State.panelWhole_bounds (msg : List Byte) (s : State) : KeepsBounds s (s.panelWhole msg) :=
  .guarded (s.panelQuiet_bounds.trans (State.completeMessage_bounds _ _))

/-! ## A completion -/

theorem State.releaseRead_bounds (s : State) : KeepsBounds s s.releaseRead := by
  unfold State.releaseRead
  split
  · exact (s.doRead_bounds _ _ _).trans (State.setProcess_bounds _ _)
  · exact .refl s

theorem State.complete_bounds (ord : List CompletionTask) (s : State) : KeepsBounds s (s.complete ord) := by
  have hwork (l : Latched) (r : ReckRecord) (u : State) : KeepsBounds u (u.completionWork ord l r) :=
    List.foldlRecOn (motive := KeepsBounds u) _ _ (.refl u) fun t ht task _ => ht.trans (t.completeTask_bounds l r task)
  have hended (r : ReckRecord) : KeepsBounds s { s with env := { s.env with inFlight := none, record := r } } :=
    .of_env id
  unfold State.complete
  split
  · exact .refl s
  · refine KeepsBounds.trans (KeepsBounds.trans ?_ (State.releaseRead_bounds _)) (State.beginFromSlot_bounds _)
    split
    · exact (hended _).trans (hwork _ _ _)
    · exact .of_env id

/-! ## Every command, and the idle step -/

theorem State.powerOn_bounds (s : State) :
    KeepsBounds s { State.reset with pending := s.pending, freeCount := s.freeCount } := by
  obtain ⟨htake, henv, hpanel, hlink, hfaults⟩ := (countersBounded_iff _).mp State.reset_countersBounded
  exact ⟨fun _ => htake, fun _ => henv, fun _ => hpanel, fun _ => hlink, fun _ => hfaults⟩

theorem State.drawFree_bounds (n : Nat) (s : State) : KeepsBounds s { s with freeCount := n } := .of_stands (by simp)

/-- Every command that answers a next state keeps the bounds. -/
theorem exec_bounds {i : Instr} {s t : State} (h : exec i s = .next t) : KeepsBounds s t := by
  cases i <;> cases h
  case powerOnReset => exact s.powerOn_bounds
  case sampleSet inp ord => exact s.sampleSet_bounds inp ord
  case secondBoundary ord => exact s.secondBoundary_bounds ord
  case channelFail ch code => exact .guarded ((s.sampleChannel_bounds ch code).trans (State.presentChange_bounds _))
  case channelRecover ch code => exact .guarded ((s.sampleChannel_bounds ch code).trans (State.presentChange_bounds _))
  case inputDebounceAccept i level =>
    exact .guarded ((s.sampleInput_bounds i level).trans (State.presentChange_bounds _))
  case reckoningCompletion ord => exact s.complete_bounds ord
  case reachedStepArrival =>
    split
    · exact .guarded (.urgent (.of_stands (by simp)))
    · exact .refl s
  case autoAdvance =>
    split
    · exact .guarded (.of_stands (by simp))
    · exact .refl s
  case testStepEnd =>
    split
    · split
      · exact (s.endTestStep_bounds _ _).settled
      · exact .refl s
    · exact .refl s
  case endCriteriaClose =>
    split
    · exact .guarded (s.completeInjecting_bounds _).settled
    · exact .refl s
  case mixConfirm =>
    split
    · exact .guarded (s.confirmMix_bounds _)
    · exact .refl s
  case mixTimeout =>
    split
    · exact .guarded (s.timeoutMix_bounds _)
    · exact .refl s
  case holdTimerExpiry => exact .guarded s.boundaryHold_phaseFrame.settled.bounds
  case periodicRequest =>
    exact .guarded (State.atMoment_bounds
      (State.modLink_bounds fun l hl => hl.of_same l.requestPeriodic_tallies) _ s)
  case holdOffEnd =>
    split
    · exact State.atMoment_bounds (fun u => .guarded (u.modLink_bounds fun _ => Link.serveUrgent_bounded)) _ s
    · exact .refl s
  case attemptStart =>
    split
    · exact .ite (.refl s) (State.atMoment_bounds (State.beginAttempt_bounds _) _ s)
    · exact .refl s
  case accessTimeout | attemptFailed =>
    split
    · exact s.failInHand_bounds _
    · exact .refl s
  case transmissionComplete =>
    split
    · exact s.charEnd_bounds.trans (State.completeTransmission_bounds _)
    · exact .refl s
  case linkJam =>
    split
    · exact .guarded (s.failInHand_bounds _)
    · exact .refl s
  case lineIdle => exact .ite (.refl s) (State.atMoment_bounds .refl _ s)
  case frameReceived bytes => exact s.wholeFrame_bounds bytes
  case badLengthFrame n => exact s.badLengthFrame_bounds n
  case fragment why => exact s.endFragment_bounds why
  case duplicateClear => exact .guarded s.clearDuplicate_bounds
  case entryStale id =>
    split
    · exact .guarded (s.setEntries_evaluate_bounds _)
    · exact .refl s
  case entryRemoved id =>
    split
    · exact .guarded (s.removeEntry_bounds _)
    · exact .refl s
  case supplyPresent why =>
    cases why with
    | allowance => exact .guarded s.supplyEvaluation_bounds
    | header => exact .guarded s.sampleHeader_bounds
  case supplyAbsent => exact .guarded s.supplyEvaluation_bounds
  case listenEnd => exact .guarded (.evaluate (s.setConf_bounds _))
  case connectionReportStart => exact .guarded .told
  case connectionReportClear => exact .guarded .told
  case tagLoadComplete image =>
    split
    · exact (s.drawFree_bounds _).trans (State.loadCompleted_bounds _ _)
    · exact .refl s
  case tagLoadTimeout => exact .guarded (s.loadCompleted_bounds _)
  case panelMessage bytes => exact s.panelWhole_bounds bytes
  case panelSilenceTimeout =>
    exact .of_panel (Panel.silenceReached_badFrames (p := { s.panel with silence := s.panel.silence + _ }))
  case responseEnd => exact s.endResponse_bounds
  case startBitSeen => exact s.modLink_bounds (f := Link.startBit) fun _ h => h
  case characterReceived b stopFound => exact s.character_bounds b stopFound
  case panelByteReceived b => exact s.panelByte_bounds b
  all_goals exact s.panelArrive_bounds _

theorem State.attemptDue_bounds {s t : State} (h : s.attemptDue = some t) : KeepsBounds s t := by
  unfold State.attemptDue at h
  split at h
  · next o _ =>
    split at h
    · split at h
      · exact (Option.some.inj h) ▸ s.failInHand_bounds o
      · cases h
    · split at h
      · exact (Option.some.inj h) ▸ s.beginAttempt_bounds o
      · split at h
        · exact (Option.some.inj h) ▸ s.failInHand_bounds o
        · cases h
  · cases h

theorem State.idle_bounds (s : State) : KeepsBounds s s.idle := by
  have hcreated : KeepsBounds s (s.modLink Link.create) := s.modLink_bounds fun l hl => hl.of_same l.create_tallies
  unfold State.idle
  split
  · next hdue => exact State.attemptDue_bounds hdue
  · exact .ite s.charEnd_bounds (.ite hcreated (s.pass_bounds 1))

/-- Every step that answers a next state keeps the bounds: the command that is taken, or the idle step. -/
theorem step_bounds {s t : State} (h : step s = .next t) : KeepsBounds s t := by
  unfold step at h
  split at h
  · next i rest _ =>
    have htaken : KeepsBounds s { s with pending := rest } := .of_stands (by simp)
    exact htaken.trans (exec_bounds h)
  · cases h
    exact s.idle_bounds

/-- Settles O56, from the step lemma of the bounds. -/
theorem countersStayBounded : Obligations.CountersStayBounded :=
  fun _ _ hs h => (step_bounds h).counters hs

end Sys2Proof.Machine
end

section
/-! SUPPORT. The arithmetic of a reckoning, rule by rule (R49 to R61), and the two statements about it. -/

namespace Sys2Proof.Machine

/-! ## Rounding and clamping -/

/-- A quotient rounded half up is the nearest whole number, an exact half going upward (00, Arithmetic). -/
theorem roundHalfUp_bounds (a : Nat) {b : Nat} (hb : 0 < b) :
    2 * a < b * (2 * roundHalfUp a b + 1) ∧ b * (2 * roundHalfUp a b) ≤ 2 * a + b := by
  have hdiv := Nat.div_add_mod (2 * a + b) (2 * b)
  have hmod := Nat.mod_lt (2 * a + b) (show 0 < 2 * b by omega)
  have hround : b * (2 * roundHalfUp a b) = 2 * b * ((2 * a + b) / (2 * b)) := by
    rw [roundHalfUp]
    ring
  rw [Nat.mul_add, hround]
  omega

theorem clampInt_mem {lo hi : Int} (h : lo ≤ hi) (x : Int) : lo ≤ clampInt lo hi x ∧ clampInt lo hi x ≤ hi := by
  unfold clampInt
  omega

section
variable (l : Latched)

/-! ## Losses and intensity -/

theorem Latched.cf_of_water (h : l.phase = .testing ∨ l.friction = none) : l.cf = l.cWater := by
  unfold Latched.cf
  rcases h with h | h
  · rw [if_pos h]
  · rw [h]
    split <;> rfl

theorem Latched.cf_of_mix {f : Nat} (hphase : l.phase ≠ .testing) (hf : l.friction = some f) : l.cf = f := by
  rw [Latched.cf, if_neg hphase, hf]
  rfl

theorem Latched.pWater_of_above (h : l.mv ≤ l.wv) : l.pWater = 0 := if_neg (by omega)

theorem Latched.pWater_of_below (h : l.wv < l.mv) : l.pWater = roundHalfUp ((l.mv - l.wv) * 981) 10000 := if_pos h

/-- R52: the friction before the cap. -/
def Latched.frictionUncapped : Nat := roundHalfUp (l.cf * (l.flow * l.flow) * (l.lh + l.top)) 1000000000

theorem Latched.pFric_eq : l.pFric = min 5000 l.frictionUncapped := rfl

theorem Latched.frictionUncapped_bounds :
    2 * (l.cf * (l.flow * l.flow) * (l.lh + l.top)) < 1000000000 * (2 * l.frictionUncapped + 1)
      ∧ 1000000000 * (2 * l.frictionUncapped) ≤ 2 * (l.cf * (l.flow * l.flow) * (l.lh + l.top)) + 1000000000 :=
  roundHalfUp_bounds _ (by decide)

theorem Latched.intensity_of_nonpos (h : l.pEff ≤ 0) : l.intensity = 0 := by
  rw [Latched.intensity, Int.toNat_of_nonpos h, Nat.zero_mul, Nat.zero_div]

/-- R56: the intensity is floored. -/
theorem Latched.intensity_bounds (h : 0 ≤ l.pEff) :
    10 * (l.intensity : Int) ≤ l.pEff * l.take ∧ l.pEff * l.take < 10 * ((l.intensity : Int) + 1) := by
  have hpower : l.pEff * l.take = ((l.pEff.toNat * l.take : Nat) : Int) := by
    rw [Nat.cast_mul, Int.toNat_of_nonneg h]
  rw [hpower, Latched.intensity]
  omega

/-- R60: the five flags of the record. -/
theorem Latched.record_flags (n : Nat) :
    ((l.record n).volumeReached = true ↔ l.profile.vmax ≤ l.take)
      ∧ ((l.record n).intensityReached = true ↔ l.profile.gin ≤ l.intensity)
      ∧ ((l.record n).refusalPressureOk = true ↔ (l.pTgt : Int) - l.profile.tolp ≤ l.pEff)
      ∧ ((l.record n).refusalFlowOk = true ↔ l.flow ≤ l.profile.qref)
      ∧ ((l.record n).binding = true ↔ l.e = l.profile.top ∨ l.pEnv < l.ladderE) := by
  simp [Latched.record]

end

/-- Settles O15, rule by rule; the friction stays below its cap only where the cap does not bind. -/
theorem pressuresOfAReckoning : Obligations.PressuresOfAReckoning := by
  intro l
  obtain ⟨hfriction, hfriction'⟩ := l.frictionUncapped_bounds
  have hcap := l.pFric_eq
  refine ⟨⟨rfl, rfl⟩, rfl, l.cf_of_water, fun _ => l.cf_of_mix, roundHalfUp_bounds _ (by decide), l.pWater_of_above,
    fun h => ?_, ?_, fun h => ?_, ?_, l.intensity_of_nonpos, l.intensity_bounds, fun n => ?_⟩
  · rw [l.pWater_of_below h]
    exact roundHalfUp_bounds _ (by decide)
  · omega
  · omega
  · omega
  · exact ⟨rfl, rfl, rfl, rfl, rfl, rfl, rfl, rfl, rfl, rfl, rfl, rfl, rfl, rfl, l.record_flags n⟩

/-! ## The envelope and the target -/

section
variable (l : Latched)

/-- R57: the envelope is at most Pmax. -/
theorem Latched.pEnv_le : l.pEnv ≤ l.profile.pmax := by
  unfold Latched.pEnv
  split
  · exact le_rfl
  · exact Nat.min_le_left _ _

theorem Latched.pEnv_of_take (h : 0 < l.take) : l.pEnv = min l.profile.pmax (l.profile.gin * 10 / l.take) :=
  if_neg (by omega)

/-- R57: a stage that is driven at its envelope keeps the intensity at or below GIN. -/
theorem Latched.pEnv_mul_take_le (h : 0 < l.take) : l.pEnv * l.take ≤ 10 * l.profile.gin :=
  calc l.pEnv * l.take
      ≤ l.profile.gin * 10 / l.take * l.take := by
        rw [l.pEnv_of_take h]
        exact Nat.mul_le_mul_right _ (Nat.min_le_right _ _)
    _ ≤ l.profile.gin * 10 := Nat.div_mul_le_self _ _
    _ = 10 * l.profile.gin := Nat.mul_comm _ _

theorem Latched.pTgt_of_ladder (h : l.phase = .waiting ∨ l.phase = .injecting ∨ l.phase = .holding) :
    l.pTgt = min l.ladderE l.pEnv := by
  rcases h with h | h | h <;> rw [Latched.pTgt, h]

theorem Latched.pTgt_of_testing {p : Nat} (h : l.phase = .testing) (hp : l.testPressure = some p) :
    l.pTgt = min p l.profile.pmax := by
  rw [Latched.pTgt, h, hp]
  rfl

theorem Latched.pTgt_of_idle (h : l.phase = .packed ∨ l.phase = .closed) : l.pTgt = 0 := by
  rcases h with h | h <;> rw [Latched.pTgt, h]

/-- R58: no phase asks for more than Pmax. -/
theorem Latched.pTgt_le : l.pTgt ≤ l.profile.pmax := by
  unfold Latched.pTgt
  split
  · exact (Nat.min_le_right _ _).trans l.pEnv_le
  · exact (Nat.min_le_right _ _).trans l.pEnv_le
  · exact (Nat.min_le_right _ _).trans l.pEnv_le
  · exact Nat.min_le_right _ _
  · exact Nat.zero_le _

theorem Latched.gSet_cast :
    (l.gSet : Int) = clampInt 0 l.gLim ((l.pTgt : Int) - l.pHead + l.pFric + l.pWater) :=
  Int.toNat_of_nonneg (clampInt_mem (Int.natCast_nonneg _) _).1

end

/-- Settles O16, from the rules of the envelope, the target and the set-point. -/
theorem envelopeRespectsGin : Obligations.EnvelopeRespectsGin := by
  intro l
  obtain ⟨hlow, hhigh⟩ := clampInt_mem (lo := -2000) (hi := 16000) (by decide)
    ((l.gauge : Int) + l.pHead - l.pFric - l.pWater)
  have hset : l.gSet ≤ l.gLim := by
    have hle := (clampInt_mem (Int.natCast_nonneg l.gLim) ((l.pTgt : Int) - l.pHead + l.pFric + l.pWater)).2
    rw [← l.gSet_cast] at hle
    exact Int.ofNat_le.mp hle
  exact ⟨⟨hlow, hhigh, rfl⟩, rfl, l.pEnv_le, l.pEnv_mul_take_le, fun h => if_pos h, l.pEnv_of_take, l.pTgt_le,
    l.pTgt_of_ladder, fun _ => l.pTgt_of_testing, l.pTgt_of_idle, hset, l.gSet_cast⟩

end Sys2Proof.Machine
end

section
/-! SUPPORT. The held READ RECKONING (R46): the command is taken and waits, and the completion answers it. -/

namespace Sys2Proof.Machine

/-- The code of READ, the item RECKONING and the LIVE window (12.2, R175). -/
def liveReckoningRead (index : Byte) : PanelCmd := .read 2#8 0#8 index

theorem State.holdsRead_liveReckoning {s : State} (h : s.env.inFlight.isSome = true) (index : Byte) :
    s.holdsRead (liveReckoningRead index) = true := h

theorem State.generalCheck_liveReckoning {s : State} (h : s.working = true) (index : Byte) :
    s.generalCheck (liveReckoningRead index) = none := by
  simp [State.generalCheck, liveReckoningRead, h, PanelCmd.engineerOnly, PanelCmd.code]

/-- R46: the command is taken into process and its response is not formed. -/
theorem State.panelArrive_held {s : State} (hfree : s.panelFree) (hworking : s.working = true)
    (h : s.env.inFlight.isSome = true) (index : Byte) :
    s.panelArrive (liveReckoningRead index) = s.setProcess (some ⟨liveReckoningRead index, none⟩) := by
  obtain ⟨hprocess, hslot⟩ := hfree
  simp [State.panelArrive, hprocess, hslot, State.takeCommand, State.generalCheck_liveReckoning hworking,
    State.holdsRead_liveReckoning h]

/-- R175: the data of a READ RECKONING in the LIVE window. -/
theorem State.readData_liveReckoning (index : Byte) (s : State) :
    s.readData 2#8 0#8 index = some (liveHeader ++ s.env.record.bytes) := rfl

/-- R43, R61: the beginning of a reckoning leaves the record of the last. -/
theorem State.beginReckoning_record (set : SampleSet) (s : State) : (s.beginReckoning set).env.record = s.env.record := by
  unfold State.beginReckoning
  split <;> rfl

theorem State.beginFromSlot_record (s : State) : s.beginFromSlot.env.record = s.env.record := by
  unfold State.beginFromSlot
  split
  · rfl
  · exact State.beginReckoning_record _ _

theorem State.completionWork_panel (ord : List CompletionTask) (l : Latched) (r : ReckRecord) (s : State) :
    (s.completionWork ord l r).panel = s.panel :=
  List.foldlRecOn (motive := fun t : State => t.panel = s.panel) _ _ rfl fun t ht task _ => by simpa using ht

/-- R46: a held READ RECKONING is answered with the record as it stands. -/
theorem State.releaseRead_held {s : State} {index : Byte}
    (h : s.panel.inProcess = some ⟨liveReckoningRead index, none⟩) :
    s.releaseRead.panel = { s.panel with
      inProcess := some ⟨liveReckoningRead index, some ⟨0x0A#8, .ok, liveHeader ++ s.env.record.bytes⟩⟩ } := by
  unfold liveReckoningRead at h
  simp [State.releaseRead, h, State.doRead, State.readData_liveReckoning, State.setProcess, liveReckoningRead,
    PanelCmd.code]

/-! ## The two ways of a completion (R44) -/

theorem State.completing_flight {s : State} {l : Latched} {r : ReckRecord} (h : s.completing = some (l, r)) :
    s.env.inFlight = some l ∧ s.stillOpen l = true ∧ r = l.record s.env.replaced := by
  unfold State.completing at h
  split at h
  · next hflight =>
    split at h
    · next hopen =>
      obtain ⟨rfl, rfl⟩ := Prod.mk.inj (Option.some.inj h)
      exact ⟨hflight, hopen, rfl⟩
    · cases h
  · cases h

/-- A stored completion: the work, the waiting read, the slot's set (log entry 21). -/
theorem State.complete_of_stored {s : State} {l : Latched} {r : ReckRecord} (h : s.completing = some (l, r))
    (ord : List CompletionTask) :
    s.complete ord = ((s.stored r).completionWork ord l r).releaseRead.beginFromSlot := by
  obtain ⟨hflight, -⟩ := State.completing_flight h
  simp only [State.complete, hflight, h]
  rfl

/-- The state that a discarded completion leaves to the waiting read: nothing in flight (R44). -/
def State.discarded (s : State) : State := { s with env := { s.env with inFlight := none } }

theorem State.complete_of_discarded {s : State} {l : Latched} (hflight : s.env.inFlight = some l)
    (h : s.completing = none) (ord : List CompletionTask) :
    s.complete ord = s.discarded.releaseRead.beginFromSlot := by
  simp only [State.complete, hflight, h]
  rfl

/-- Whatever a completion does, a read held until then finds the panel as it was. -/
theorem State.complete_released {s : State} (h : s.env.inFlight.isSome = true) (ord : List CompletionTask) :
    ∃ u : State, s.complete ord = u.releaseRead.beginFromSlot ∧ u.panel = s.panel := by
  obtain ⟨l, hflight⟩ := Option.isSome_iff_exists.mp h
  cases hcompleting : s.completing with
  | none => exact ⟨_, State.complete_of_discarded hflight hcompleting ord, rfl⟩
  | some x =>
    obtain ⟨l, r⟩ := x
    exact ⟨_, State.complete_of_stored hcompleting ord, State.completionWork_panel ord l r _⟩

/-- Settles O14: the command waits while a reckoning is in flight, and the completion answers it after its own work. -/
theorem heldReadIsAnsweredAtCompletion : Obligations.HeldReadIsAnsweredAtCompletion := by
  refine ⟨fun index s hfree hworking hflight => ?_, fun index ord s hflight hheld => ?_⟩
  · have htaken : exec (.read 2#8 0#8 index) s = .next (s.setProcess (some ⟨liveReckoningRead index, none⟩)) :=
      congrArg _ (State.panelArrive_held hfree hworking hflight index)
    exact ⟨_, htaken, rfl, s.setProcess_onlyChanges _⟩
  · obtain ⟨u, hcomplete, hpanel⟩ := State.complete_released hflight ord
    have hrecord : u.releaseRead.beginFromSlot.env.record = u.env.record := by
      simp [State.beginFromSlot_record]
    have hreleased : u.releaseRead.beginFromSlot.panel = u.releaseRead.panel := by simp
    refine ⟨s.complete ord, rfl, ?_⟩
    rw [hcomplete, hrecord, ← hpanel]
    exact hreleased.trans (State.releaseRead_held (hpanel ▸ hheld))

end Sys2Proof.Machine
end

section
/-! SUPPORT. Which moves leave the question whether a stage is open (R20, R41): every presentation, evaluation and part of
a sample set does. -/

namespace Sys2Proof.Machine

/-- A stage is open after the move exactly where one was open before it. -/
def OpenAlike (s t : State) : Prop := t.phase = .vacant ↔ s.phase = .vacant

theorem OpenAlike.of_phase {s t : State} (h : t.phase = s.phase) : OpenAlike s t := by rw [OpenAlike, h]

theorem OpenAlike.refl (s : State) : OpenAlike s s := .of_phase rfl

theorem OpenAlike.trans {a b c : State} (h : OpenAlike a b) (k : OpenAlike b c) : OpenAlike a c := Iff.trans k h

theorem OpenAlike.ite {s t u : State} {c : Prop} [Decidable c] (h : OpenAlike s t) (k : OpenAlike s u) :
    OpenAlike s (if c then t else u) := by
  split
  · exact h
  · exact k

/-- A move within an open stage. -/
theorem OpenAlike.of_open {s t : State} (hs : s.phase ≠ .vacant) (ht : t.phase ≠ .vacant) : OpenAlike s t :=
  ⟨fun h => absurd h ht, fun h => absurd h hs⟩

theorem State.changeSet_openAlike {s : State} (h : s.phase ≠ .vacant) (r : Restraints) : OpenAlike s (s.changeSet r) := by
  refine .of_open h ?_
  rcases State.changeSet_phase h r with hp | ⟨hp, -⟩ <;> simp [hp, h]

theorem State.arrive_openAlike (r : Restraints) (s : State) : OpenAlike s (s.arrive r) := by
  unfold State.arrive
  split
  · next h =>
    refine .of_open (by simp [h]) ?_
    rcases State.enterWaiting_moves (s := s.abandonTest) (by simp [State.abandonTest_phase, h]) r with hp | hp <;> simp [hp]
  · next h => exact .of_open (by simp [h]) (by simp [State.enterHolding_phase, h])
  · next h => exact State.changeSet_openAlike (by simp [h]) _
  · next h => exact State.changeSet_openAlike (by simp [h]) _
  · exact .refl s

theorem State.present_openAlike (kept : Conditions) (r : Restraints) (s : State) : OpenAlike s (s.present kept r) := by
  have hkeep : (s.keep kept).phase = s.phase := rfl
  have hkept : OpenAlike s (s.keep kept) := .of_phase hkeep
  unfold State.present
  simp only
  split
  · split
    · exact hkept
    · exact hkept.trans (State.arrive_openAlike _ _)
  · split
    · exact hkept
    · exact hkept.trans (State.arrive_openAlike _ _)
  · next h => exact hkept.trans (State.changeSet_openAlike (s := s.keep kept) (by simp [hkeep, h]) _)
  · next h => exact hkept.trans (State.changeSet_openAlike (s := s.keep kept) (by simp [hkeep, h]) _)
  · exact hkept

theorem State.presentSupply_openAlike (p : Bool) (s : State) : OpenAlike s (s.presentSupply p) := by
  unfold State.presentSupply
  split
  · exact .refl s
  · exact s.present_openAlike _ _

theorem State.evaluateOnce_openAlike (s : State) : OpenAlike s s.evaluateOnce := by
  cases hw : s.working with
  | false =>
    rw [State.evaluateOnce_of_idle hw]
    exact .refl s
  | true =>
    rw [State.evaluateOnce_eq hw]
    obtain ⟨hstep, -⟩ := s.formLimits_handed
    obtain ⟨hphase, -⟩ := hstep.standing
    exact (OpenAlike.of_phase hphase).trans (State.present_openAlike _ _ _)

theorem State.evaluate_openAlike (s : State) : OpenAlike s s.evaluate := by
  unfold State.evaluate
  simp only
  split
  · exact s.evaluateOnce_openAlike
  · exact s.evaluateOnce_openAlike.trans (State.evaluateOnce_openAlike _)

theorem OpenAlike.settled {s : State} {f : State → State} (h : OpenAlike s (f s)) : OpenAlike s (s.settled f) := by
  have hsettle (u : State) (p : Phase) : OpenAlike u (u.settle p) := by
    unfold State.settle
    split
    · exact .refl u
    · exact u.evaluate_openAlike
  exact h.trans (hsettle _ _)

theorem OpenAlike.evaluate {s t : State} (h : OpenAlike s t) : OpenAlike s t.evaluate := h.trans t.evaluate_openAlike

/-! ## The parts of a sample set -/

theorem OpenAlike.of_seq {s t : State} (h : t.seq = s.seq) : OpenAlike s t := .of_phase (State.phase_congr (by rw [h]))

theorem State.trip_openAlike (s : State) : OpenAlike s s.trip := by
  have hstopped : OpenAlike s (s.stopPump.report .overpressure (some (.channel .gauge))) := .of_seq (by simp)
  exact hstopped.trans (OpenAlike.settled (State.arrive_openAlike _ _))

theorem State.sampleConnection_openAlike (s : State) : OpenAlike s s.sampleConnection := by
  have hruns (c : Coordination) : OpenAlike s { s with coord := c } := .of_seq rfl
  have htold (c : Coordination) : OpenAlike s (State.evaluate (State.urgent { s with coord := c })) :=
    .evaluate (.of_seq (by simp))
  unfold State.sampleConnection
  exact .ite (.ite (hruns _) (.ite (htold _) (.ite (htold _) (.ite (hruns _) (hruns _))))) (.refl s)

theorem State.sampleUplift_openAlike (s : State) : OpenAlike s s.sampleUplift := by
  unfold State.sampleUplift
  refine .ite ?_ (.refl s)
  split
  · exact .refl s
  · exact .ite (.of_seq rfl) (.evaluate (.of_seq (by simp)))

theorem State.sampleHeader_openAlike (s : State) : OpenAlike s s.sampleHeader := by
  have hrun (n : Nat) : OpenAlike s { s with coord := { s.coord with headerRun := n } } := .of_seq rfl
  have hpresent (u : State) : OpenAlike u (u.settled (State.presentSupply true)) :=
    OpenAlike.settled (u.presentSupply_openAlike true)
  exact .ite (.ite ((hrun _).trans (hpresent _)) (hrun _)) (.refl s)

theorem State.offerSet_openAlike (set : SampleSet) (s : State) : OpenAlike s (s.offerSet set) := .of_seq (by simp)

theorem State.sampleTask_openAlike (set : SampleSet) (task : SampleTask) (p : State × Nat) :
    OpenAlike p.1 (State.sampleTask set task p).1 := by
  obtain ⟨s, stroke⟩ := p
  cases task with
  | trip =>
    simp only [State.sampleTask]
    split
    · exact s.trip_openAlike
    · exact .refl s
  | field => exact OpenAlike.settled (s.present_openAlike _ _)
  | counters => exact .of_phase (s.sampleCounters_phase _ _ _)
  | envelope => exact s.offerSet_openAlike set
  | confirm => exact .of_phase s.sampleConfirm_phase
  | uplift => exact s.sampleUplift_openAlike
  | connection => exact s.sampleConnection_openAlike
  | header => exact s.sampleHeader_openAlike

end Sys2Proof.Machine
end

section
/-! SUPPORT. A sample set around the part of the Envelope Unit (R13, R41 to R43): what the parts before it and after it
leave, and what it does with the set. -/

namespace Sys2Proof.Machine

/-! ## The other parts of a set -/

/-- What every part of a sample set but that of the Envelope Unit leaves: the Envelope Unit, whether a stage is open, and
the common frame. -/
def EnvelopeAside (s t : State) : Prop := t.env = s.env ∧ OpenAlike s t ∧ SamplePartFrame s t

theorem EnvelopeAside.refl (s : State) : EnvelopeAside s s := ⟨rfl, .refl s, .refl s⟩

theorem EnvelopeAside.trans {a b c : State} (h : EnvelopeAside a b) (k : EnvelopeAside b c) : EnvelopeAside a c := by
  obtain ⟨henv, hopen, hframe⟩ := h
  obtain ⟨kenv, kopen, kframe⟩ := k
  exact ⟨kenv.trans henv, hopen.trans kopen, hframe.trans kframe⟩

theorem State.sampleTask_envelopeAside {task : SampleTask} (h : task ≠ .envelope) (set : SampleSet) (p : State × Nat) :
    EnvelopeAside p.1 (State.sampleTask set task p).1 := by
  refine ⟨?_, State.sampleTask_openAlike set task p, State.sampleTask_frame set task p⟩
  obtain ⟨s, stroke⟩ := p
  cases task with
  | envelope => exact absurd rfl h
  | trip =>
    simp only [State.sampleTask]
    split <;> simp
  | field | counters | confirm | uplift | connection | header => simp [State.sampleTask, State.settled]

/-- R101 to R107: the Take Counters alone count. -/
theorem State.sampleTask_take {task : SampleTask} (h : task ≠ .counters) (set : SampleSet) (p : State × Nat) :
    (State.sampleTask set task p).1.take = p.1.take := by
  obtain ⟨s, stroke⟩ := p
  cases task with
  | counters => exact absurd rfl h
  | trip =>
    simp only [State.sampleTask]
    split <;> simp
  | field | envelope | confirm | uplift | connection | header => simp [State.sampleTask, State.settled]

/-- A part asked for with what it needs, other than that of the Envelope Unit, does not name it. -/
theorem envelope_not_needed {task : SampleTask} (h : task ≠ .envelope) :
    ∀ x ∈ taskNeeds task ++ [task], decide (x ≠ .envelope) = true := by
  cases task with
  | envelope => exact absurd rfl h
  | trip | field | counters | confirm | uplift | connection | header => decide

/-- R42: the Take Counters come before the Envelope Unit. -/
theorem counters_before_envelope (ord : List SampleTask) : .counters ∈ (sampleSchedule ord).takeWhile (· ≠ .envelope) := by
  have hwanted : .envelope ∈ ord ++ [.trip, .field, .counters, .envelope, .confirm, .uplift, .connection, .header] := by
    simp
  unfold sampleSchedule
  rw [takeWhile_firstOnly, mem_firstOnly]
  generalize ord ++ [.trip, .field, .counters, .envelope, .confirm, .uplift, .connection, .header] = wanted at hwanted
  induction wanted with
  | nil => cases hwanted
  | cons task rest ih =>
    rw [List.flatMap_cons]
    by_cases htask : task = .envelope
    · simp [htask, taskNeeds]
    · rw [List.takeWhile_append_of_pos (envelope_not_needed htask)]
      exact List.mem_append_right _ (ih ((List.mem_cons.mp hwanted).resolve_left (Ne.symm htask)))

/-- An order that names the Envelope Unit first has only the Take Counters before it. -/
theorem before_first_envelope {ord : List SampleTask} (h : ord.head? = some .envelope) :
    (sampleSchedule ord).takeWhile (· ≠ .envelope) = [.counters] := by
  obtain ⟨rest, rfl⟩ := List.head?_eq_some_iff.mp h
  simp [sampleSchedule, taskNeeds, firstOnly]

/-- The state that the Envelope Unit finds, with the S that the Take Counters would add. -/
def State.foundByEnvelope (set : SampleSet) (ord : List SampleTask) (stroke : Nat) (s : State) : State × Nat :=
  ((sampleSchedule ord).takeWhile (· ≠ .envelope)).foldl (fun p task => State.sampleTask set task p) (s, stroke)

theorem State.foundBy_envelope (inp : SampleInput) (ord : SampleOrder) (s : State) :
    s.foundBy .envelope inp ord = (s.judged inp ord).foundByEnvelope (s.judgedSet inp ord) ord.tasks s.reg.stroke := rfl

section
variable (set : SampleSet) (ord : List SampleTask) (stroke : Nat) (s : State)

theorem State.foundByEnvelope_aside : EnvelopeAside s (s.foundByEnvelope set ord stroke).1 :=
  List.foldlRecOn (motive := fun p : State × Nat => EnvelopeAside s p.1) _ _ (.refl s) fun p hp _ hx =>
    hp.trans (State.sampleTask_envelopeAside (ne_of_mem_takeWhile hx) set p)

/-- After the Envelope Unit no part touches its block or counts. -/
theorem State.sampleWork_envelope :
    EnvelopeAside ((s.foundByEnvelope set ord stroke).1.offerSet set) (s.sampleWork set ord stroke)
      ∧ (s.sampleWork set ord stroke).take = (s.foundByEnvelope set ord stroke).1.take := by
  obtain ⟨post, heq, hpost⟩ := eq_takeWhile_append_cons (mem_sampleSchedule .envelope ord) (nodup_sampleSchedule ord)
  have hdisjoint : ∀ x ∈ post, x ≠ .envelope ∧ x ≠ .counters := by
    intro x hx
    refine ⟨by rintro rfl; exact hpost hx, ?_⟩
    rintro rfl
    have hnodup := nodup_sampleSchedule ord
    rw [heq, List.nodup_append] at hnodup
    obtain ⟨-, -, hapart⟩ := hnodup
    exact hapart _ (counters_before_envelope ord) _ (List.mem_cons_of_mem _ hx) rfl
  have hwork : s.sampleWork set ord stroke
      = (post.foldl (fun p task => State.sampleTask set task p)
          (State.sampleTask set .envelope (s.foundByEnvelope set ord stroke))).1 := by
    unfold State.sampleWork State.foundByEnvelope
    rw [heq, List.foldl_append, List.foldl_cons, ← heq]
  have hoffer : (State.sampleTask set .envelope (s.foundByEnvelope set ord stroke)).1
      = (s.foundByEnvelope set ord stroke).1.offerSet set := rfl
  rw [hwork, ← hoffer]
  generalize State.sampleTask set .envelope _ = q at hoffer ⊢
  have htake : q.1.take = (s.foundByEnvelope set ord stroke).1.take := by simp [hoffer]
  rw [← htake]
  refine List.foldlRecOn (motive := fun p : State × Nat => EnvelopeAside q.1 p.1 ∧ p.1.take = q.1.take) _ _
    ⟨.refl _, rfl⟩ fun p ⟨hp, ht⟩ x hx => ?_
  obtain ⟨henvelope, hcounters⟩ := hdisjoint x hx
  exact ⟨hp.trans (State.sampleTask_envelopeAside henvelope set p), (State.sampleTask_take hcounters set p).trans ht⟩

end

/-! ## What the Envelope Unit does with a set (R41, R43) -/

theorem State.offerSet_of_vacant {s : State} (h : s.phase = .vacant) (set : SampleSet) : s.offerSet set = s := by
  simp [State.offerSet, State.isOpen, h]

/-- R43: a set that finds a reckoning in flight waits in the slot. -/
theorem State.offerSet_of_flight {s : State} {l : Latched} (hopen : s.phase ≠ .vacant) (h : s.env.inFlight = some l)
    (set : SampleSet) :
    (s.offerSet set).env = { s.env with
      slot := some set
      replaced := if s.env.slot.isSome then satSucc 65535 s.env.replaced else s.env.replaced } := by
  unfold State.offerSet
  cases hslot : s.env.slot <;> simp [State.isOpen, hopen, h, max16]

/-- R42: a reckoning begins on a set that finds none in flight. -/
theorem State.offerSet_begins {s : State} {st : StageRecord} (hopen : s.phase ≠ .vacant) (hst : s.seq.stage = some st)
    (h : s.env.inFlight = none) (set : SampleSet) :
    (s.offerSet set).env = { s.env with inFlight := some (s.latch set st) } := by
  simp [State.offerSet, State.isOpen, hopen, h, State.beginReckoning, hst]

theorem State.latch_from {s : State} {st : StageRecord} (hst : s.seq.stage = some st) (set : SampleSet) :
    LatchedFrom set s (s.latch set st) :=
  ⟨rfl, rfl, rfl, rfl, rfl, ⟨st, hst, rfl, rfl, rfl, rfl, rfl, rfl, rfl, rfl⟩, rfl, rfl, rfl, rfl, rfl, rfl, rfl, rfl,
    rfl, rfl⟩

/-! ## What the Take Counters leave to the reckoning -/

/-- R86, R101: of the stage record the Take Counters touch the mix history alone. -/
theorem State.sampleCounters_history (flow gauge stroke : Nat) (s : State) :
    ∃ f : StageRecord → List MixEntry,
      (s.sampleCounters flow gauge stroke).seq = (s.modStage fun st => { st with history := f st }).seq := by
  by_cases h : s.phase = .injecting ∨ s.phase = .holding
  · refine ⟨fun st => modNewest (fun x => { x with volume := raise32 x.volume ((s.take.remGrout + flow) / 600) })
      st.history, ?_⟩
    unfold State.sampleCounters
    simp only [h, if_true]
    (repeat' split) <;> simp [State.countGrout, State.modStage]
  · refine ⟨(·.history), ?_⟩
    unfold State.sampleCounters
    simp only [h, if_false]
    (repeat' split) <;> simp [State.modStage]

/-- Named first, the Envelope Unit finds what the Take Counters alone have left. -/
theorem State.foundByEnvelope_first {ord : List SampleTask} (h : ord.head? = some .envelope) (set : SampleSet)
    (stroke : Nat) (s : State) :
    (s.foundByEnvelope set ord stroke).1 = s.sampleCounters set.flow set.gauge stroke := by
  rw [State.foundByEnvelope, before_first_envelope h]
  rfl

/-- R42: what the Take Counters leave of the sources of a reckoning. -/
theorem State.sampleCounters_sources (flow gauge stroke : Nat) {s : State} {st st' : StageRecord}
    (hst : s.seq.stage = some st) (hst' : (s.sampleCounters flow gauge stroke).seq.stage = some st') :
    st'.phase = st.phase ∧ st'.currentMix = st.currentMix
      ∧ (s.sampleCounters flow gauge stroke).effective = s.effective
      ∧ (s.sampleCounters flow gauge stroke).seq.test = s.seq.test := by
  obtain ⟨f, hseq⟩ := s.sampleCounters_history flow gauge stroke
  rw [hseq, State.modStage_stage, hst] at hst'
  obtain rfl := Option.some.inj hst'
  refine ⟨rfl, rfl, by simp [State.effective], ?_⟩
  rw [hseq]
  rfl

/-- R13: the record of a set holds the values and the failures as judged. -/
theorem State.judgedSet_failed (inp : SampleInput) (ord : SampleOrder) (s : State) (ch : Channel) :
    (s.judgedSet inp ord).failed.get ch = (s.judged inp ord).failed ch := by
  cases ch <;> rfl

/-- Two records that OPEN fixed alike. -/
theorem StageRecord.fixed_of_asOpened {st st' : StageRecord} (h : st'.asOpened = st.asOpened) :
    st'.number = st.number ∧ st'.top = st.top ∧ st'.bottom = st.bottom ∧ st'.length = st.length
      ∧ st'.profile = st.profile := by
  have hfield {α : Type} (f : StageRecord → α) : f st'.asOpened = f st.asOpened := congrArg f h
  exact ⟨hfield (·.number), hfield (·.top), hfield (·.bottom), hfield (·.length), hfield (·.profile)⟩

/-- Settles O12: the parts before the Envelope Unit leave its block and the stage open, and what it latches is what they
leave; the parts after it leave the block and the counters. -/
theorem sampleSetBeginsOrWaits : Obligations.SampleSetBeginsOrWaits := by
  intro inp ord s hdue
  have hjudged := s.judged_onlyChanges inp ord
  obtain ⟨-, -, -, -, hlatest, -⟩ := s.judged_meas inp ord
  have hfailed := s.judgedSet_failed inp ord
  have hfirst (h : ord.tasks.head? = some .envelope) :=
    State.foundByEnvelope_first h (s.judgedSet inp ord) s.reg.stroke (s.judged inp ord)
  obtain ⟨hbefore, hopen, hframe⟩ := (s.judged inp ord).foundByEnvelope_aside (s.judgedSet inp ord) ord.tasks s.reg.stroke
  obtain ⟨⟨hafter, -, hframe'⟩, htake⟩ :=
    (s.judged inp ord).sampleWork_envelope (s.judgedSet inp ord) ord.tasks s.reg.stroke
  obtain ⟨-, hmeas, hconf⟩ := hframe.blocks
  obtain ⟨-, hmeas', -⟩ := hframe'.blocks
  obtain ⟨-, -, -, -, hopened, -⟩ := hframe
  have hseq : (s.judged inp ord).seq = s.seq := hjudged .seq (by simp)
  have hreg : (s.judged inp ord).reg = s.reg := hjudged .reg (by simp)
  have hcoord : (s.judged inp ord).coord = s.coord := hjudged .coord (by simp)
  have hsettings := hconf.trans (show (s.judged inp ord).conf = s.conf from hjudged .conf (by simp))
  rw [show (s.judged inp ord).env = s.env from hjudged .env (by simp)] at hbefore
  rw [OpenAlike, State.phase_congr (congrArg Sequencer.stage hseq)] at hopen
  rw [hseq] at hopened
  rw [State.foundBy_envelope]
  refine ⟨s.sampleSet inp ord, rfl, ?_⟩
  rw [State.sampleSet_eq hdue]
  generalize (s.judged inp ord).sampleWork (s.judgedSet inp ord) ord.tasks s.reg.stroke = t at *
  generalize ((s.judged inp ord).foundByEnvelope (s.judgedSet inp ord) ord.tasks s.reg.stroke).1 = u at *
  have hread : t.meas = (s.judged inp ord).meas := by simpa [hmeas] using hmeas'
  refine ⟨fun hvacant => ?_, fun hstage l hflight => ?_, fun hstage hnone => ?_⟩
  · rw [hafter, State.offerSet_of_vacant (hopen.mpr hvacant), hbefore]
  · rw [hafter, State.offerSet_of_flight (mt hopen.mp hstage) (hbefore ▸ hflight), hbefore, hread, hlatest]
  · have htag : u.conf.tag = s.conf.tag := by rw [hsettings]
    obtain ⟨st', hst', -⟩ := State.exists_stage_of_phase (mt hopen.mp hstage)
    refine ⟨u.latch (s.judgedSet inp ord) st', s.judgedSet inp ord, ?_, by rw [hread, hlatest],
      State.latch_from hst' _, rfl, (State.deliveredNat_congr hread _).symm, (State.deliveredNat_congr hread _).symm,
      (State.deliveredNat_congr hread _).symm, fun ch => (hfailed ch).trans (State.failed_congr hread ch).symm,
      by rw [htake]; rfl, rfl, fun st hst => ?_, congrArg Tag.hg htag, congrArg Tag.incl htag, congrArg Tag.lh htag,
      congrArg Tag.wv htag, congrArg Tag.cWater htag, congrArg Tag.gLim htag, fun hhead => ?_⟩
    · rw [hafter, State.offerSet_begins (mt hopen.mp hstage) hst' (hbefore ▸ hnone), hbefore]
    · obtain ⟨hnumber, htop, hbottom, hlength, hprofile⟩ :=
        StageRecord.fixed_of_asOpened (st := st) (st' := st') (by simpa [hst, hst'] using hopened)
      refine ⟨hnumber, htop, hbottom, hlength, ?_, fun hhead => ?_⟩
      · simp only [State.latch, State.profileAt, hprofile, hsettings]
      · rw [hfirst hhead] at hst'
        obtain ⟨hphase, hmix, -⟩ := State.sampleCounters_sources _ _ _ (hseq ▸ hst) hst'
        exact ⟨hphase, hmix⟩
    · obtain ⟨st, hst, -⟩ := State.exists_stage_of_phase hstage
      have hlatched := hfirst hhead
      subst hlatched
      obtain ⟨-, -, heffective, htest⟩ := State.sampleCounters_sources _ _ _ (hseq ▸ hst) hst'
      refine ⟨heffective.trans ?_, congrArg (Option.map TestState.pressure) (htest.trans (by rw [hseq]))⟩
      simp only [State.effective, hreg, hcoord]

end Sys2Proof.Machine
end

section
/-! SUPPORT. The parts of a stored completion (R45), one by one: what each leaves of the steps, of the allowance, of the
counters, of the stage as OPEN fixed it and of a pending request. -/

namespace Sys2Proof.Machine

/-! ## The order of the parts -/

theorem mem_completionSchedule (task : CompletionTask) (ord : List CompletionTask) :
    task ∈ completionSchedule ord := by
  rw [completionSchedule, mem_firstOnly]
  cases task <;> simp

theorem nodup_completionSchedule (ord : List CompletionTask) : (completionSchedule ord).Nodup := nodup_firstOnly _

section
variable {P : State → Prop} {ord : List CompletionTask} {l : Latched} {r : ReckRecord} {s : State}

/-- What holds before the parts, and what every part keeps, holds after them. -/
theorem State.completionWork_keeps_of (hs : P s) (hkeep : ∀ task u, P u → P (u.completeTask l r task)) :
    P (s.completionWork ord l r) :=
  List.foldlRecOn (motive := P) _ _ hs fun u hu task _ => hkeep task u hu

/-- What holds after the part that the order names first, and what the other parts keep, holds after the work. -/
theorem State.completionWork_first {task : CompletionTask} (hfirst : ord.head? = some task)
    (hs : P (s.completeTask l r task)) (hkeep : ∀ x, x ≠ task → ∀ u, P u → P (u.completeTask l r x)) :
    P (s.completionWork ord l r) := by
  obtain ⟨rest, hrest, hnot⟩ := firstOnly_of_head (m := [.regulator, .sequencer, .supply, .counters]) hfirst
  unfold State.completionWork completionSchedule
  rw [hrest, List.foldl_cons]
  refine List.foldlRecOn (motive := P) _ _ hs fun u hu x hx => hkeep x ?_ u hu
  rintro rfl
  exact hnot hx

/-- Parts among which one comes once: those before it, that one, and those after it. -/
theorem foldl_around {Q : State → Prop} {tasks : List CompletionTask} (hnodup : tasks.Nodup) {task : CompletionTask}
    (hmem : task ∈ tasks) (hs : P s)
    (hbefore : ∀ x ∈ tasks, x ≠ task → ∀ u, P u → P (u.completeTask l r x))
    (hpart : ∀ u, P u → Q (u.completeTask l r task))
    (hafter : ∀ x ∈ tasks, x ≠ task → ∀ u, Q u → Q (u.completeTask l r x)) :
    Q (tasks.foldl (fun s t => s.completeTask l r t) s) := by
  obtain ⟨post, heq, hpost⟩ := eq_takeWhile_append_cons hmem hnodup
  rw [heq, List.foldl_append, List.foldl_cons]
  refine List.foldlRecOn (motive := Q) _ _ (hpart _ ?_) fun u hu x hx => hafter x ?_ ?_ u hu
  · exact List.foldlRecOn (motive := P) _ _ hs
      fun u hu x hx => hbefore x ((List.takeWhile_sublist _).subset hx) (ne_of_mem_takeWhile hx) u hu
  · rw [heq]
    exact List.mem_append_right _ (List.mem_cons_of_mem _ hx)
  · rintro rfl
    exact hpost hx

/-- The same of a whole completion. -/
theorem State.completionWork_around {Q : State → Prop} (task : CompletionTask) (hs : P s)
    (hbefore : ∀ x, x ≠ task → ∀ u, P u → P (u.completeTask l r x))
    (hpart : ∀ u, P u → Q (u.completeTask l r task))
    (hafter : ∀ x, x ≠ task → ∀ u, Q u → Q (u.completeTask l r x)) : Q (s.completionWork ord l r) :=
  foldl_around (nodup_completionSchedule ord) (mem_completionSchedule task ord) hs (fun x _ => hbefore x) hpart
    fun x _ => hafter x

end

/-! ## The frame of a part that may move the phase -/

theorem PhaseFrame.reached {s t : State} (h : PhaseFrame s t) : t.reg.reached = s.reg.reached := by
  obtain ⟨-, -, hreached, -⟩ := h
  exact hreached

/-- From `s` to `t` the reached step, the allowance and what OPEN fixed stand, and a pending urgent request. -/
def StepAndShareStand (s t : State) : Prop :=
  t.reg.reached = s.reg.reached ∧ t.coord.allowance = s.coord.allowance
    ∧ t.seq.stage.map (·.asOpened) = s.seq.stage.map (·.asOpened) ∧ (s.link.urgent = true → t.link.urgent = true)

theorem StepAndShareStand.refl (s : State) : StepAndShareStand s s := ⟨rfl, rfl, rfl, id⟩

theorem StepAndShareStand.trans {a b c : State} (h : StepAndShareStand a b) (k : StepAndShareStand b c) :
    StepAndShareStand a c := by
  obtain ⟨hreached, hallowance, hopened, hmark⟩ := h
  obtain ⟨kreached, kallowance, kopened, kmark⟩ := k
  exact ⟨kreached.trans hreached, kallowance.trans hallowance, kopened.trans hopened, fun h => kmark (hmark h)⟩

theorem PhaseFrame.stepAndShare {s t : State} (h : PhaseFrame s t)
    (hmark : s.link.urgent = true → t.link.urgent = true) : StepAndShareStand s t :=
  ⟨h.reached, h.allowance, h.opened, hmark⟩

theorem StepAndShareStand.settled {s : State} {f : State → State} (h : StepAndShareStand s (f s)) :
    StepAndShareStand s (s.settled f) :=
  h.trans ((State.settle_phaseFrame s.phase (f s)).stepAndShare State.settle_mark)

/-! ## The Sequencer's part -/

theorem State.endTestStep_stands (x : TestState) (st : StageRecord) (s : State) :
    StepAndShareStand s (s.endTestStep x st) := by
  unfold State.endTestStep
  simp only
  split
  · exact ⟨rfl, rfl, rfl, id⟩
  · exact ((State.testCompleted_phaseFrame _ s).trans (State.enterWaiting_phaseFrame _ _)).stepAndShare
      fun h => State.enterWaiting_mark (s := s.testCompleted _) h

theorem State.completeTest_stands (q : Nat) (p : Int) (s : State) : StepAndShareStand s (s.completeTest q p) := by
  unfold State.completeTest
  split
  · simp only
    split
    · exact s.endTestStep_stands _ _
    · exact ⟨rfl, rfl, rfl, id⟩
  · exact .refl s

theorem State.closeStage_mark {s : State} (h : s.link.urgent = true) (o : Outcome) (c : Criteria) (r : ReckRecord) :
    (s.closeStage o c r).link.urgent = true := State.enterPhase_mark (s := s.modStage _) h

theorem State.completeInjecting_stands {s : State} (h : s.phase = .injecting) (r : ReckRecord) :
    StepAndShareStand s (s.completeInjecting r) := by
  obtain ⟨st, hst, -⟩ := State.exists_stage_of_phase (s := s) (by simp [h])
  have hchecks : StepAndShareStand s (s.injectingChecks r) := by
    obtain ⟨-, -, -, -, -, hopened, -⟩ := s.injectingChecks_phaseFrame hst r
    exact ⟨by simp, by simp, hopened, by simp⟩
  cases houtcome : ((s.injectingChecks r).criteriaHeld r).outcome with
  | none => rwa [State.completeInjecting_goes houtcome]
  | some o =>
    rw [State.completeInjecting_closes houtcome]
    exact hchecks.trans ((State.closeStage_phaseFrame _ _ _ _).stepAndShare fun h => State.closeStage_mark h _ _ _)

theorem State.completeSequencer_stands (q : Nat) (r : ReckRecord) (s : State) :
    StepAndShareStand s (s.completeSequencer q r) := by
  unfold State.completeSequencer
  split
  · exact s.completeTest_stands _ _
  · next h => exact State.completeInjecting_stands h r
  · exact .refl s

/-- R38: outside TESTING and INJECTING the Sequencer has no part in a completion. -/
theorem State.settled_completeSequencer_idle {s : State} (h : s.phase.pumping = false) (q : Nat) (r : ReckRecord) :
    s.settled (State.completeSequencer q r) = s := by
  have hidle : s.completeSequencer q r = s := by
    unfold State.completeSequencer
    cases hp : s.phase <;> simp [hp, Phase.pumping] at h ⊢
  rw [State.settled_of_still (by rw [hidle]), hidle]

/-- R94: an INJECTING stage is closed by the Sequencer's part, or goes on with its pump. -/
theorem State.settled_completeSequencer_injecting {s : State} (h : s.phase = .injecting) (q : Nat) (r : ReckRecord) :
    let t := s.settled (State.completeSequencer q r)
    t.phase = .closed ∨ (t.phase = .injecting ∧ t.reg = s.reg ∧ t.coord = s.coord ∧ t.conf = s.conf) := by
  have hpart : s.settled (State.completeSequencer q r) = s.settled (State.completeInjecting r) := by
    simp [State.settled, State.completeSequencer, h]
  obtain ⟨st, hst, hp⟩ := State.exists_stage_of_phase (s := s) (by simp [h])
  simp only [hpart]
  cases houtcome : ((s.injectingChecks r).criteriaHeld r).outcome with
  | none =>
    have hgoes := State.completeInjecting_goes houtcome
    have hphase := s.injectingChecks_phase r
    rw [State.settled_of_still (by rw [hgoes, hphase]), hgoes]
    exact .inr ⟨hphase.trans h, by simp, by simp, by simp⟩
  | some o =>
    obtain ⟨st', n, hchecks, hphase, -⟩ := State.injectingChecks_eq hst r
    obtain ⟨-, hclosed, -⟩ := State.completeInjecting_settled hst (hp.trans h) houtcome (st' := st')
      (by rw [hchecks]) hphase
    exact .inl (State.phase_of_stage hclosed)

/-! ## The Regulator's part -/

/-- R68: auto-advance touches the Sequencer by the recomputed step alone. -/
theorem State.advancePart_recomputed (q : Nat) (s : State) :
    StepRecomputed s { s with seq := (s.advancePart q).seq } := by
  unfold State.advancePart
  split
  · exact ⟨(State.recomputeStep_recomputed s.effective
      { s with reg := { s.reg with commanded := s.reg.commanded + 1 } }).1, .inl rfl⟩
  · exact ⟨.inl rfl, .inl rfl⟩

theorem State.advancePart_reg (q : Nat) (s : State) :
    (s.advancePart q).reg.reached = s.reg.reached ∧ (s.advancePart q).reg.stroke = s.reg.stroke := by
  unfold State.advancePart
  split
  · obtain ⟨hstroke, -, -, -, hreached⟩ := (State.recomputeStep_recomputed s.effective
      { s with reg := { s.reg with commanded := s.reg.commanded + 1 } }).pump
    exact ⟨hreached, hstroke⟩
  · exact ⟨rfl, rfl⟩

theorem State.completeRegulator_recomputed (q : Nat) (r : ReckRecord) (s : State) :
    StepRecomputed s { s with seq := (s.completeRegulator q r).seq } := by
  unfold State.completeRegulator
  split
  · obtain ⟨hseq, -⟩ := (s.arrivalPart r.pEff).advancePart_recomputed q
    have harrival : (s.arrivalPart r.pEff).seq = s.seq := by simp
    rw [harrival] at hseq
    exact ⟨hseq, .inl rfl⟩
  · exact ⟨.inl rfl, .inl rfl⟩
  · exact ⟨.inl rfl, .inl rfl⟩

theorem State.completeRegulator_phase (q : Nat) (r : ReckRecord) (s : State) :
    (s.completeRegulator q r).phase = s.phase := by
  obtain ⟨hphase, -⟩ := (s.completeRegulator_recomputed q r).standing
  exact hphase

theorem State.reachStep_mark {s : State} (h : s.link.urgent = true) : s.reachStep.link.urgent = true :=
  State.urgent_mark (s := { s with reg := _ }) h

theorem State.arrivalPart_mark {s : State} (h : s.link.urgent = true) (p : Int) :
    (s.arrivalPart p).link.urgent = true := by
  unfold State.arrivalPart
  split
  · exact State.reachStep_mark h
  · split
    · exact h
    · split
      · split
        · exact State.reachStep_mark h
        · exact h
      · exact h

/-- R70: at a completion the Regulator tells the link of a reached step alone. -/
theorem State.completeRegulator_link (q : Nat) (r : ReckRecord) (s : State) :
    (s.completeRegulator q r).link = if s.phase = .injecting then (s.arrivalPart r.pEff).link else s.link := by
  unfold State.completeRegulator
  cases hp : s.phase <;> simp

/-! ## The Coordination Unit's part -/

theorem State.formSupply_reg (s : State) :
    s.formSupply.reg.reached = s.reg.reached
      ∧ s.formSupply.reg.stroke
        = if s.phase = .injecting then min s.reg.stroke s.formSupply.injectingCap else s.reg.stroke := by
  have hphase (c : Coordination) : ({ s with coord := c } : State).phase = s.phase := rfl
  by_cases h : s.phase = .injecting <;>
    simp [State.formSupply, State.setAllowance, State.supplyRuns, State.formDemand, State.injectingCap, hphase, h]

theorem State.formSupply_phase (s : State) : s.formSupply.phase = s.phase := State.phase_congr (by simp)

/-- R165, R166: the allowance that a supply evaluation forms. -/
theorem State.formSupply_allowance (s : State) : s.formSupply.coord.allowance = s.formDemand.allowanceNow := by
  unfold State.formSupply State.setAllowance State.supplyRuns
  simp only
  split <;> rfl

theorem State.judgeSupply_phaseFrame (n : Nat) (s : State) : PhaseFrame s (s.judgeSupply n) := by
  unfold State.judgeSupply
  split
  · exact .settled (s.presentSupply_phaseFrame true)
  · split
    · exact .settled (s.presentSupply_phaseFrame false)
    · exact .refl s

theorem State.judgeSupply_mark {s : State} (h : s.link.urgent = true) (n : Nat) :
    (s.judgeSupply n).link.urgent = true := by
  unfold State.judgeSupply
  split
  · exact State.settle_mark (State.presentSupply_mark h)
  · split
    · exact State.settle_mark (State.presentSupply_mark h)
    · exact h

/-! ## Each part's frame -/

theorem State.completeTask_sequencer (l : Latched) (r : ReckRecord) (s : State) :
    StepAndShareStand s (s.completeTask l r .sequencer) := (s.completeSequencer_stands _ _).settled

theorem State.completeTask_counters (l : Latched) (r : ReckRecord) (s : State) :
    (s.completeTask l r .counters).seq = s.seq ∧ (s.completeTask l r .counters).reg = s.reg
      ∧ (s.completeTask l r .counters).coord = s.coord ∧ (s.completeTask l r .counters).link = s.link := by
  simp [State.completeTask]

theorem State.completeTask_opened (l : Latched) (r : ReckRecord) (task : CompletionTask) (s : State) :
    (s.completeTask l r task).seq.stage.map (·.asOpened) = s.seq.stage.map (·.asOpened) := by
  cases task with
  | regulator =>
    obtain ⟨-, -, hopened, -⟩ := (s.completeRegulator_recomputed l.flow r).standing
    exact hopened
  | sequencer =>
    obtain ⟨-, -, hopened, -⟩ := s.completeTask_sequencer l r
    exact hopened
  | supply =>
    simp only [State.completeTask, State.supplyEvaluation]
    split
    · exact (State.judgeSupply_phaseFrame _ _).opened.trans (by simp)
    · rfl
  | counters => rw [(s.completeTask_counters l r).1]

theorem State.completeTask_mark {s : State} (h : s.link.urgent = true) (l : Latched) (r : ReckRecord)
    (task : CompletionTask) : (s.completeTask l r task).link.urgent = true := by
  cases task with
  | regulator =>
    simp only [State.completeTask, State.completeRegulator_link]
    split
    · exact State.arrivalPart_mark h _
    · exact h
  | sequencer =>
    obtain ⟨-, -, -, hmark⟩ := s.completeTask_sequencer l r
    exact hmark h
  | supply =>
    simp only [State.completeTask, State.supplyEvaluation]
    split
    · exact State.judgeSupply_mark (by simpa using h) _
    · exact h
  | counters => simpa [State.completeTask] using h

/-- R66, R67: the Regulator alone takes the reached step on. -/
theorem State.completeTask_reached {task : CompletionTask} (h : task ≠ .regulator) (l : Latched) (r : ReckRecord)
    (s : State) : (s.completeTask l r task).reg.reached = s.reg.reached := by
  cases task with
  | regulator => exact absurd rfl h
  | sequencer => exact (s.completeTask_sequencer l r).1
  | supply =>
    simp only [State.completeTask, State.supplyEvaluation]
    split
    · exact (State.judgeSupply_phaseFrame _ _).reached.trans s.formSupply_reg.1
    · rfl
  | counters => simp [State.completeTask]

/-- R165: the Coordination Unit alone forms the allowance. -/
theorem State.completeTask_allowance {task : CompletionTask} (h : task ≠ .supply) (l : Latched) (r : ReckRecord)
    (s : State) : (s.completeTask l r task).coord.allowance = s.coord.allowance := by
  cases task with
  | supply => exact absurd rfl h
  | sequencer =>
    obtain ⟨-, hallowance, -⟩ := s.completeTask_sequencer l r
    exact hallowance
  | regulator | counters => simp [State.completeTask]

/-- R105, R107: the Take Counters alone count. -/
theorem State.completeTask_take {task : CompletionTask} (h : task ≠ .counters) (l : Latched) (r : ReckRecord)
    (s : State) : (s.completeTask l r task).take = s.take := by
  cases task with
  | counters => exact absurd rfl h
  | regulator | sequencer | supply => simp [State.completeTask, State.settled]

end Sys2Proof.Machine
end

section
/-! SUPPORT. What the other parts of a completion leave of a stage that stays in TESTING, and of the stroke command of a
stage that stays in INJECTING (R70 to R72, R81). -/

namespace Sys2Proof.Machine

/-! ## A stage that is found in TESTING afterwards -/

/-- No move but the entry from PACKED (R80) leads into TESTING, so a stage found in it afterwards was in it before; and
then `f` reads the same. -/
def TestingKeeps {α : Type} (f : State → α) (s t : State) : Prop :=
  t.phase = .testing → s.phase = .testing ∧ f t = f s

/-- S and the test state. -/
def State.trial (s : State) : Nat × Option TestState := (s.reg.stroke, s.seq.test)

section
variable {α : Type} {f : State → α} {s t u : State}

theorem TestingKeeps.refl (f : State → α) (s : State) : TestingKeeps f s s := fun h => ⟨h, rfl⟩

theorem TestingKeeps.trans (h : TestingKeeps f s t) (k : TestingKeeps f t u) : TestingKeeps f s u := by
  intro hp
  obtain ⟨htesting, hkept⟩ := k hp
  obtain ⟨hfound, hkept'⟩ := h htesting
  exact ⟨hfound, hkept.trans hkept'⟩

theorem TestingKeeps.of_same (hphase : t.phase = s.phase) (h : f t = f s) : TestingKeeps f s t :=
  fun hp => ⟨hphase.symm.trans hp, h⟩

theorem TestingKeeps.of_not (h : t.phase ≠ .testing) : TestingKeeps f s t := fun hp => absurd hp h

theorem TestingKeeps.map {β : Type} (h : TestingKeeps f s t) (g : α → β) : TestingKeeps (fun s => g (f s)) s t := by
  intro hp
  obtain ⟨hfound, hkept⟩ := h hp
  exact ⟨hfound, congrArg g hkept⟩

theorem TestingKeeps.stroke (h : TestingKeeps State.trial s t) : TestingKeeps (·.reg.stroke) s t := h.map Prod.fst

theorem TestingKeeps.test (h : TestingKeeps State.trial s t) : TestingKeeps (·.seq.test) s t := h.map Prod.snd

end

theorem State.present_testingKeeps (kept : Conditions) (r : Restraints) (s : State) :
    TestingKeeps State.trial s (s.present kept r) := by
  have hkeep : (s.keep kept).phase = s.phase := rfl
  have hpumping (hp : s.phase.pumping = true) (hr : r.isEmpty = true) :
      TestingKeeps State.trial s (s.present kept r) := by
    rw [State.present_of_none hp hr]
    exact .of_same rfl rfl
  have hrestrained (hp : s.phase.restrained = true) : TestingKeeps State.trial s (s.present kept r) := by
    rw [State.present_restrained hp]
    refine .of_not ?_
    rcases State.changeSet_phase (s := s.keep kept) (Phase.ne_vacant_of_restrained hp)
      (s.restraints.latched.union kept.toRestraints) with h | ⟨h, -⟩
    · rcases Phase.restrained_iff.mp hp with hp | hp <;> simp [h, hkeep, hp]
    · simp [h]
  have hstill (hp : s.phase.pumping = false) (hr : s.phase.restrained = false) :
      TestingKeeps State.trial s (s.present kept r) := by
    rw [State.present_of_still hp hr]
    exact .of_same rfl rfl
  cases hp : s.phase with
  | testing =>
    cases hr : r.isEmpty with
    | true => exact hpumping (by simp [hp, Phase.pumping]) hr
    | false =>
      rw [State.present_testing hp hr]
      refine .of_not ?_
      rcases State.enterWaiting_moves (s := (s.keep kept).abandonTest)
        (by simp [State.abandonTest_phase, hkeep, hp]) r with h | h <;> simp [h]
  | injecting =>
    cases hr : r.isEmpty with
    | true => exact hpumping (by simp [hp, Phase.pumping]) hr
    | false =>
      rw [State.present_injecting hp hr]
      exact .of_not (by simp [State.enterHolding_phase (s := s.keep kept) (by simp [hkeep, hp])])
  | waiting | holding => exact hrestrained (by rw [hp]; rfl)
  | vacant | packed | closed => exact hstill (by rw [hp]; rfl) (by rw [hp]; rfl)

theorem State.presentSupply_testingKeeps (p : Bool) (s : State) : TestingKeeps State.trial s (s.presentSupply p) := by
  unfold State.presentSupply
  split
  · exact .refl _ s
  · exact s.present_testingKeeps _ _

theorem State.evaluateOnce_testingKeeps (s : State) : TestingKeeps State.trial s s.evaluateOnce := by
  cases hw : s.working with
  | false =>
    rw [State.evaluateOnce_of_idle hw]
    exact .refl _ s
  | true =>
    rw [State.evaluateOnce_eq hw]
    obtain ⟨hstep, -⟩ := s.formLimits_handed
    obtain ⟨hphase, -⟩ := hstep.standing
    obtain ⟨hstroke, -⟩ := hstep.pump
    have htest : s.formDemand.formLimits.seq.test = s.seq.test := by
      obtain ⟨h | h, -⟩ := hstep <;> rw [h]
    exact TestingKeeps.trans (.of_same hphase (by rw [State.trial, hstroke, htest]; rfl))
      (State.present_testingKeeps _ _ _)

theorem State.evaluate_testingKeeps (s : State) : TestingKeeps State.trial s s.evaluate := by
  unfold State.evaluate
  simp only
  split
  · exact s.evaluateOnce_testingKeeps
  · exact s.evaluateOnce_testingKeeps.trans (State.evaluateOnce_testingKeeps _)

theorem State.settle_testingKeeps (p : Phase) (s : State) : TestingKeeps State.trial s (s.settle p) := by
  unfold State.settle
  split
  · exact .refl _ s
  · exact s.evaluate_testingKeeps

theorem State.judgeSupply_testingKeeps (n : Nat) (s : State) : TestingKeeps State.trial s (s.judgeSupply n) := by
  have hpresent (p : Bool) : TestingKeeps State.trial s (s.settled (State.presentSupply p)) :=
    (s.presentSupply_testingKeeps p).trans (State.settle_testingKeeps _ _)
  unfold State.judgeSupply
  split
  · exact hpresent true
  · split
    · exact hpresent false
    · exact .refl _ s

theorem State.formSupply_testingKeeps (s : State) : TestingKeeps State.trial s s.formSupply := by
  intro hp
  have htesting : s.phase = .testing := s.formSupply_phase.symm.trans hp
  obtain ⟨-, hstroke⟩ := s.formSupply_reg
  exact ⟨htesting, by simp [State.trial, hstroke, htesting]⟩

theorem State.completeTask_supply_testingKeeps (l : Latched) (r : ReckRecord) (s : State) :
    TestingKeeps State.trial s (s.completeTask l r .supply) := by
  simp only [State.completeTask, State.supplyEvaluation]
  split
  · exact s.formSupply_testingKeeps.trans (State.judgeSupply_testingKeeps _ _)
  · exact .refl _ s

theorem State.endTestStep_stroke {s : State} (h : s.phase = .testing) (x : TestState) (st : StageRecord) :
    TestingKeeps (·.reg.stroke) s (s.endTestStep x st) := by
  unfold State.endTestStep
  simp only
  split
  · exact .of_same rfl rfl
  · have hdone : (s.testCompleted (x.records ++ [x.stepRecord st.length])).phase = .testing :=
      (State.modStage_phase (by intro st; rfl) s).trans h
    refine .of_not ?_
    rcases State.enterWaiting_moves (s := s.testCompleted (x.records ++ [x.stepRecord st.length]))
      (by simp [hdone]) .none with hw | hw
    all_goals
      rw [State.testCompleted] at hw
      simp [hw]

/-- R81: the Sequencer leaves S while the test goes on. -/
theorem State.completeTask_sequencer_stroke (l : Latched) (r : ReckRecord) (s : State) :
    TestingKeeps (·.reg.stroke) s (s.completeTask l r .sequencer) := by
  cases hp : s.phase with
  | testing =>
    have hpart : TestingKeeps (·.reg.stroke) s (s.completeTest l.flow r.pEff) := by
      unfold State.completeTest
      split
      · simp only
        split
        · exact State.endTestStep_stroke hp _ _
        · exact .of_same rfl rfl
      · exact .refl _ s
    have htask : s.completeTask l r .sequencer = s.settled (State.completeTest l.flow r.pEff) := by
      simp [State.completeTask, State.settled, State.completeSequencer, hp]
    rw [htask]
    exact hpart.trans (State.settle_testingKeeps _ _).stroke
  | injecting =>
    refine .of_not ?_
    rcases State.settled_completeSequencer_injecting hp l.flow r with h | ⟨h, -⟩ <;> simp [State.completeTask, h]
  | vacant | packed | waiting | holding | closed =>
    rw [State.completeTask, State.settled_completeSequencer_idle (by rw [hp]; rfl)]
    exact .refl _ s

/-- R70: the Regulator leaves the test. -/
theorem State.completeTask_regulator_test (l : Latched) (r : ReckRecord) (s : State) :
    TestingKeeps (·.seq.test) s (s.completeTask l r .regulator) := by
  refine .of_same (s.completeRegulator_phase l.flow r) ?_
  obtain ⟨h | h, -⟩ := s.completeRegulator_recomputed l.flow r
  · exact congrArg Sequencer.test h
  · exact (congrArg Sequencer.test h).trans rfl

/-- While the stage stays in TESTING the Regulator alone moves S. -/
theorem State.completeTask_stroke {task : CompletionTask} (h : task ≠ .regulator) (l : Latched) (r : ReckRecord)
    (s : State) : TestingKeeps (·.reg.stroke) s (s.completeTask l r task) := by
  cases task with
  | regulator => exact absurd rfl h
  | sequencer => exact s.completeTask_sequencer_stroke l r
  | supply => exact (s.completeTask_supply_testingKeeps l r).stroke
  | counters =>
    obtain ⟨hseq, hreg, -⟩ := s.completeTask_counters l r
    exact .of_same (State.phase_congr (by rw [hseq])) (congrArg Regulator.stroke hreg)

/-- While the stage stays in TESTING the Sequencer alone counts its test. -/
theorem State.completeTask_test {task : CompletionTask} (h : task ≠ .sequencer) (l : Latched) (r : ReckRecord)
    (s : State) : TestingKeeps (·.seq.test) s (s.completeTask l r task) := by
  cases task with
  | sequencer => exact absurd rfl h
  | regulator => exact s.completeTask_regulator_test l r
  | supply => exact (s.completeTask_supply_testingKeeps l r).test
  | counters =>
    obtain ⟨hseq, -⟩ := s.completeTask_counters l r
    exact .of_same (State.phase_congr (by rw [hseq])) (congrArg Sequencer.test hseq)

/-! ## The stroke command of an INJECTING stage -/

theorem State.injectingCap_congr {s t : State} (hconf : t.conf = s.conf)
    (hallowance : t.coord.allowance = s.coord.allowance) : t.injectingCap = s.injectingCap := by
  simp only [State.injectingCap, hconf, hallowance]

/-- INJECTING with S at `m`, within the cap, or CLOSED: a stage on which SUPPLY has not been judged. -/
def State.RunsAt (m : Nat) (s : State) : Prop :=
  s.phase = .closed ∨ (s.phase = .injecting ∧ s.reg.stroke = m ∧ m ≤ s.injectingCap)

/-- INJECTING with S at `m` cut to the cap of R72, or HOLDING or CLOSED. -/
def State.CutFrom (m : Nat) (s : State) : Prop :=
  s.phase = .closed ∨ s.phase = .holding ∨ (s.phase = .injecting ∧ s.reg.stroke = min s.injectingCap m)

section
variable {m : Nat} {s t : State}

theorem State.RunsAt.cut (h : s.RunsAt m) : s.CutFrom m := by
  obtain hclosed | ⟨hp, hstroke, hcap⟩ := h
  · exact .inl hclosed
  · exact .inr (.inr ⟨hp, by rw [hstroke, Nat.min_eq_right hcap]⟩)

theorem State.RunsAt.carries (h : s.RunsAt m) (hphase : t.phase = s.phase) (hreg : t.reg = s.reg)
    (hcap : t.injectingCap = s.injectingCap) : t.RunsAt m := by
  rwa [State.RunsAt, hphase, hreg, hcap]

theorem State.CutFrom.carries (h : s.CutFrom m) (hphase : t.phase = s.phase) (hreg : t.reg = s.reg)
    (hcap : t.injectingCap = s.injectingCap) : t.CutFrom m := by
  rwa [State.CutFrom, hphase, hreg, hcap]

end

section
variable {m : Nat} {s : State}

/-- R38, R94: the Sequencer closes a stage or leaves its phase and its pump. -/
theorem State.completeTask_sequencer_moves (h : s.phase ≠ .testing) (l : Latched) (r : ReckRecord) :
    let t := s.completeTask l r .sequencer
    t.phase = .closed ∨ (t.phase = s.phase ∧ t.reg = s.reg ∧ t.injectingCap = s.injectingCap) := by
  cases hp : s.phase with
  | testing => exact absurd hp h
  | injecting =>
    obtain hclosed | ⟨hphase, hreg, hcoord, hconf⟩ := State.settled_completeSequencer_injecting hp l.flow r
    · exact .inl hclosed
    · exact .inr ⟨hphase, hreg, State.injectingCap_congr hconf (congrArg Coordination.allowance hcoord)⟩
  | vacant | packed | waiting | holding | closed =>
    have hidle : s.completeTask l r .sequencer = s :=
      State.settled_completeSequencer_idle (by rw [hp]; rfl) l.flow r
    exact .inr ⟨by rw [hidle, hp], by rw [hidle], by rw [hidle]⟩

/-- Outside TESTING the Sequencer and the Take Counters close a stage or leave its phase and its pump. -/
theorem State.completeTask_other_moves (h : s.phase ≠ .testing) {task : CompletionTask} (hregulator : task ≠ .regulator)
    (hsupply : task ≠ .supply) (l : Latched) (r : ReckRecord) :
    let t := s.completeTask l r task
    t.phase = .closed ∨ (t.phase = s.phase ∧ t.reg = s.reg ∧ t.injectingCap = s.injectingCap) := by
  cases task with
  | regulator => exact absurd rfl hregulator
  | supply => exact absurd rfl hsupply
  | sequencer => exact State.completeTask_sequencer_moves h l r
  | counters =>
    obtain ⟨hseq, hreg, hcoord, -⟩ := s.completeTask_counters l r
    exact .inr ⟨State.phase_congr (by rw [hseq]), hreg, State.injectingCap_congr (by simp) (by rw [hcoord])⟩

theorem State.RunsAt.other (h : s.RunsAt m) {task : CompletionTask} (hregulator : task ≠ .regulator)
    (hsupply : task ≠ .supply) (l : Latched) (r : ReckRecord) : (s.completeTask l r task).RunsAt m := by
  have hnot : s.phase ≠ .testing := by
    rcases h with h | ⟨h, -⟩ <;> simp [h]
  obtain hclosed | ⟨hphase, hreg, hcap⟩ := State.completeTask_other_moves hnot hregulator hsupply l r
  · exact .inl hclosed
  · exact h.carries hphase hreg hcap

theorem State.CutFrom.other (h : s.CutFrom m) {task : CompletionTask} (hregulator : task ≠ .regulator)
    (hsupply : task ≠ .supply) (l : Latched) (r : ReckRecord) : (s.completeTask l r task).CutFrom m := by
  have hnot : s.phase ≠ .testing := by
    rcases h with h | h | ⟨h, -⟩ <;> simp [h]
  obtain hclosed | ⟨hphase, hreg, hcap⟩ := State.completeTask_other_moves hnot hregulator hsupply l r
  · exact .inl hclosed
  · exact h.carries hphase hreg hcap

/-- R24, R27: SUPPLY present in INJECTING takes the stage into HOLDING, and the evaluation that this raises, with SUPPLY
kept, leaves it there. -/
theorem State.settled_presentSupply_holds (hw : s.working = true) (hp : s.phase = .injecting) :
    (s.settled (State.presentSupply true)).phase = .holding ∨ s.settled (State.presentSupply true) = s := by
  cases hkept : s.seq.kept.supply with
  | true =>
    have hsame : s.presentSupply true = s := by simp [State.presentSupply, hkept]
    exact .inr (by rw [State.settled_of_still (by rw [hsame]), hsame])
  | false =>
    have hkeep : (s.keep { s.seq.kept with supply := true }).phase = .injecting := hp
    have hpart : s.presentSupply true
        = (s.keep { s.seq.kept with supply := true }).enterHolding { Restraints.none with supply := true } := by
      rw [State.presentSupply, hkept, if_neg (by decide), State.present_injecting hp rfl]
    have hheld : (s.presentSupply true).phase = .holding := by
      rw [hpart, State.enterHolding_phase (by simp [hkeep])]
    have hsupply : (s.presentSupply true).seq.kept.supply = true := by
      rw [hpart, State.enterHolding_kept]
      rfl
    have hworks : (s.presentSupply true).working = true := (State.working_congr (by simp)).trans hw
    rw [State.settled_of_moved (by simp [hheld, hp])]
    generalize s.presentSupply true = u at *
    have hset : u.setAnew.isEmpty = false := by
      have hnew : u.keptAnew.toRestraints.isEmpty = false := by
        rw [← Bool.not_eq_true, Restraints.isEmpty_iff]
        intro h
        simpa [State.keptAnew, Conditions.toRestraints, hsupply, Restraints.none] using congrArg Restraints.supply h
      rw [State.setAnew, Restraints.union_isEmpty, hnew, Bool.and_false]
    obtain ⟨st, hst, hphase⟩ := State.exists_stage_of_phase (s := u) (by simp [hheld])
    left
    rcases (State.evaluate_restrained hworks (by rw [hheld]; rfl) hset).stage hst with h | h <;>
      simp [State.phase_of_stage h, hphase, hheld]

/-- R167: what a supply evaluation judges of an INJECTING stage holds it, or leaves its phase and its pump. -/
theorem State.judgeSupply_injecting (hw : s.working = true) (hp : s.phase = .injecting) (n : Nat) :
    (s.judgeSupply n).phase = .holding ∨ ((s.judgeSupply n).phase = .injecting ∧ (s.judgeSupply n).reg = s.reg) := by
  have habsent : (s.presentSupply false).phase = .injecting ∧ (s.presentSupply false).reg = s.reg := by
    unfold State.presentSupply
    split
    · exact ⟨hp, rfl⟩
    · rw [State.present_of_none (by rw [hp]; rfl) rfl]
      exact ⟨hp, rfl⟩
  unfold State.judgeSupply
  split
  · rcases State.settled_presentSupply_holds hw hp with h | h
    · exact .inl h
    · exact .inr (by rw [h]; exact ⟨hp, rfl⟩)
  · split
    · rw [State.settled_of_still (habsent.1.trans hp.symm)]
      exact .inr habsent
    · exact .inr ⟨hp, rfl⟩

/-- R34: a CLOSED stage that goes on is CLOSED. -/
theorem GoesOn.closed {t : State} (h : GoesOn s t) (hp : s.phase = .closed) : t.phase = .closed := by
  obtain ⟨st, hst, hphase⟩ := State.exists_stage_of_phase (s := s) (by simp [hp])
  obtain ⟨st', hst', ⟨hgoes, -⟩, -⟩ := h st hst (by simp [hphase, hp, Phase.begun])
  rw [State.phase_of_stage hst', hgoes (hphase.trans hp), hphase, hp]

/-- R72, R167: the Coordination Unit cuts S to the cap of the new allowance. -/
theorem State.RunsAt.supply (h : s.RunsAt m) (l : Latched) (r : ReckRecord) :
    (s.completeTask l r .supply).CutFrom m := by
  obtain hclosed | ⟨hp, hstroke, -⟩ := id h
  · exact .inl (s.supplyEvaluation_goesOn.closed hclosed)
  · simp only [State.completeTask, State.supplyEvaluation]
    split
    · next hopen =>
      have hw : s.formSupply.working = true :=
        (State.working_congr (by simp)).trans (Bool.and_eq_true _ _ ▸ hopen).1
      obtain ⟨-, hcut⟩ := s.formSupply_reg
      obtain hheld | ⟨hphase, hreg⟩ := State.judgeSupply_injecting hw (s.formSupply_phase.trans hp) s.coord.lowRun
      · exact .inr (.inl hheld)
      · have hcap : (s.formSupply.judgeSupply s.coord.lowRun).injectingCap = s.formSupply.injectingCap :=
          State.injectingCap_congr (by simp) (State.judgeSupply_phaseFrame _ _).allowance
        exact .inr (.inr ⟨hphase, by rw [hreg, hcap, hcut, if_pos hp, hstroke, Nat.min_comm]⟩)
    · exact h.cut

end

end Sys2Proof.Machine
end

section
/-! SUPPORT. RECKONING_COMPLETION, clause by clause: the part that the order names first, and what the work after it leaves
of what that part did (R43 to R45, R66 to R72, R81, R105, R107, R165). -/

namespace Sys2Proof.Machine

section
variable {ord : List CompletionTask} {l : Latched} {r : ReckRecord} {s : State}

/-! ## The whole work -/

theorem State.completionWork_onlyChanges :
    OnlyChanges [.seq, .reg, .take, .link, .coord] s (s.completionWork ord l r) := by
  refine State.completionWork_keeps_of (P := OnlyChanges [.seq, .reg, .take, .link, .coord] s) (.refl _ s)
    fun task u hu => hu.trans ?_
  intro b hb
  cases b <;> simp at hb <;> simp [sameBlock]

theorem State.completionWork_opened :
    (s.completionWork ord l r).seq.stage.map (·.asOpened) = s.seq.stage.map (·.asOpened) :=
  State.completionWork_keeps_of (P := fun u => u.seq.stage.map (·.asOpened) = s.seq.stage.map (·.asOpened)) rfl
    fun task u hu => (u.completeTask_opened l r task).trans hu

/-! ## The Take Counters (R105, R107) -/

/-- The second window with one reckoning gathered. -/
def Window.reckoned (w : Window) (flow : Nat) (pEff : Int) : Window :=
  { w with flowSum := w.flowSum + flow, pressSum := w.pressSum + pEff, count := w.count + 1 }

/-- The greatest effective pressure so far, with one more (R105). -/
def raisedPeak (peak : Option Int) (p : Int) : Int :=
  match peak with
  | some m => max m p
  | none => p

theorem State.completionCounters_take (flow : Nat) (pEff : Int) (s : State) :
    (s.completionCounters flow pEff).take.window = s.take.window.reckoned flow pEff
      ∧ (s.completionCounters flow pEff).take.live.peakP
        = if s.phase.pumping then some (raisedPeak s.take.live.peakP pEff) else s.take.live.peakP := by
  have hphase (x : TakeCounters) : ({ s with take := x } : State).phase = s.phase := rfl
  unfold State.completionCounters
  simp only [hphase]
  split
  · exact ⟨rfl, rfl⟩
  · exact ⟨rfl, rfl⟩

theorem State.completionWork_window :
    (s.completionWork ord l r).take.window = s.take.window.reckoned l.flow r.pEff := by
  refine State.completionWork_around (P := fun u => u.take = s.take)
    (Q := fun u => u.take.window = s.take.window.reckoned l.flow r.pEff) .counters rfl
    (fun x hx u hu => (State.completeTask_take hx l r u).trans hu) (fun u hu => ?_)
    fun x hx u hu => (congrArg TakeCounters.window (State.completeTask_take hx l r u)).trans hu
  obtain ⟨hwindow, -⟩ := u.completionCounters_take l.flow r.pEff
  exact hwindow.trans (by rw [hu])

theorem State.completionWork_peak (h : ord.head? = some .counters) :
    (s.completionWork ord l r).take.live.peakP
      = if s.phase = .testing ∨ s.phase = .injecting then some (raisedPeak s.take.live.peakP r.pEff)
        else s.take.live.peakP := by
  have hfirst : (s.completionWork ord l r).take = (s.completeTask l r .counters).take :=
    State.completionWork_first (P := fun u => u.take = (s.completeTask l r .counters).take) h rfl
      fun x hx u hu => (State.completeTask_take hx l r u).trans hu
  obtain ⟨-, hpeak⟩ := s.completionCounters_take l.flow r.pEff
  simp only [hfirst, ← Phase.pumping_iff]
  exact hpeak

/-! ## The reached step (R66, R67) -/

theorem State.reachStep_reached (s : State) : s.reachStep.reg.reached = s.effective := by simp [State.reachStep]

/-- R66: from below, the third agreement in a row reaches the step. -/
theorem State.arrivalPart_below (hp : s.phase = .injecting) (h : s.reg.reached < s.effective) (p : Int) :
    (s.arrivalPart p).reg.reached
      = if (s.conf.tag.rung s.effective : Int) - s.profile.tolp ≤ p ∧ 2 ≤ s.reg.arrivalRun then s.effective
        else s.reg.reached := by
  have harrives : s.arrives p = true
      ↔ (s.conf.tag.rung s.effective : Int) - s.profile.tolp ≤ p ∧ 2 ≤ s.reg.arrivalRun := by
    simp [State.arrives, State.agreesBelow, hp, h]
  unfold State.arrivalPart
  by_cases hagrees : s.arrives p = true
  · rw [if_pos hagrees, if_pos (harrives.mp hagrees), State.reachStep_reached]
  · rw [if_neg hagrees, if_neg (mt harrives.mpr hagrees), if_pos h]

theorem State.arrives_false (h : ¬ s.reg.reached < s.effective) (p : Int) : s.arrives p = false := by
  simp [State.arrives, h]

/-- R67: from above, the first agreement reaches the step. -/
theorem State.arrivalPart_above (h : s.effective < s.reg.reached) (p : Int) :
    (s.arrivalPart p).reg.reached
      = if p ≤ (s.conf.tag.rung s.effective : Int) + s.profile.tolp then s.effective else s.reg.reached := by
  have hnot : ¬ s.reg.reached < s.effective := by omega
  unfold State.arrivalPart
  simp only [State.arrives_false hnot, hnot, h, if_true, State.agreesAbove]
  by_cases hagrees : p ≤ (s.conf.tag.rung s.effective : Int) + s.profile.tolp <;>
    simp [hagrees, State.reachStep_reached]

theorem State.arrivalPart_there (h : s.reg.reached = s.effective) (p : Int) :
    (s.arrivalPart p).reg.reached = s.reg.reached := by
  simp [State.arrivalPart, State.arrives, h]

/-- R66, R67: a reached step is told to the link at once. -/
theorem State.arrivalPart_told (hw : s.working = true) (p : Int)
    (h : (s.arrivalPart p).reg.reached ≠ s.reg.reached) : (s.arrivalPart p).link.urgent = true := by
  have htold : s.reachStep.link.urgent = true := State.urgent_sets_mark hw
  unfold State.arrivalPart at h ⊢
  split
  · exact htold
  · split
    · simp_all
    · split
      · split
        · exact htold
        · simp_all
      · simp_all

/-! ## The stroke command (R70, R71) -/

theorem State.arrivalPart_stroke (p : Int) (s : State) : (s.arrivalPart p).reg.stroke = s.reg.stroke := by
  unfold State.arrivalPart
  (repeat' split) <;> simp [State.reachStep]

/-- R71: S as an update by this set-point moves it, before the cap. -/
def State.strokeMoved (gSet : Nat) (s : State) : Nat := ((s.reg.stroke : Int) + s.strokeChange gSet).toNat

theorem State.strokeUpdate_reg (gSet : Nat) (s : State) :
    (s.strokeUpdate gSet).reg = { s.reg with stroke := min s.strokeCap (s.strokeMoved gSet) } := rfl

theorem State.strokeMoved_congr {t : State} (hstroke : t.reg.stroke = s.reg.stroke) (hmeas : t.meas = s.meas)
    (hconf : t.conf = s.conf) (gSet : Nat) : t.strokeMoved gSet = s.strokeMoved gSet := by
  simp only [State.strokeMoved, State.strokeChange, hstroke, hconf, State.deliveredNat_congr hmeas]

/-- R70: the Regulator's part in INJECTING. -/
theorem State.completeRegulator_injecting (hp : s.phase = .injecting) (q : Nat) (r : ReckRecord) :
    (s.completeRegulator q r).reg.reached = (s.arrivalPart r.pEff).reg.reached
      ∧ (s.completeRegulator q r).reg.stroke = min s.injectingCap (s.strokeMoved r.gSet) := by
  have hpart : s.completeRegulator q r = ((s.arrivalPart r.pEff).advancePart q).strokeUpdate r.gSet := by
    simp only [State.completeRegulator, hp]
  obtain ⟨hreached, hstroke⟩ := (s.arrivalPart r.pEff).advancePart_reg q
  rw [State.arrivalPart_stroke] at hstroke
  have hphase : ((s.arrivalPart r.pEff).advancePart q).phase = .injecting := by
    rw [← hp, ← s.completeRegulator_phase q r, hpart]
    rfl
  have hcap : ((s.arrivalPart r.pEff).advancePart q).strokeCap = s.injectingCap := by
    rw [State.strokeCap, hphase, if_neg (by decide)]
    exact State.injectingCap_congr (by simp) (by simp)
  rw [hpart, State.strokeUpdate_reg, hcap, State.strokeMoved_congr hstroke (by simp) (by simp)]
  exact ⟨hreached, rfl⟩

/-- R70, R72: the Regulator's part in TESTING. -/
theorem State.completeRegulator_testing (hp : s.phase = .testing) (q : Nat) (r : ReckRecord) :
    (s.completeRegulator q r).reg.stroke = min s.conf.tag.sMax (s.strokeMoved r.gSet) := by
  simp [State.completeRegulator, hp, State.strokeUpdate_reg, State.strokeCap]

/-! ## An order that names the Regulator first -/

theorem State.completionWork_reached (h : ord.head? = some .regulator) (hp : s.phase = .injecting) :
    (s.completionWork ord l r).reg.reached = (s.arrivalPart r.pEff).reg.reached :=
  State.completionWork_first (P := fun u => u.reg.reached = (s.arrivalPart r.pEff).reg.reached) h
    (State.completeRegulator_injecting hp _ _).1 fun _ hx u hu => (State.completeTask_reached hx l r u).trans hu

theorem State.completionWork_told (h : ord.head? = some .regulator) (hp : s.phase = .injecting) (hw : s.working = true)
    (hmoved : (s.completionWork ord l r).reg.reached ≠ s.reg.reached) :
    (s.completionWork ord l r).link.urgent = true := by
  rw [State.completionWork_reached h hp] at hmoved
  refine State.completionWork_first (P := fun u => u.link.urgent = true) h ?_
    fun x _ u hu => State.completeTask_mark hu l r x
  rw [State.completeTask, State.completeRegulator_link, if_pos hp]
  exact State.arrivalPart_told hw _ hmoved

/-- R71, R72: where the phase stays, S moves by the change of R71 and then stays under the cap, however the other parts
follow. -/
theorem State.completionWork_injecting (h : ord.head? = some .regulator) (hp : s.phase = .injecting) :
    (s.completionWork ord l r).CutFrom (min s.injectingCap (s.strokeMoved r.gSet)) := by
  have hruns : (s.completeTask l r .regulator).RunsAt (min s.injectingCap (s.strokeMoved r.gSet)) := by
    have hcap : (s.completeTask l r .regulator).injectingCap = s.injectingCap :=
      State.injectingCap_congr (by simp) (State.completeTask_allowance (by decide) l r s)
    exact .inr ⟨(s.completeRegulator_phase _ _).trans hp, (State.completeRegulator_injecting hp _ _).2,
      hcap ▸ Nat.min_le_left _ _⟩
  obtain ⟨rest, hrest, hnot⟩ := firstOnly_of_head (m := [.regulator, .sequencer, .supply, .counters]) h
  have hschedule : completionSchedule ord = .regulator :: rest := hrest
  have hnodup := nodup_completionSchedule ord
  have hsupply := mem_completionSchedule .supply ord
  rw [hschedule] at hnodup hsupply
  have hother {x : CompletionTask} (hx : x ∈ rest) : x ≠ .regulator := by
    rintro rfl
    exact hnot hx
  rw [State.completionWork, hschedule, List.foldl_cons]
  exact foldl_around (List.nodup_cons.mp hnodup).2 (List.mem_of_ne_of_mem (by decide) hsupply) hruns
    (fun x hx hne u hu => hu.other (hother hx) hne l r) (fun u hu => hu.supply l r)
    fun x hx hne u hu => hu.other (hother hx) hne l r

theorem State.completionWork_testing (h : ord.head? = some .regulator) (hp : s.phase = .testing) :
    (s.completionWork ord l r).phase = .testing →
      (s.completionWork ord l r).reg.stroke = min s.conf.tag.sMax (s.strokeMoved r.gSet) := by
  have hkeeps : TestingKeeps (·.reg.stroke) (s.completeTask l r .regulator) (s.completionWork ord l r) :=
    State.completionWork_first (P := TestingKeeps (·.reg.stroke) (s.completeTask l r .regulator)) h (.refl _ _)
      fun _ hx u hu => hu.trans (State.completeTask_stroke hx l r u)
  intro htesting
  obtain ⟨-, hstroke⟩ := hkeeps htesting
  exact hstroke.trans (State.completeRegulator_testing hp _ _)

/-! ## An order that names the Sequencer or the Coordination Unit first -/

/-- R81: a completion that does not end the step is counted. -/
theorem State.completionWork_counted (h : ord.head? = some .sequencer) (hp : s.phase = .testing)
    (hstays : (s.completionWork ord l r).phase = .testing) {x : TestState} (htest : s.seq.test = some x)
    (hmore : x.count + 1 < 10 * s.conf.tag.tTest) :
    (s.completionWork ord l r).seq.test = some (x.counted s.conf.tag.tTest l.flow r.pEff) := by
  obtain ⟨st, hst, -⟩ := State.exists_stage_of_phase (s := s) (by simp [hp])
  have hpart : s.completeSequencer l.flow r
      = { s with seq := { s.seq with test := some (x.counted s.conf.tag.tTest l.flow r.pEff) } } := by
    have hends : x.ends s.conf.tag.tTest = false := by
      simp only [TestState.ends, decide_eq_false_iff_not]
      omega
    simp [State.completeSequencer, hp, State.completeTest, hst, htest, hends]
  have hfirst : s.completeTask l r .sequencer
      = { s with seq := { s.seq with test := some (x.counted s.conf.tag.tTest l.flow r.pEff) } } :=
    (State.settled_of_still (by rw [hpart]; rfl)).trans hpart
  have hkeeps : TestingKeeps (·.seq.test) (s.completeTask l r .sequencer) (s.completionWork ord l r) :=
    State.completionWork_first (P := TestingKeeps (·.seq.test) (s.completeTask l r .sequencer)) h (.refl _ _)
      fun _ hx u hu => hu.trans (State.completeTask_test hx l r u)
  obtain ⟨-, hcounted⟩ := hkeeps hstays
  exact hcounted.trans (by rw [hfirst])

/-- R165: the allowance that the supply evaluation has formed stands. -/
theorem State.completionWork_allowance (h : ord.head? = some .supply) (hw : s.working = true)
    (hopen : s.phase ≠ .vacant) :
    (s.completionWork ord l r).coord.allowance = s.formDemand.allowanceNow := by
  refine State.completionWork_first (P := fun u => u.coord.allowance = s.formDemand.allowanceNow) h ?_
    fun x hx u hu => (State.completeTask_allowance hx l r u).trans hu
  have hpart : s.completeTask l r .supply = s.formSupply.judgeSupply s.coord.lowRun := by
    simp [State.completeTask, State.supplyEvaluation, State.isOpen, hw, hopen]
  rw [hpart, (State.judgeSupply_phaseFrame _ _).allowance, State.formSupply_allowance]

/-! ## The end of a completion: the waiting read and the slot's set (R43, R46) -/

/-- A stage still open is one of the latched number. -/
theorem State.completing_of_number (hflight : s.env.inFlight = some l)
    (h : s.seq.stage.map (·.number) = some l.stageNumber) : s.completing = some (l, l.record s.env.replaced) := by
  obtain ⟨st, hst, hnumber⟩ := Option.map_eq_some_iff.mp h
  simp [State.completing, hflight, State.stillOpen, hst, hnumber]

theorem State.completing_of_other (hflight : s.env.inFlight = some l)
    (h : s.seq.stage.map (·.number) ≠ some l.stageNumber) : s.completing = none := by
  cases hst : s.seq.stage with
  | none => simp [State.completing, hflight, State.stillOpen, hst]
  | some st =>
    rw [hst] at h
    simpa [State.completing, hflight, State.stillOpen, hst] using h

theorem State.beginFromSlot_of_none (h : s.env.slot = none) : s.beginFromSlot = s := by
  simp [State.beginFromSlot, h]

theorem State.beginFromSlot_of_some {set : SampleSet} {st : StageRecord} (h : s.env.slot = some set)
    (hst : s.seq.stage = some st) :
    s.beginFromSlot = { s with env := { s.env with slot := none, inFlight := some (s.latch set st) } } := by
  simp only [State.beginFromSlot, h, State.beginReckoning, hst]
  rfl

theorem State.beginFromSlot_replaced (s : State) : s.beginFromSlot.env.replaced = s.env.replaced := by
  unfold State.beginFromSlot State.beginReckoning
  (repeat' split) <;> rfl

/-- R43: where a stage is open the slot's set is the reckoning in flight, from the sources as they stand. -/
theorem State.beginFromSlot_takes (hflight : s.env.inFlight = none) (hopen : s.seq.stage.isSome = true) :
    s.beginFromSlot.env.slot = none
      ∧ s.beginFromSlot.env.inFlight.map (·.sampleSeq) = s.env.slot.map (·.seq)
      ∧ ∀ set, s.env.slot = some set →
        ∃ next, s.beginFromSlot.env.inFlight = some next ∧ LatchedFrom set s.beginFromSlot next := by
  obtain ⟨st, hst⟩ := Option.isSome_iff_exists.mp hopen
  cases hslot : s.env.slot with
  | none =>
    rw [State.beginFromSlot_of_none hslot]
    exact ⟨hslot, by rw [hflight]; rfl, fun set hset => by cases hset⟩
  | some set =>
    rw [State.beginFromSlot_of_some hslot hst]
    refine ⟨rfl, rfl, fun set' hset => ?_⟩
    obtain rfl := Option.some.inj hset
    exact ⟨_, rfl, State.latch_from hst set⟩

theorem State.releaseRead_beginFromSlot_onlyChanges (s : State) :
    OnlyChanges [.env, .panel, .free] s s.releaseRead.beginFromSlot := by
  intro b hb
  cases b <;> simp at hb <;> simp [sameBlock]

/-- What acts after the work of a stored completion leaves the blocks that the work has touched. -/
theorem State.released_blocks (s : State) :
    s.releaseRead.beginFromSlot.seq = s.seq ∧ s.releaseRead.beginFromSlot.reg = s.reg
      ∧ s.releaseRead.beginFromSlot.take = s.take ∧ s.releaseRead.beginFromSlot.link = s.link
      ∧ s.releaseRead.beginFromSlot.coord = s.coord ∧ s.releaseRead.beginFromSlot.conf = s.conf := by
  simp

/-- A discarded completion: the record stands (R44). -/
theorem State.complete_discards (hflight : s.env.inFlight = some l)
    (h : s.seq.stage.map (·.number) ≠ some l.stageNumber) :
    (s.complete ord).env.record = s.env.record ∧ OnlyChanges [.env, .panel, .free] s (s.complete ord) := by
  rw [State.complete_of_discarded hflight (State.completing_of_other hflight h)]
  have hdiscarded : OnlyChanges [.env, .panel, .free] s s.discarded := by
    intro b hb
    cases b <;> simp at hb <;> rfl
  exact ⟨by simp [State.beginFromSlot_record, State.discarded],
    hdiscarded.trans (State.releaseRead_beginFromSlot_onlyChanges _)⟩

/-- A stored completion: its work on the state with the record stored, and then the blocks that the waiting read and
the slot's set leave (R43). -/
theorem State.complete_stores (hflight : s.env.inFlight = some l)
    (h : s.seq.stage.map (·.number) = some l.stageNumber) (ord : List CompletionTask) :
    ∃ w, w = (s.stored (l.record s.env.replaced)).completionWork ord l (l.record s.env.replaced)
      ∧ s.complete ord = w.releaseRead.beginFromSlot ∧ w.env = (s.stored (l.record s.env.replaced)).env
      ∧ w.seq.stage.isSome = true := by
  refine ⟨_, rfl, State.complete_of_stored (State.completing_of_number hflight h) ord,
    State.completionWork_onlyChanges .env (by simp), ?_⟩
  obtain ⟨st, hst, -⟩ := Option.map_eq_some_iff.mp h
  have hopened := congrArg Option.isSome
    (State.completionWork_opened (ord := ord) (l := l) (r := l.record s.env.replaced)
      (s := s.stored (l.record s.env.replaced)))
  simpa [State.stored, hst] using hopened

theorem State.complete_onlyChanges (ord : List CompletionTask) (s : State) :
    OnlyChanges [.env, .seq, .reg, .take, .link, .coord, .panel, .free] s (s.complete ord) := by
  cases hflight : s.env.inFlight with
  | none =>
    simp only [State.complete, hflight]
    exact .refl _ s
  | some l =>
    by_cases h : s.seq.stage.map (·.number) = some l.stageNumber
    · have hstored : OnlyChanges [.env] s (s.stored (l.record s.env.replaced)) := by
        intro b hb
        cases b <;> simp at hb <;> rfl
      obtain ⟨w, rfl, hcomplete, -⟩ := State.complete_stores hflight h ord
      rw [hcomplete]
      exact ((hstored.mono (by simp)).trans (State.completionWork_onlyChanges.mono (by simp))).trans
        ((State.releaseRead_beginFromSlot_onlyChanges _).mono (by simp))
    · obtain ⟨-, hchanges⟩ := State.complete_discards (ord := ord) hflight h
      exact hchanges.mono (by simp)

end

/-- Settles O13: the blocks' work on the stored record by the part named first and what the other parts leave of it; the
waiting read and the slot's set follow and touch neither the Sequencer nor the pump. -/
theorem completionStoresOrDiscards : Obligations.CompletionStoresOrDiscards := by
  intro ord s
  refine ⟨s.complete ord, rfl, fun hnone => ?_, fun l hflight hother => State.complete_discards hflight hother,
    fun l hflight hnumber => ?_, s.complete_onlyChanges ord⟩
  · simp only [State.complete, hnone]
  obtain ⟨w, hw, hcomplete, henv, hopen⟩ := State.complete_stores hflight hnumber ord
  obtain ⟨hseq, hreg, htake, hlink, hcoord, hconf⟩ := w.released_blocks
  have hread : w.releaseRead.env = w.env := by simp
  have hstage : w.releaseRead.seq.stage = w.seq.stage := by simp
  have hphase : w.releaseRead.beginFromSlot.phase = w.phase := State.phase_congr (by rw [hseq])
  obtain ⟨hslot, hset, hlatched⟩ := w.releaseRead.beginFromSlot_takes (by rw [hread, henv]; rfl) (by rw [hstage, hopen])
  rw [hread, henv] at hset hlatched
  intro r rung change moved
  rw [hcomplete]
  refine ⟨⟨?_, ?_, hslot, hset⟩, fun set hwaits _ => hlatched set hwaits, ?_, fun h => ?_, fun h hp => ?_,
    fun h hp htesting => ?_, fun x h hp htesting htest hmore => ?_, fun h hworks hstage => ?_⟩
  · rw [State.beginFromSlot_record, hread, henv]
    rfl
  · rw [State.beginFromSlot_replaced, hread, henv]
    rfl
  · rw [htake, hw]
    exact State.completionWork_window
  · rw [htake, hw]
    exact State.completionWork_peak h
  · have hreached : w.reg.reached = ((s.stored r).arrivalPart r.pEff).reg.reached := by
      rw [hw]
      exact State.completionWork_reached h hp
    rw [hreg, hlink, hphase, State.injectingCap_congr (s := w) hconf (by rw [hcoord])]
    refine ⟨fun hbelow => hreached.trans (State.arrivalPart_below (s := s.stored r) hp hbelow _),
      fun habove => hreached.trans (State.arrivalPart_above (s := s.stored r) habove _),
      fun hthere => hreached.trans (State.arrivalPart_there (s := s.stored r) hthere _), fun hmoved hworks => ?_,
      fun hinjecting => ?_⟩
    · rw [hw]
      rw [hw] at hmoved
      exact State.completionWork_told (s := s.stored r) h hp hworks hmoved
    · have hcut := State.completionWork_injecting (s := s.stored r) (l := l) (r := r) h hp
      rw [← hw, State.CutFrom, hinjecting] at hcut
      obtain hclosed | hheld | ⟨-, hstroke⟩ := hcut
      · cases hclosed
      · cases hheld
      · exact hstroke
  · rw [hreg, hw]
    rw [hphase, hw] at htesting
    exact State.completionWork_testing (s := s.stored r) h hp htesting
  · rw [hseq, hw]
    rw [hphase, hw] at htesting
    exact State.completionWork_counted (s := s.stored r) h hp htesting htest hmore
  · rw [hcoord, hw]
    exact State.completionWork_allowance (s := s.stored r) h hworks hstage

end Sys2Proof.Machine
end

section
/-! SUPPORT. The commanded, effective and reached steps: what a new commanded step brings, and the three rows that move a
step: REACHED_STEP_ARRIVAL, AUTO_ADVANCE and STEP (R64 to R66, R68, R96). -/

namespace Sys2Proof.Machine

/-! ## A new commanded step (R65, R96) -/

/-- R96: a stage that is not CLOSED has its refusal timer at 0. -/
theorem StageRecord.timerZeroed_open {st : StageRecord} (h : st.phase ≠ .closed) :
    st.timerZeroed = { st with refusalTimer := 0 } := by
  simp only [StageRecord.timerZeroed, h, if_false]

/-- R65: a commanded step that leaves e where it was changes nothing else. -/
theorem State.setCommanded_stays {s : State} {c : Nat} (h : min c s.coord.limit = s.effective) :
    s.setCommanded c = { s with reg := { s.reg with commanded := c } } := by
  exact if_pos h

/-- R65: a commanded step that moves e ends both runs. -/
theorem State.setCommanded_reg_of_moves {s : State} {c : Nat} (h : min c s.coord.limit ≠ s.effective) :
    (s.setCommanded c).reg = { s.reg with commanded := c, arrivalRun := 0, advanceCount := 0 } := by
  have hmoves : ¬ State.effective { s with reg := { s.reg with commanded := c } } = s.effective := h
  unfold State.setCommanded State.recomputeStep
  rw [if_neg hmoves]
  simp only
  split <;> simp

/-- R96: only a rise of e touches the Sequencer: it zeroes the refusal timer of a stage that is not CLOSED. -/
theorem State.setCommanded_seq {s : State} (hopen : s.phase ≠ .closed) (c : Nat) :
    (s.setCommanded c).seq
      = if s.effective < min c s.coord.limit then
          { s.seq with stage := s.seq.stage.map fun st => { st with refusalTimer := 0 } } else s.seq := by
  have hzeroed : s.seq.stage.map StageRecord.timerZeroed
      = s.seq.stage.map fun st => { st with refusalTimer := 0 } := by
    cases hst : s.seq.stage with
    | none => rfl
    | some st => simp [StageRecord.timerZeroed_open (State.phase_of_stage hst ▸ hopen)]
  by_cases hmoves : min c s.coord.limit = s.effective
  · rw [State.setCommanded_stays hmoves, hmoves, if_neg (Nat.lt_irrefl _)]
  · have hne : ¬ State.effective { s with reg := { s.reg with commanded := c } } = s.effective := hmoves
    unfold State.setCommanded State.recomputeStep
    rw [if_neg hne, ← hzeroed]
    exact apply_ite State.seq _ _ _

/-! ## REACHED_STEP_ARRIVAL (R66) -/

/-- R66: the row reaches the step when the completion in hand is the third that agrees. -/
theorem execReachedStepArrival_of_arrives {s : State} {l : Latched} {r : ReckRecord}
    (hcompleting : s.completing = some (l, r)) (harrives : s.arrives r.pEff = true) :
    exec .reachedStepArrival s = .next s.reachStep := by
  simp [exec, execReachedStepArrival, hcompleting, harrives]

theorem State.reachStep_reg (s : State) :
    s.reachStep.reg = { s.reg with reached := s.effective, arrivalRun := 0 } := by
  simp [State.reachStep]

/-- R66, R118: a reached step is an urgent request. -/
theorem State.reachStep_told {s : State} (h : s.working = true) : s.reachStep.link.urgent = true :=
  State.urgent_sets_mark h

theorem State.urgent_counters (s : State) : s.urgent.link.counters = s.link.counters := by
  obtain ⟨-, -, -, -, -, -, hlink, -⟩ := s.urgent_phaseFrame
  rw [hlink]

/-! ## AUTO_ADVANCE (R68) -/

/-- R68: the row advances when the completion in hand is the last that counts. -/
theorem execAutoAdvance_of_advances {s : State} {l : Latched} {r : ReckRecord}
    (hcompleting : s.completing = some (l, r)) (hadvances : s.advances l.flow = true) :
    exec .autoAdvance s = .next s.advanceStep := by
  simp [exec, execAutoAdvance, hcompleting, hadvances]

theorem State.advanceStep_seq (s : State) : s.advanceStep.seq = (s.setCommanded (s.reg.commanded + 1)).seq := rfl

/-- R65, R68: below the step limit the effective step rises with c, and both runs end. -/
theorem State.advanceStep_reg_of_rises {s : State} (heff : s.reg.commanded = s.effective)
    (h : s.reg.commanded < s.coord.limit) :
    s.advanceStep.reg = { s.reg with commanded := s.reg.commanded + 1, advanceCount := 0, arrivalRun := 0 } := by
  have hmoves : min (s.reg.commanded + 1) s.coord.limit ≠ s.effective := by omega
  simp only [State.advanceStep, State.setCommanded_reg_of_moves hmoves]

/-- R65, R68: at the step limit c alone rises, and the arrival run stands. -/
theorem State.advanceStep_reg_of_limited {s : State} (heff : s.reg.commanded = s.effective)
    (h : ¬ s.reg.commanded < s.coord.limit) :
    s.advanceStep.reg = { s.reg with commanded := s.reg.commanded + 1, advanceCount := 0 } := by
  have hstays : min (s.reg.commanded + 1) s.coord.limit = s.effective := by
    rw [State.effective] at heff ⊢
    omega
  simp only [State.advanceStep, State.setCommanded_stays hstays]

/-- Settles O17: each row acts, since its completion completes the run, and the step it writes is spelled out. -/
theorem stepsClimbAtCompletions : Obligations.StepsClimbAtCompletions := by
  refine ⟨fun s l r hcompleting hphase hbelow hagrees hrun => ?_,
    fun s l r st hcompleting hst hphase hauto hreached heff htop hflow hcount => ?_⟩
  · have harrives : s.arrives r.pEff = true := by
      simp [State.arrives, State.agreesBelow, hphase, hbelow, hagrees, hrun]
    refine ⟨_, execReachedStepArrival_of_arrives hcompleting harrives, s.reachStep_reg, State.reachStep_told,
      State.urgent_counters _, ?_⟩
    intro b hb
    cases b <;> simp [sameBlock] at hb ⊢
  · have hinjecting : s.phase = .injecting := (State.phase_of_stage hst).trans hphase
    have hadvances : s.advances l.flow = true := by
      simp [State.advances, State.mayAdvance, hinjecting, hst, hauto, hreached, ← heff, htop, hflow, hcount]
    have hseq := State.setCommanded_seq (s := s) (by simp [hinjecting]) (s.reg.commanded + 1)
    refine ⟨_, execAutoAdvance_of_advances hcompleting hadvances, ?_, ?_⟩
    · rw [s.advanceStep_seq, hseq, hst, ← heff]
      by_cases hlimit : s.reg.commanded < s.coord.limit
      · have hrises : s.reg.commanded < min (s.reg.commanded + 1) s.coord.limit := by omega
        rw [if_pos hlimit, if_pos hrises]
        exact ⟨State.advanceStep_reg_of_rises heff hlimit, rfl⟩
      · have hno : ¬ s.reg.commanded < min (s.reg.commanded + 1) s.coord.limit := by omega
        rw [if_neg hlimit, if_neg hno]
        exact ⟨State.advanceStep_reg_of_limited heff hlimit, rfl⟩
    · intro b hb
      cases b <;> simp [sameBlock] at hb ⊢

/-! ## STEP (R64) -/

/-- R64: a taken STEP ends both runs whether e moves or not. -/
theorem State.takeStep_reg (c : Nat) (s : State) :
    (s.takeStep c).reg = { s.reg with commanded := c, arrivalRun := 0, advanceCount := 0 } := by
  by_cases hmoves : min c s.coord.limit = s.effective
  · simp only [State.takeStep, State.setCommanded_stays hmoves]
  · simp only [State.takeStep, State.setCommanded_reg_of_moves hmoves]

theorem State.takeStep_seq (c : Nat) (s : State) : (s.takeStep c).seq = (s.setCommanded c).seq := rfl

theorem State.takeStep_effective (c : Nat) (s : State) : (s.takeStep c).effective = min c s.coord.limit := by
  have hcoord : (s.takeStep c).coord = s.coord := by simp [State.takeStep]
  rw [State.effective, State.takeStep_reg, hcoord]

theorem State.takeStep_onlyChanges (c : Nat) (s : State) : OnlyChanges [.reg, .seq, .panel] s (s.takeStep c) := by
  intro b hb
  cases b <;> simp [sameBlock, State.takeStep] at hb ⊢

/-- R64: STEP is a matter of PACKED, WAITING, INJECTING and HOLDING. -/
theorem State.doStep_refused {s : State} (n : Nat) (h : s.phase = .vacant ∨ s.phase = .testing ∨ s.phase = .closed) :
    s.perform (.stepTo n) = s.refuse .refusedState := by
  exact if_pos h

section

variable {s : State} (hvacant : s.phase ≠ .vacant) (htesting : s.phase ≠ .testing) (hclosed : s.phase ≠ .closed)

include hvacant htesting hclosed

/-- R64: in those phases a step outside 1 to 8 is no step. -/
theorem State.doStep_badArg {n : Nat} (hn : n = 0 ∨ 8 < n) : s.perform (.stepTo n) = s.refuse .badArg := by
  simp only [State.perform, State.doStep, hvacant, htesting, hclosed, hn, or_self, if_false, if_true]

/-- R64: a step of the ladder is clamped to T and taken. -/
theorem State.doStep_taken {n : Nat} (hlow : 1 ≤ n) (hhigh : n ≤ 8) :
    s.perform (.stepTo n)
      = ⟨s.takeStep (min n s.profile.top), if s.profile.top < n then .okClamped else .ok,
          [byte (min n s.profile.top), byte (min (min n s.profile.top) s.coord.limit)]⟩ := by
  have hstep : ¬ (n = 0 ∨ 8 < n) := by omega
  simp only [State.perform, State.doStep, hvacant, htesting, hclosed, hstep, or_self, if_false, State.takeStep_reg,
    State.takeStep_effective]

end

/-- Settles O43, by the three answers of the Regulator. -/
theorem stepIsTakenOrRefused : Obligations.StepIsTakenOrRefused := by
  intro s n h
  have htaken : (PanelCmd.stepTo n.toNat).Taken s := PanelCmd.taken_of_operator h rfl rfl
  refine ⟨fun hphase => ?_, fun hvacant htesting hclosed hn => ?_, fun hvacant htesting hclosed hlow hhigh => ?_⟩
  · exact refusedWith_of_refuse rfl h htaken (State.doStep_refused _ hphase)
  · have hn' : n.toNat = 0 ∨ 8 < n.toNat := hn.imp_left (by rintro rfl; rfl)
    exact refusedWith_of_refuse rfl h htaken (State.doStep_badArg hvacant htesting hclosed hn')
  · refine ⟨_, exec_answered rfl h htaken (State.doStep_taken hvacant htesting hclosed hlow hhigh), ?_,
      State.takeStep_reg _ s, State.takeStep_effective _ s, State.setCommanded_seq hclosed _,
      (s.takeStep_onlyChanges _).trans ((State.setProcess_onlyChanges _ _).mono (by simp))⟩
    simp [Answered, State.setProcess, State.takeStep]

end Sys2Proof.Machine
end

section
/-! SUPPORT. MIX_CONFIRM: the tenth agreeing sample (R76, R88, R89). -/

namespace Sys2Proof.Machine

/-- R88: DENSITY VALID and within tol_rho on either side agrees with the mix. -/
theorem State.densityAgrees_of_within {s : State} {m : Nat} {x : Mix} (hmix : s.conf.tag.mix? m = some x)
    (hvalid : s.failed .density = false) (hhigh : s.deliveredNat .density ≤ x.density + s.conf.tag.tolRho)
    (hlow : x.density ≤ s.deliveredNat .density + s.conf.tag.tolRho) : s.densityAgrees m = true := by
  have hwithin : absDiff (s.deliveredNat .density) x.density ≤ s.conf.tag.tolRho := by
    unfold absDiff
    omega
  simp [State.densityAgrees, hmix, hvalid, hwithin]

/-- R88: the mix that a stage in INJECTING is confirming is its pending one. -/
theorem State.confirming_of_pending {s : State} {st : StageRecord} {p : MixPending} (hst : s.seq.stage = some st)
    (hphase : st.phase = .injecting) (hpending : st.pendingMix = some p) : s.confirming = some p.mix := by
  simp [State.confirming, State.phase_of_stage hst, hphase, hst, hpending]

/-- R89: the row confirms the mix at the sample that brings the run to 10. -/
theorem execMixConfirm_of_agrees {s : State} {m : Nat} (hconfirming : s.confirming = some m)
    (hagrees : s.densityAgrees m = true) (hrun : 10 ≤ s.seq.confirmRun + 1) :
    exec .mixConfirm s = .next (s.confirmMix m) := by
  simp [exec, execMixConfirm, hconfirming, hagrees, hrun]

/-- R86: the newest entry is the last of the history. -/
theorem modNewest_append (f : MixEntry → MixEntry) (older : List MixEntry) (newest : MixEntry) :
    modNewest f (older ++ [newest]) = older ++ [f newest] := by
  induction older with
  | nil => rfl
  | cons x rest ih =>
    cases rest with
    | nil => rfl
    | cons y rest => exact congrArg (x :: ·) ih

/-! ## The pending mix made current (R89, R90) -/

theorem State.makeCurrent_seq (m : Nat) (s : State) :
    (s.makeCurrent m).seq = { s.seq with
      stage := s.seq.stage.map fun st => { st with currentMix := some m, pendingMix := none }
      confirmRun := 0, basePressure := none } := by
  unfold State.makeCurrent
  simp only
  split <;> simp [State.modStage]

/-- R89, R118: another index than the current one is an urgent request. -/
theorem State.makeCurrent_told {m : Nat} {s : State} (hworking : s.working = true) (hchanges : s.currentMix ≠ some m) :
    (s.makeCurrent m).link.urgent = true := by
  unfold State.makeCurrent
  simp only [hchanges, ne_eq, not_false_eq_true, if_true]
  exact State.urgent_sets_mark hworking

/-- R89: the index that is current already is not told. -/
theorem State.makeCurrent_untold {m : Nat} {s : State} (hsame : s.currentMix = some m) :
    (s.makeCurrent m).link = s.link := by
  unfold State.makeCurrent
  simp [hsame]

theorem State.makeCurrent_mixRequest {m : Nat} {s : State} (h : s.seq.stage.isSome = true) :
    (s.makeCurrent m).mixRequest = some m := by
  obtain ⟨st, hst⟩ := Option.isSome_iff_exists.mp h
  simp [State.mixRequest, State.makeCurrent_stage, hst]

/-! ## The confirmation (R89) -/

/-- R89: the newest history entry marked as confirmed. -/
def StageRecord.confirmNewest (st : StageRecord) : StageRecord :=
  { st with history := modNewest (fun x => { x with confirmed := true }) st.history }

theorem State.confirmMix_eq (m : Nat) (s : State) :
    s.confirmMix m = (s.modStage StageRecord.confirmNewest).makeCurrent m := rfl

theorem State.confirmNewest_currentMix {s : State} {st : StageRecord} (hst : s.seq.stage = some st) :
    (s.modStage StageRecord.confirmNewest).currentMix = st.currentMix := by
  simp [State.currentMix, State.modStage_stage, hst, StageRecord.confirmNewest]

theorem State.confirmMix_onlyChanges (m : Nat) (s : State) : OnlyChanges [.seq, .link] s (s.confirmMix m) := by
  intro b hb
  cases b <;> simp [sameBlock] at hb ⊢

/-- Settles O20: the tenth sample confirms, and the pending mix is made current. -/
theorem mixConfirmMakesCurrent : Obligations.MixConfirmMakesCurrent := by
  intro s st p x older newest hst hphase hpending hmix hhistory hvalid hhigh hlow hrun
  have hcurrent := State.confirmNewest_currentMix hst
  refine ⟨_, execMixConfirm_of_agrees (State.confirming_of_pending hst hphase hpending)
    (State.densityAgrees_of_within hmix hvalid hhigh hlow) (by omega), ?_, ?_, fun hworking hchanges => ?_,
    fun hsame => ?_, s.confirmMix_onlyChanges _⟩
  · simp [State.confirmMix_eq, State.makeCurrent_seq, State.modStage, hst, StageRecord.confirmNewest, hhistory,
      modNewest_append]
  · exact State.makeCurrent_mixRequest (by simp [State.modStage, hst])
  · rw [State.confirmMix_eq]
    exact State.makeCurrent_told hworking (by rwa [hcurrent])
  · rw [State.confirmMix_eq]
    exact State.makeCurrent_untold (hcurrent.trans hsame)

end Sys2Proof.Machine
end

section
/-! SUPPORT. The start mix, the refusal timer and MIX (R85, R93, R95). -/

namespace Sys2Proof.Machine

/-! ## The refusal timer (R95) -/

section
variable {goal : Nat} {r : ReckRecord} {st : StageRecord}

theorem refusalAfter_of_pending (h : st.pendingMix.isSome = true) : refusalAfter goal r st = st.refusalTimer :=
  if_pos h

/-- R95: with no mix pending the flags of the record decide. -/
theorem refusalAfter_of_none (h : st.pendingMix = none) :
    refusalAfter goal r st =
      if r.refusalFlowOk = false then 0
      else if (r.refusalPressureOk && r.binding) = true then min goal (st.refusalTimer + 1) else st.refusalTimer :=
  if_neg (by simp [h])

end

/-- Settles O22, row by row of the table. -/
theorem refusalTimerTable : Obligations.RefusalTimerTable := by
  intro goal r st
  refine ⟨refusalAfter_of_pending, fun hnone hflow => ?_, fun hnone hflow hpressure hbinding => ?_,
    fun hnone hflow hholds => ?_⟩
  · simp [refusalAfter_of_none hnone, hflow]
  · simp [refusalAfter_of_none hnone, hflow, hpressure, hbinding]
  · rw [refusalAfter_of_none hnone, hholds, hflow]
    rfl

/-! ## The start mix (R85) -/

/-- R85: the default start mix, or that of a Lugeon value, with the thresholds at or below it counted. -/
theorem startMixOf_cases (t : Tag) (results : TestResults) :
    startMixOf t results = t.defaultMix
      ∨ ∃ x, startMixOf t results = min t.mixes.length (1 + (t.thresholds.filter fun th => decide (th ≤ x)).length) := by
  unfold startMixOf
  split
  · split
    · exact .inr ⟨_, rfl⟩
    · exact .inl rfl
  · exact .inl rfl

theorem startMixOf_of_five (t : Tag) {a b c d e : StepRecord} {x : Nat} (hx : c.lugeon = some x) :
    startMixOf t (.complete [a, b, c, d, e])
      = min t.mixes.length (1 + (t.thresholds.filter fun th => decide (th ≤ x)).length) := by
  simp [startMixOf, hx]

/-- Settles O19: either source of the start mix lies in the table. -/
theorem startMixWithinTable : Obligations.StartMixWithinTable := by
  intro t results hmixes hlow hhigh
  have hrange : 1 ≤ startMixOf t results ∧ startMixOf t results ≤ t.mixes.length := by
    obtain hdefault | ⟨x, hcounted⟩ := startMixOf_cases t results
    · exact hdefault ▸ ⟨hlow, hhigh⟩
    · omega
  refine ⟨hrange.1, hrange.2, ?_⟩
  rintro a b c d e x rfl hx
  exact startMixOf_of_five t hx

/-! ## MIX (R93) -/

/-- R172: a command that a general check refuses at a free panel. -/
theorem refusedWith_of_check {i : Instr} {c : PanelCmd} {s : State} {st : Status}
    (hexec : exec i s = .next (s.panelArrive c)) (hfree : s.panelFree) (hcheck : s.generalCheck c = some st) :
    RefusedWith i s c st := by
  obtain ⟨hprocess, hslot⟩ := hfree
  refine ⟨s.setProcess (some ⟨c, some ⟨c.code, st, []⟩⟩), ?_, rfl, State.setProcess_onlyChanges _ s⟩
  rw [hexec]
  simp [State.panelArrive, hslot, hprocess, State.takeCommand, State.answer, hcheck, State.refuse]

section
variable {s : State} {n : Nat} {st : StageRecord}

/-- R172: MIX is an engineer command. -/
theorem State.generalCheck_mix (hw : s.working = true) (n : Nat) :
    s.generalCheck (.mix n) = if s.engineer then none else some .refusedLevel := by
  have honly : (PanelCmd.mix n).engineerOnly = true := rfl
  cases h : s.engineer <;> simp [State.generalCheck, hw, honly, h]

theorem PanelCmd.mix_taken (h : s.takesEngineer) (n : Nat) : (PanelCmd.mix n).Taken s := by
  obtain ⟨⟨-, hw⟩, hlevel⟩ := h
  exact ⟨by rw [State.generalCheck_mix hw, hlevel]; rfl, rfl⟩

/-- R93: a mix is forced in INJECTING and HOLDING alone. -/
theorem State.doMix_refusedState (hinjecting : s.phase ≠ .injecting) (hholding : s.phase ≠ .holding) (n : Nat) :
    s.perform (.mix n) = s.refuse .refusedState := by
  simp only [State.perform, State.doMix]
  split
  · rfl
  · exact if_pos ⟨hinjecting, hholding⟩

/-- R93: in those phases, the check of n and then that of the history. -/
theorem State.doMix_eq (hst : s.seq.stage = some st) (hp : st.phase = .injecting ∨ st.phase = .holding) (n : Nat) :
    s.perform (.mix n) =
      if n = 0 ∨ s.conf.tag.mixes.length < n then s.refuse .badArg
      else if 8 ≤ st.history.length then s.refuse .refusedFull
      else (s.forceMix n).answerOk := by
  have hphase : ¬ (s.phase ≠ .injecting ∧ s.phase ≠ .holding) := by
    rw [State.phase_of_stage hst]
    rcases hp with hp | hp <;> simp [hp]
  simp only [State.perform, State.doMix, hst, hphase, if_false]

/-- R86, R87, R93: the Sequencer after a forced request. -/
theorem State.forceMix_seq (hst : s.seq.stage = some st) (n : Nat) :
    (s.forceMix n).seq = { s.seq with
      stage := some { st with
        history := st.history ++ [⟨n, 0, s.stageSecond, false⟩]
        pendingMix := some ⟨n, s.stageSecond, 0⟩, inhibited := false }
      confirmRun := 0 } := by
  simp [State.forceMix, State.requestMix, State.modStage, hst]

theorem State.forceMix_mixRequest (hst : s.seq.stage = some st) (n : Nat) : (s.forceMix n).mixRequest = some n := by
  simp [State.mixRequest, State.forceMix_seq hst]

theorem State.forceMix_onlyChanges (n : Nat) (s : State) : OnlyChanges [.seq, .panel] s (s.forceMix n) := by
  intro b hb
  cases b <;> simp [sameBlock] at hb ⊢

/-- The clause of O44 on a taken MIX. -/
theorem exec_mix {n : Byte} (h : s.takesEngineer) (hst : s.seq.stage = some st)
    (ha : s.perform (.mix n.toNat) = (s.forceMix n.toNat).answerOk) :
    ∃ t, exec (.mix n) s = .next t ∧ Answered s t (.mix n.toNat) .ok []
      ∧ t.seq = { s.seq with
          stage := some { st with
            history := st.history ++ [⟨n.toNat, 0, s.stageSecond, false⟩]
            pendingMix := some ⟨n.toNat, s.stageSecond, 0⟩, inhibited := false }
          confirmRun := 0 }
      ∧ t.mixRequest = some n.toNat ∧ OnlyChanges [.seq, .panel] s t := by
  refine ⟨_, exec_answered rfl h.1 (PanelCmd.mix_taken h _) ha, ?_, State.forceMix_seq hst _,
    State.forceMix_mixRequest hst _,
    (s.forceMix_onlyChanges _).trans ((State.setProcess_onlyChanges _ _).mono (by simp))⟩
  simp [Answered, State.setProcess, State.answerOk]

end

/-- Settles O44, by the checks of MIX in their order. -/
theorem mixIsForcedOrRefused : Obligations.MixIsForcedOrRefused := by
  intro s n h
  have htaken (hlevel : s.engineer = true) := PanelCmd.mix_taken ⟨h, hlevel⟩ n.toNat
  refine ⟨fun hlevel => ?_, fun hlevel hinjecting hholding => ?_, fun st hlevel hst hp => ?_⟩
  · exact refusedWith_of_check rfl h.1 (by rw [State.generalCheck_mix h.2, hlevel]; rfl)
  · exact refusedWith_of_refuse rfl h (htaken hlevel) (State.doMix_refusedState hinjecting hholding _)
  · have hanswer := State.doMix_eq hst hp n.toNat
    refine ⟨fun hbad => ?_, fun hlow hhigh hfull => ?_, fun hlow hhigh hroom => ?_⟩
    · have hn : n.toNat = 0 ∨ s.conf.tag.mixes.length < n.toNat := hbad.imp_left (by rintro rfl; rfl)
      exact refusedWith_of_refuse rfl h (htaken hlevel) (hanswer.trans (if_pos hn))
    all_goals have hn : ¬ (n.toNat = 0 ∨ s.conf.tag.mixes.length < n.toNat) := by omega
    · exact refusedWith_of_refuse rfl h (htaken hlevel) (by rw [hanswer, if_neg hn, if_pos hfull])
    · exact exec_mix ⟨h, hlevel⟩ hst (by rw [hanswer, if_neg hn, if_neg (by omega)])

end Sys2Proof.Machine
end

section
/-! SUPPORT. MIX_TIMEOUT, and the pending mix at a second boundary with the Sequencer first (R87, R90, R185, R186). -/

namespace Sys2Proof.Machine

/-! ## The timeout of a pending mix (R90) -/

theorem Faults.set_get (f : Faults) (k : FaultKind) : f.set k (f.get k) = f := by
  cases k <;> rfl

theorem FaultEntry.report_masked {e : FaultEntry} (h : e.masked = true) (clock : Nat) (d : Option Detail) :
    e.report clock d = e := if_pos h

/-- R90: the record of a stage whose pending mix `m` has timed out. -/
def StageRecord.mixTimedOut (m : Nat) (st : StageRecord) : StageRecord :=
  { st with currentMix := some m, pendingMix := none, inhibited := true }

theorem State.timeoutMix_seq {m : Nat} {s : State} {st : StageRecord} (hst : s.seq.stage = some st) :
    (s.timeoutMix m).seq = { s.seq with
      stage := some (st.mixTimedOut m), confirmRun := 0, basePressure := none } := by
  simp [State.timeoutMix, State.makeCurrent_seq, State.modStage, StageRecord.mixTimedOut, hst]

theorem State.timeoutMix_faults (m : Nat) (s : State) :
    (s.timeoutMix m).faults = s.faults.set .mixTimeout
      (s.faults.mixTimeout.report s.time.clock (some (.channel .density))) := by
  simp only [State.timeoutMix, State.makeCurrent_frame, State.modStage_frame]
  rfl

theorem State.timeoutMix_onlyChanges (m : Nat) (s : State) : OnlyChanges [.seq, .link, .faults] s (s.timeoutMix m) := by
  intro b hb
  cases b <;> simp [sameBlock] at hb ⊢

section
variable {s : State} {st : StageRecord} {p : MixPending}

/-- MIX_TIMEOUT at a boundary not taken yet, the pending mix's elapsed time one short of t_mix. -/
theorem exec_mixTimeout (hdue : s.time.boundaryDue = true) (hst : s.seq.stage = some st) (hp : st.phase = .injecting)
    (hpending : st.pendingMix = some p) (h : s.conf.tag.tMix ≤ p.elapsed + 1) :
    exec .mixTimeout s = .next (s.timeoutMix p.mix) := by
  have hover : s.mixOverdue = some p.mix := by
    simp [State.mixOverdue, State.phase_of_stage hst, hp, hst, hpending, h]
  have hat : s.atBoundary = true := hdue
  simp [exec, execMixTimeout, hover, hat]

/-- R87: one more second of a pending mix. -/
def StageRecord.pendingLonger (p : MixPending) (st : StageRecord) : StageRecord :=
  { st with pendingMix := some { p with elapsed := p.elapsed + 1 } }

/-- The Sequencer's part of a second boundary found in INJECTING moves no phase. -/
theorem State.boundarySequencer_injecting (hst : s.seq.stage = some st) (hp : st.phase = .injecting) :
    s.settled State.boundarySequencer = s.boundaryMix := by
  have hto : s.boundarySequencer = s.boundaryMix := by
    simp only [State.boundarySequencer, State.phase_of_stage hst, hp]
  rw [State.settled_of_still (by rw [hto, s.boundaryMix_phase]), hto]

theorem State.boundaryMix_overdue (hst : s.seq.stage = some st) (hpending : st.pendingMix = some p)
    (h : s.conf.tag.tMix ≤ p.elapsed + 1) : s.boundaryMix = s.timeoutMix p.mix := by
  simp [State.boundaryMix, hst, hpending, h]

theorem State.boundaryMix_waits (hst : s.seq.stage = some st) (hpending : st.pendingMix = some p)
    (h : p.elapsed + 1 < s.conf.tag.tMix) : s.boundaryMix = s.modStage (StageRecord.pendingLonger p) := by
  have hno : ¬ s.conf.tag.tMix ≤ p.elapsed + 1 := by omega
  simp only [State.boundaryMix, hst, Option.bind_some, hpending, hno, if_false]
  rfl

end

/-! ## The inhibition of thickening through the other parts of a boundary -/

/-- Thickening is inhibited after the move exactly where it was before it, and a stage is there as before. -/
def KeepsInhibition (s t : State) : Prop :=
  t.seq.stage.map (·.inhibited) = s.seq.stage.map (·.inhibited)

section
variable {s t u : State}

theorem KeepsInhibition.refl (s : State) : KeepsInhibition s s := rfl

theorem KeepsInhibition.trans (h : KeepsInhibition s t) (k : KeepsInhibition t u) : KeepsInhibition s u :=
  Eq.trans k h

theorem KeepsInhibition.of_stage {f : StageRecord → StageRecord} (h : t.seq.stage = s.seq.stage.map f)
    (hf : ∀ st, (f st).inhibited = st.inhibited) : KeepsInhibition s t := by
  rw [KeepsInhibition, h]
  cases s.seq.stage <;> simp [hf]

theorem KeepsInhibition.of_seq (h : t.seq = s.seq) : KeepsInhibition s t := by rw [KeepsInhibition, h]

theorem KeepsInhibition.ite {c : Prop} [Decidable c] (h : KeepsInhibition s t) (k : KeepsInhibition s u) :
    KeepsInhibition s (if c then t else u) := by
  split
  · exact h
  · exact k

end

theorem State.enterPhase_keepsInhibition (new : Phase) (s : State) : KeepsInhibition s (s.enterPhase new) :=
  .of_stage (s.enterPhase_stage new) fun _ => rfl

theorem State.setRestraints_keepsInhibition (r : Restraints) (s : State) : KeepsInhibition s (s.setRestraints r) :=
  .of_stage (s.modStage_stage _) fun _ => rfl

theorem State.enterInjectingFirst_keepsInhibition (s : State) : KeepsInhibition s s.enterInjectingFirst :=
  .of_stage s.enterInjectingFirst_stage fun _ => rfl

theorem State.enterWaiting_keepsInhibition (r : Restraints) (s : State) : KeepsInhibition s (s.enterWaiting r) := by
  have hset := (s.enterPhase_keepsInhibition .waiting).trans
    (State.setRestraints_keepsInhibition (r.union s.seq.kept.toRestraints) _)
  exact .ite (hset.trans (State.enterInjectingFirst_keepsInhibition _)) hset

theorem State.changeSet_keepsInhibition (r : Restraints) (s : State) : KeepsInhibition s (s.changeSet r) := by
  have hset := s.setRestraints_keepsInhibition r
  exact .ite (.refl s) (.ite (.ite (hset.trans (State.enterInjectingFirst_keepsInhibition _))
    (hset.trans (State.enterPhase_keepsInhibition _ _))) (hset.trans (.of_seq (by simp))))

theorem State.arrive_keepsInhibition (r : Restraints) (s : State) : KeepsInhibition s (s.arrive r) := by
  have habandoned : KeepsInhibition s s.abandonTest := .of_stage (s.modStage_stage _) fun _ => rfl
  unfold State.arrive
  split
  · exact habandoned.trans (State.enterWaiting_keepsInhibition r _)
  · exact .of_stage (s.enterHolding_stage r) fun _ => rfl
  · exact s.changeSet_keepsInhibition _
  · exact s.changeSet_keepsInhibition _
  · exact .refl s

theorem State.present_keepsInhibition (kept : Conditions) (r : Restraints) (s : State) :
    KeepsInhibition s (s.present kept r) := by
  have hkept : KeepsInhibition s (s.keep kept) := rfl
  unfold State.present
  split
  · exact .ite hkept (hkept.trans (State.arrive_keepsInhibition r _))
  · exact .ite hkept (hkept.trans (State.arrive_keepsInhibition r _))
  · exact hkept.trans (State.changeSet_keepsInhibition _ _)
  · exact hkept.trans (State.changeSet_keepsInhibition _ _)
  · exact hkept

theorem StepRecomputed.keepsInhibition {s t : State} (h : StepRecomputed s t) : KeepsInhibition s t := by
  rcases h.stage with hsame | hzeroed
  · rw [KeepsInhibition, hsame]
  · refine .of_stage hzeroed fun st => ?_
    unfold StageRecord.timerZeroed
    split <;> rfl

theorem State.evaluateOnce_keepsInhibition (s : State) : KeepsInhibition s s.evaluateOnce := by
  cases hw : s.working with
  | false =>
    rw [State.evaluateOnce_of_idle hw]
    exact .refl s
  | true =>
    rw [State.evaluateOnce_eq hw]
    exact s.formLimits_handed.1.keepsInhibition.trans (State.present_keepsInhibition _ _ _)

theorem State.evaluate_keepsInhibition (s : State) : KeepsInhibition s s.evaluate :=
  .ite s.evaluateOnce_keepsInhibition (s.evaluateOnce_keepsInhibition.trans (State.evaluateOnce_keepsInhibition _))

/-- An evaluation of a state that leaves the Sequencer. -/
theorem KeepsInhibition.evaluated {s t : State} (hseq : t.seq = s.seq) : KeepsInhibition s t.evaluate :=
  (KeepsInhibition.of_seq hseq).trans t.evaluate_keepsInhibition

theorem State.boundaryTask_keepsInhibition {task : BoundaryTask} (h : task ≠ .sequencer) (n : Nat) (s : State) :
    KeepsInhibition s (s.boundaryTask n task) := by
  cases task with
  | sequencer => exact absurd rfl h
  | tagTimeout => exact .ite (.of_seq (by simp [State.loadCompleted, State.unconfigure])) (.refl s)
  | counters => exact .of_seq (by simp [State.boundaryTask])
  | duplicate => exact .ite (.evaluated (by simp)) (.refl s)
  | aging => exact .ite (.refl s) (.evaluated (by simp))
  | coordination =>
    refine .ite (.trans (t := if s.listenOver then s.endListen else s) (.ite (.evaluated rfl) (.refl s)) ?_) (.refl s)
    exact .evaluated (by simp)
  | faults => exact .of_seq rfl

/-! ## MIX_TIMEOUT in the fault record through the other parts of a boundary -/

theorem State.boundaryCounters_mixTimeout (s : State) :
    s.boundaryCounters.faults.get .mixTimeout = s.faults.get .mixTimeout := by
  have hsecond : s.countSecond.faults.get .mixTimeout = s.faults.get .mixTimeout := by
    unfold State.countSecond
    split <;> simp [State.noteSaturation_faults_of_ne]
  unfold State.boundaryCounters
  simp only
  split <;> simpa using hsecond

theorem State.ageEntries_mixTimeout (n : Nat) (s : State) :
    (s.ageEntries n).faults.get .mixTimeout = s.faults.get .mixTimeout := by
  have hsilent (l : List Entry) (u : State) :
      (l.foldl State.reportSilent u).faults.get .mixTimeout = u.faults.get .mixTimeout := by
    refine List.foldlRecOn (motive := fun t : State => t.faults.get .mixTimeout = u.faults.get .mixTimeout) l _ rfl
      fun t ht e _ => Eq.trans ?_ ht
    unfold State.reportSilent
    split
    · exact State.report_get_of_ne (by simp) _ t
    · rfl
  unfold State.ageEntries
  simp only
  split
  · rfl
  · simp [hsilent]

/-- R185: only the Sequencer reports MIX_TIMEOUT at a second boundary. -/
theorem State.boundaryTask_mixTimeout {task : BoundaryTask} (h : task ≠ .sequencer) (n : Nat) (s : State) :
    (s.boundaryTask n task).faults.get .mixTimeout = s.faults.get .mixTimeout := by
  cases task with
  | sequencer => exact absurd rfl h
  | tagTimeout =>
    simp only [State.boundaryTask, State.boundaryTag]
    split
    · simp only [State.loadCompleted, State.unconfigure]
      rw [State.report_get_of_ne (by simp), State.setPresent_get_of_ne (by simp)]
    · rfl
  | counters => exact s.boundaryCounters_mixTimeout
  | duplicate =>
    simp only [State.boundaryTask, State.boundaryDuplicate]
    split
    · simp only [State.clearDuplicate, State.evaluate_frame]
      exact State.setPresent_get_of_ne (by simp) _ _
    · rfl
  | aging => exact s.ageEntries_mixTimeout n
  | coordination => simp [State.boundaryTask]
  | faults => rfl

/-! ## The boundary -/

/-- What the parts of a boundary after the Sequencer's leave of a mix that it has timed out. -/
theorem State.boundaryWork_keepsTimeout {ord : BoundaryOrder} (h : ord.tasks.head? = some .sequencer) (s : State) :
    KeepsInhibition (s.settled State.boundarySequencer) (s.boundaryWork ord)
      ∧ (s.boundaryWork ord).faults.get .mixTimeout
        = (s.settled State.boundarySequencer).faults.get .mixTimeout := by
  obtain ⟨rest, hrest, hnot⟩ := firstOnly_of_head
    (m := [.tagTimeout, .sequencer, .counters, .duplicate, .aging, .coordination, .faults]) h
  unfold State.boundaryWork boundarySchedule
  rw [hrest, List.foldl_cons]
  refine List.foldlRecOn (motive := fun t : State => KeepsInhibition (s.settled State.boundarySequencer) t
      ∧ t.faults.get .mixTimeout = (s.settled State.boundarySequencer).faults.get .mixTimeout) _ _
    ⟨.refl _, rfl⟩ fun t ⟨hinhibited, hfaults⟩ task hmem => ?_
  have hother : task ≠ .sequencer := by
    rintro rfl
    exact hnot hmem
  exact ⟨hinhibited.trans (State.boundaryTask_keepsInhibition hother _ t),
    (State.boundaryTask_mixTimeout hother _ t).trans hfaults⟩

/-- The stage of an INJECTING boundary with the Sequencer first: `st₁` as the Sequencer left it. -/
theorem State.boundaryWork_mix {ord : BoundaryOrder} (h : ord.tasks.head? = some .sequencer) {s : State}
    {st st₁ : StageRecord} (hst : s.seq.stage = some st) (hp : st.phase = .injecting)
    (hst₁ : s.boundaryMix.seq.stage = some st₁) (hp₁ : st₁.phase = .injecting) :
    ∃ st', (s.boundaryWork ord).seq.stage = some st' ∧ st'.history = st₁.history ∧ st'.pendingMix = st₁.pendingMix
      ∧ st'.currentMix = st₁.currentMix ∧ st'.inhibited = st₁.inhibited
      ∧ (s.boundaryWork ord).seq.basePressure = s.boundaryMix.seq.basePressure
      ∧ (s.boundaryWork ord).faults.mixTimeout = s.boundaryMix.faults.mixTimeout := by
  have hgoes := s.boundaryWork_of_sequencer h
  obtain ⟨hinhibited, hfaults⟩ := s.boundaryWork_keepsTimeout h
  rw [State.boundarySequencer_injecting hst hp] at hgoes hinhibited hfaults
  obtain ⟨st', hst', ⟨-, hopen, -⟩, hbase, -⟩ := hgoes st₁ hst₁ (by rw [hp₁]; rfl)
  obtain ⟨-, hhistory, hpending, hcurrent⟩ := hopen (by simp [hp₁])
  refine ⟨st', hst', hhistory, hpending, hcurrent, ?_, hbase, hfaults⟩
  simpa [KeepsInhibition, hst', hst₁] using hinhibited

/-- Settles O21: the timeout at t_mix, and what the rest of a boundary leaves of it. -/
theorem mixTimeoutInhibitsThickening : Obligations.MixTimeoutInhibitsThickening := by
  refine ⟨fun s st p hdue hst hp hpending hlast => ?_, fun ord s st p hopen hfirst hst hp hpending => ?_⟩
  · refine ⟨_, exec_mixTimeout hdue hst hp hpending hlast.ge, State.timeoutMix_seq hst, fun hmasked => ?_,
      fun hmasked => ?_, s.timeoutMix_onlyChanges _⟩
    · rw [State.timeoutMix_faults]
      obtain ⟨hcount, hdetail, hseen⟩ := FaultEntry.report_unmasked hmasked s.time.clock (some (.channel .density))
      exact ⟨hcount, hdetail, hseen⟩
    · rw [State.timeoutMix_faults, FaultEntry.report_masked hmasked]
      exact Faults.set_get s.faults .mixTimeout
  · have hst₀ : s.atNewSecond.seq.stage = some st := hst
    have htime := s.atNewSecond.boundaryWork_time ord
    have hnext := exec_secondBoundary_of_open hopen ord
    by_cases hover : s.conf.tag.tMix ≤ p.elapsed + 1
    · have hmix := State.boundaryMix_overdue hst₀ hpending hover
      have hseq := State.timeoutMix_seq (m := p.mix) hst₀
      rw [← hmix] at hseq
      obtain ⟨st', hst', hhistory, hnone, hcurrent, hinhibited, hbase, hfaults⟩ :=
        State.boundaryWork_mix hfirst hst₀ hp (congrArg Sequencer.stage hseq) hp
      rw [hmix, State.timeoutMix_faults] at hfaults
      refine ⟨_, st', hnext, hst', hhistory, fun hless => by omega, fun _ => ⟨hnone, hcurrent, hinhibited, ?_,
        fun hmasked => ?_, fun hmasked => ?_⟩⟩
      · rw [hbase, hseq]
      · rw [hfaults, htime]
        obtain ⟨hcount, hdetail, hseen⟩ :=
          FaultEntry.report_unmasked hmasked s.atNewSecond.time.clock (some (.channel .density))
        exact ⟨hcount, hdetail, hseen⟩
      · rw [hfaults]
        exact FaultEntry.report_masked hmasked _ _
    · have hless : p.elapsed + 1 < s.conf.tag.tMix := by omega
      have hmix := State.boundaryMix_waits hst₀ hpending hless
      have hst₁ : s.atNewSecond.boundaryMix.seq.stage = some (st.pendingLonger p) := by
        rw [hmix, State.modStage_stage, hst₀]
        rfl
      obtain ⟨st', hst', hhistory, hlonger, hcurrent, hinhibited, -, hfaults⟩ :=
        State.boundaryWork_mix hfirst hst₀ hp hst₁ hp
      rw [hmix] at hfaults
      exact ⟨_, st', hnext, hst', hhistory, fun _ => ⟨hlonger, hcurrent, hinhibited, hfaults⟩,
        fun h => absurd h hover⟩

end Sys2Proof.Machine
end

section
/-! SUPPORT. Counting by remainder and its saturation: the three counters of a sample set one by one (R101 to R103, R105,
R106). -/

namespace Sys2Proof.Machine

/-! ## One counter -/

section
variable {n part rem add unit : Nat}

/-- R106: the whole units of an event reach the bound where the increment finds it or brings the counter to it. -/
theorem reaches32_eq_findsBound (hunit : 0 < unit) (n part : Nat) :
    reaches32 n (part / unit) = findsBound n part unit := by
  have hwhole : 0 < part / unit ↔ unit ≤ part := by simp [Nat.div_pos_iff, hunit]
  simp only [reaches32, findsBound, decide_eq_decide.mpr hwhole]
  rfl

/-- R106: such an increment leaves the counter at its bound. -/
theorem raise32_of_findsBound (h : findsBound n part unit = true) : raise32 n (part / unit) = 4294967295 := by
  obtain ⟨-, hbound⟩ : unit ≤ part ∧ 4294967295 ≤ n + part / unit := by simpa [findsBound] using h
  unfold raise32 max32
  omega

theorem raise32_of_room (h : n + part / unit ≤ 4294967295) : raise32 n (part / unit) = n + part / unit := by
  unfold raise32 max32
  omega

/-- R101: while it has room, a counter and its remainder together grow by exactly what the event adds. -/
theorem raise32_conserves (h : n + (rem + add) / unit ≤ 4294967295) :
    unit * raise32 n ((rem + add) / unit) + (rem + add) % unit = unit * n + rem + add := by
  calc unit * raise32 n ((rem + add) / unit) + (rem + add) % unit
      = unit * n + (unit * ((rem + add) / unit) + (rem + add) % unit) := by
        rw [raise32_of_room h, Nat.mul_add, Nat.add_assoc]
    _ = unit * n + rem + add := by rw [Nat.div_add_mod, Nat.add_assoc]

end

section
variable {c : Prop} [Decidable c] {n rem add unit n' rem' : Nat}

/-- A counter that counts only where `c` holds, and its remainder. -/
theorem counted_where (hn : n' = if c then raise32 n ((rem + add) / unit) else n)
    (hrem : rem' = if c then (rem + add) % unit else rem) :
    if c then
      rem' = (rem + add) % unit ∧ (n + (rem + add) / unit ≤ 4294967295 → unit * n' + rem' = unit * n + rem + add)
    else n' = n ∧ rem' = rem := by
  subst hn hrem
  split
  · exact ⟨rfl, raise32_conserves⟩
  · exact ⟨rfl, rfl⟩

theorem counted_at_bound (hn : n' = if c then raise32 n ((rem + add) / unit) else n)
    (h : (decide c && findsBound n (rem + add) unit) = true) : n' = 4294967295 := by
  obtain ⟨hc, hbound⟩ : c ∧ findsBound n (rem + add) unit = true := by simpa using h
  rw [hn, if_pos hc, raise32_of_findsBound hbound]

end

/-! ## Reports of saturation -/

/-- R106: a report for each flag that was clear. -/
theorem State.noteSaturation_newly (hit flag : Bool) (set : Saturated → Saturated) (s : State) :
    (s.noteSaturation hit flag set).faults.get .countSaturated
      = (s.faults.get .countSaturated).afterReports (hit && !flag).toNat s.time.clock := by
  unfold State.noteSaturation
  cases hit with
  | false => simp [FaultEntry.afterReports_zero]
  | true =>
    cases flag with
    | false => simp [State.report_get_same, FaultEntry.report_eq_afterReports]
    | true => simp [FaultEntry.afterReports_zero]

theorem FaultEntry.afterReports_of_some {n : Nat} {e : FaultEntry} (hn : n ≠ 0) (hmasked : e.masked = false)
    (clock : Nat) :
    e.afterReports n clock = { e with
      count := max e.count (min 255 (e.count + n))
      first := if e.count = 0 then some clock else e.first
      last := some clock
      detail := none } :=
  if_neg (by simp [hn, hmasked])

/-- R185: reports of one event come to what they are together. -/
theorem FaultEntry.afterReports_add (a b clock : Nat) (e : FaultEntry) :
    (e.afterReports a clock).afterReports b clock = e.afterReports (a + b) clock := by
  cases hmasked : e.masked with
  | true => simp [FaultEntry.afterReports, hmasked]
  | false =>
    by_cases ha : a = 0
    · simp [ha, FaultEntry.afterReports_zero]
    · by_cases hb : b = 0
      · simp [hb, FaultEntry.afterReports_zero]
      · have hcount : max (max e.count (min 255 (e.count + a))) (min 255 (max e.count (min 255 (e.count + a)) + b))
            = max e.count (min 255 (e.count + (a + b))) := by omega
        have hseen : max e.count (min 255 (e.count + a)) ≠ 0 := by omega
        rw [FaultEntry.afterReports_of_some ha hmasked, FaultEntry.afterReports_of_some (by omega : a + b ≠ 0) hmasked,
          FaultEntry.afterReports_of_some hb]
        · simp only [hcount, hseen, if_false]
        · exact hmasked

theorem Saturated.volume_set_iff (x : Saturated) : x.volume = true ↔ { x with volume := true } = x :=
  ⟨fun h => by rw [← h], fun h => (congrArg Saturated.volume h).symm⟩

theorem Saturated.water_set_iff (x : Saturated) : x.water = true ↔ { x with water := true } = x :=
  ⟨fun h => by rw [← h], fun h => (congrArg Saturated.water h).symm⟩

theorem Saturated.strokes_set_iff (x : Saturated) : x.strokes = true ↔ { x with strokes := true } = x :=
  ⟨fun h => by rw [← h], fun h => (congrArg Saturated.strokes h).symm⟩

/-! ## Grout, water and strokes -/

section
variable (q x : Nat) (s : State)

/-- R86, R101: the newest history entry grows with V. -/
theorem State.countGrout_seq :
    (s.countGrout q).seq = (s.modStage fun st => { st with
      history := modNewest (fun e => { e with volume := raise32 e.volume ((s.take.remGrout + q) / 600) })
        st.history }).seq := by
  simp only [State.countGrout, State.noteSaturation_frame]
  rfl

/-- R101, R106. -/
theorem State.countGrout_take :
    (s.countGrout q).take = { s.take with
      remGrout := (s.take.remGrout + q) % 600
      live := { s.take.live with
        volume := raise32 s.take.live.volume ((s.take.remGrout + q) / 600)
        saturated := { s.take.live.saturated with
          volume := s.take.live.saturated.volume || findsBound s.take.live.volume (s.take.remGrout + q) 600 } } } := by
  unfold State.countGrout
  rw [State.noteSaturation_take (Saturated.volume_set_iff _), reaches32_eq_findsBound (by decide)]
  cases hit : findsBound s.take.live.volume (s.take.remGrout + q) 600 <;> simp

/-- R102, R106. -/
theorem State.countWater_take :
    (s.countWater q).take = { s.take with
      remWater := (s.take.remWater + q) % 600
      live := { s.take.live with
        water := raise32 s.take.live.water ((s.take.remWater + q) / 600)
        saturated := { s.take.live.saturated with
          water := s.take.live.saturated.water || findsBound s.take.live.water (s.take.remWater + q) 600 } } } := by
  unfold State.countWater
  rw [State.noteSaturation_take (Saturated.water_set_iff _), reaches32_eq_findsBound (by decide)]
  cases hit : findsBound s.take.live.water (s.take.remWater + q) 600 <;> simp

/-- R103, R106. -/
theorem State.countStrokes_take :
    (s.countStrokes x).take = { s.take with
      remStroke := (s.take.remStroke + x) % 6000
      live := { s.take.live with
        strokes := raise32 s.take.live.strokes ((s.take.remStroke + x) / 6000)
        saturated := { s.take.live.saturated with
          strokes := s.take.live.saturated.strokes || findsBound s.take.live.strokes (s.take.remStroke + x) 6000 } } } := by
  unfold State.countStrokes
  rw [State.noteSaturation_take (Saturated.strokes_set_iff _), reaches32_eq_findsBound (by decide)]
  cases hit : findsBound s.take.live.strokes (s.take.remStroke + x) 6000 <;> simp

theorem State.countGrout_reports :
    (s.countGrout q).faults.get .countSaturated = (s.faults.get .countSaturated).afterReports
      (findsBound s.take.live.volume (s.take.remGrout + q) 600 && !s.take.live.saturated.volume).toNat s.time.clock := by
  rw [← reaches32_eq_findsBound (by decide)]
  exact State.noteSaturation_newly _ _ _ _

theorem State.countWater_reports :
    (s.countWater q).faults.get .countSaturated = (s.faults.get .countSaturated).afterReports
      (findsBound s.take.live.water (s.take.remWater + q) 600 && !s.take.live.saturated.water).toNat s.time.clock := by
  rw [← reaches32_eq_findsBound (by decide)]
  exact State.noteSaturation_newly _ _ _ _

theorem State.countStrokes_reports :
    (s.countStrokes x).faults.get .countSaturated = (s.faults.get .countSaturated).afterReports
      (findsBound s.take.live.strokes (s.take.remStroke + x) 6000 && !s.take.live.saturated.strokes).toNat
      s.time.clock := by
  rw [← reaches32_eq_findsBound (by decide)]
  exact State.noteSaturation_newly _ _ _ _

end

/-- The first clause of O27: one sample set's grout while V and the newest entry have room. -/
theorem State.countGrout_conserves {q : Nat} {s : State} {st : StageRecord} {older : List MixEntry} {newest : MixEntry}
    (hst : s.seq.stage = some st) (hhistory : st.history = older ++ [newest])
    (hroom : s.take.live.volume + (s.take.remGrout + q) / 600 ≤ 4294967295)
    (hentry : newest.volume + (s.take.remGrout + q) / 600 ≤ 4294967295) :
    600 * (s.countGrout q).take.live.volume + (s.countGrout q).take.remGrout
        = 600 * s.take.live.volume + s.take.remGrout + q
      ∧ (s.countGrout q).take.remGrout < 600
      ∧ ∃ n, (s.countGrout q).seq.stage = some { st with history := older ++ [{ newest with volume := n }] }
        ∧ n + s.take.live.volume = newest.volume + (s.countGrout q).take.live.volume := by
  rw [State.countGrout_take, State.countGrout_seq]
  refine ⟨raise32_conserves hroom, Nat.mod_lt _ (by decide), raise32 newest.volume ((s.take.remGrout + q) / 600), ?_, ?_⟩
  · simp [State.modStage_stage, hst, hhistory, modNewest_append]
  · simp only [raise32_of_room hroom, raise32_of_room hentry]
    omega

end Sys2Proof.Machine
end

section
/-! SUPPORT. The Take Counters' part of a sample set, and the set around it: what the parts before it and after it leave
of the counters and of a trip (R101 to R106, log entries 3, 5 and 36). -/

namespace Sys2Proof.Machine

/-! ## The part of the Take Counters, by the phase found -/

section
variable (q g x : Nat) (s : State)

/-- R106: this set's grout finds V at its bound or brings it there. -/
def State.groutHits : Bool :=
  decide (s.phase = .injecting ∨ s.phase = .holding) && findsBound s.take.live.volume (s.take.remGrout + q) 600

/-- R106: the same of the test water. -/
def State.waterHits : Bool :=
  decide (s.phase = .testing) && findsBound s.take.live.water (s.take.remWater + q) 600

/-- R106: the same of the strokes. -/
def State.strokesHit : Bool :=
  decide (s.phase ≠ .vacant ∧ s.phase ≠ .closed) && findsBound s.take.live.strokes (s.take.remStroke + x) 6000

/-- R101 to R107: the counters after a sample set. -/
theorem State.sampleCounters_take :
    (s.sampleCounters q g x).take = { s.take with
      remGrout :=
        if s.phase = .injecting ∨ s.phase = .holding then (s.take.remGrout + q) % 600 else s.take.remGrout
      remWater := if s.phase = .testing then (s.take.remWater + q) % 600 else s.take.remWater
      remStroke :=
        if s.phase ≠ .vacant ∧ s.phase ≠ .closed then (s.take.remStroke + x) % 6000 else s.take.remStroke
      window := s.take.window.gather g s.phase.pumping
      live := { s.take.live with
        volume :=
          if s.phase = .injecting ∨ s.phase = .holding then
            raise32 s.take.live.volume ((s.take.remGrout + q) / 600)
          else s.take.live.volume
        water :=
          if s.phase = .testing then raise32 s.take.live.water ((s.take.remWater + q) / 600) else s.take.live.water
        strokes :=
          if s.phase ≠ .vacant ∧ s.phase ≠ .closed then
            raise32 s.take.live.strokes ((s.take.remStroke + x) / 6000)
          else s.take.live.strokes
        peakQ :=
          if s.phase = .testing ∨ s.phase = .injecting then max s.take.live.peakQ q else s.take.live.peakQ
        saturated := { s.take.live.saturated with
          volume := s.take.live.saturated.volume || s.groutHits q
          water := s.take.live.saturated.water || s.waterHits q
          strokes := s.take.live.saturated.strokes || s.strokesHit x } } } := by
  unfold State.sampleCounters State.groutHits State.waterHits State.strokesHit
  cases hp : s.phase with
  | vacant | closed => simp [Phase.pumping]
  | packed | waiting => simp [Phase.pumping, State.countStrokes_take]
  | testing =>
    simp [Phase.pumping, State.countStrokes_take, State.countWater_take, State.notePeakQ, State.modLive]
  | injecting =>
    simp [Phase.pumping, State.countStrokes_take, State.countGrout_take, State.notePeakQ, State.modLive]
  | holding => simp [Phase.pumping, State.countStrokes_take, State.countGrout_take]

/-- R106: a report for each of the three flags that was clear. -/
theorem State.sampleCounters_reports :
    (s.sampleCounters q g x).faults.get .countSaturated = (s.faults.get .countSaturated).afterReports
      ((s.groutHits q && !s.take.live.saturated.volume).toNat + (s.waterHits q && !s.take.live.saturated.water).toNat
        + (s.strokesHit x && !s.take.live.saturated.strokes).toNat) s.time.clock := by
  unfold State.sampleCounters State.groutHits State.waterHits State.strokesHit
  cases hp : s.phase with
  | vacant | closed => simp [Phase.pumping, FaultEntry.afterReports_zero]
  | packed | waiting => simp [Phase.pumping, State.countStrokes_reports]
  | testing =>
    simp [Phase.pumping, State.countStrokes_reports, State.countWater_reports, State.countWater_take,
      FaultEntry.afterReports_add]
  | injecting | holding =>
    simp [Phase.pumping, State.countStrokes_reports, State.countGrout_reports, State.countGrout_take,
      FaultEntry.afterReports_add]

end

/-! ## A trip of the set before or after the counters -/

/-- TRIP holds the stage and S is 0 (R15). -/
def TripHeld (s : State) : Prop := s.phase.restrained = true ∧ s.restraints.trip = true ∧ s.reg.stroke = 0

theorem TripHeld.through {s t : State} (h : TripHeld s) (k : SamplePartFrame s t) : TripHeld t := by
  obtain ⟨hheld, htrip, hstroke⟩ := h
  obtain ⟨-, -, -, -, -, -, hkeeps⟩ := k
  obtain ⟨kphase, ktrip, kstroke, -⟩ := hkeeps hheld htrip
  exact ⟨kphase ▸ hheld, ktrip, kstroke.trans hstroke⟩

theorem State.trip_tripHeld {s : State} (h : s.trips = true) : TripHeld s.trip := by
  obtain ⟨hpump, -⟩ := s.trips_iff.mp h
  obtain ⟨hheld, htrip, hstroke, -⟩ := State.trip_holds hpump
  exact ⟨hheld, htrip, hstroke⟩

/-- R103, log entry 5: the S to be counted is the one that the set found, or 0 after the set's own trip. -/
def StrokeOrTrip (stroke : Nat) (p : State × Nat) : Prop := p.2 = stroke ∨ p.2 = 0 ∧ TripHeld p.1

theorem StrokeOrTrip.sampleTask {stroke : Nat} {p : State × Nat} (h : StrokeOrTrip stroke p) (set : SampleSet)
    (task : SampleTask) : StrokeOrTrip stroke (State.sampleTask set task p) := by
  have hframe := State.sampleTask_frame set task p
  have hsame (hstroke : (State.sampleTask set task p).2 = p.2) : StrokeOrTrip stroke (State.sampleTask set task p) :=
    h.imp hstroke.trans fun ⟨hzero, hheld⟩ => ⟨hstroke.trans hzero, hheld.through hframe⟩
  cases task with
  | trip =>
    cases htrips : p.1.trips with
    | false => exact hsame (by simp [State.sampleTask, htrips])
    | true => exact .inr (by simpa [State.sampleTask, htrips] using State.trip_tripHeld htrips)
  | field | counters | envelope | confirm | uplift | connection | header => exact hsame rfl

/-! ## The other parts of a set -/

/-- R106: COUNT_SATURATED is the Take Counters' own. -/
theorem State.sampleTask_countSaturated {task : SampleTask} (h : task ≠ .counters) (set : SampleSet) (p : State × Nat) :
    (State.sampleTask set task p).1.faults.get .countSaturated = p.1.faults.get .countSaturated := by
  obtain ⟨s, stroke⟩ := p
  cases task with
  | counters => exact absurd rfl h
  | trip =>
    simp only [State.sampleTask]
    split
    · rw [State.trip_faults]
      exact State.report_get_of_ne (by simp) _ s
    · rfl
  | field | envelope | confirm | uplift | connection | header => simp [State.sampleTask, State.settled]

/-- What every part of a sample set but that of the Take Counters leaves: the counters with their reports, and the common
frame. -/
def CountersAside (s t : State) : Prop :=
  t.take = s.take ∧ t.faults.get .countSaturated = s.faults.get .countSaturated ∧ SamplePartFrame s t

theorem CountersAside.refl (s : State) : CountersAside s s := ⟨rfl, rfl, .refl s⟩

theorem CountersAside.trans {a b c : State} (h : CountersAside a b) (k : CountersAside b c) : CountersAside a c := by
  obtain ⟨htake, hfaults, hframe⟩ := h
  obtain ⟨ktake, kfaults, kframe⟩ := k
  exact ⟨ktake.trans htake, kfaults.trans hfaults, hframe.trans kframe⟩

theorem State.sampleTask_countersAside {task : SampleTask} (h : task ≠ .counters) (set : SampleSet) (p : State × Nat) :
    CountersAside p.1 (State.sampleTask set task p).1 :=
  ⟨State.sampleTask_take h set p, State.sampleTask_countSaturated h set p, State.sampleTask_frame set task p⟩

/-- The state that the Take Counters find, with the S that they add. -/
def State.foundByCounters (set : SampleSet) (ord : List SampleTask) (stroke : Nat) (s : State) : State × Nat :=
  ((sampleSchedule ord).takeWhile (· ≠ .counters)).foldl (fun p task => State.sampleTask set task p) (s, stroke)

theorem State.foundBy_counters (inp : SampleInput) (ord : SampleOrder) (s : State) :
    s.foundBy .counters inp ord = (s.judged inp ord).foundByCounters (s.judgedSet inp ord) ord.tasks s.reg.stroke := rfl

/-- Counters that the order names first find the state as judged, and S. -/
theorem State.foundByCounters_first {ord : List SampleTask} (h : ord.head? = some .counters) (set : SampleSet)
    (stroke : Nat) (s : State) : s.foundByCounters set ord stroke = (s, stroke) := by
  obtain ⟨rest, rfl⟩ := List.head?_eq_some_iff.mp h
  simp [State.foundByCounters, sampleSchedule, taskNeeds, firstOnly]

section
variable (set : SampleSet) (ord : List SampleTask) (stroke : Nat) (s : State)

theorem State.foundByCounters_aside :
    CountersAside s (s.foundByCounters set ord stroke).1 ∧ StrokeOrTrip stroke (s.foundByCounters set ord stroke) :=
  List.foldlRecOn (motive := fun p : State × Nat => CountersAside s p.1 ∧ StrokeOrTrip stroke p) _ _
    ⟨.refl s, .inl rfl⟩ fun p ⟨haside, hstroke⟩ task hmem =>
      ⟨haside.trans (State.sampleTask_countersAside (ne_of_mem_takeWhile hmem) set p), hstroke.sampleTask set task⟩

/-- After the Take Counters no part counts. -/
theorem State.sampleWork_counters :
    CountersAside
      ((s.foundByCounters set ord stroke).1.sampleCounters set.flow set.gauge (s.foundByCounters set ord stroke).2)
      (s.sampleWork set ord stroke) := by
  obtain ⟨post, heq, hpost⟩ := eq_takeWhile_append_cons (mem_sampleSchedule .counters ord) (nodup_sampleSchedule ord)
  have hwork : s.sampleWork set ord stroke
      = (post.foldl (fun p task => State.sampleTask set task p)
          (State.sampleTask set .counters (s.foundByCounters set ord stroke))).1 := by
    unfold State.sampleWork State.foundByCounters
    rw [heq, List.foldl_append, List.foldl_cons, ← heq]
  have hcount : (State.sampleTask set .counters (s.foundByCounters set ord stroke)).1
      = (s.foundByCounters set ord stroke).1.sampleCounters set.flow set.gauge
          (s.foundByCounters set ord stroke).2 := rfl
  rw [hwork, ← hcount]
  refine List.foldlRecOn (motive := fun p : State × Nat => CountersAside _ p.1) _ _ (.refl _) fun p hp task hmem =>
    hp.trans (State.sampleTask_countersAside ?_ set p)
  rintro rfl
  exact hpost hmem

end

/-- Settles O27: one set's grout, and the Take Counters' part with what the other parts leave of it. -/
theorem volumesCountedByRemainder : Obligations.VolumesCountedByRemainder := by
  refine ⟨fun q s st older newest hst hhistory hroom hentry => State.countGrout_conserves hst hhistory hroom hentry,
    fun inp ord s hdue => ⟨s.sampleSet inp ord, rfl, ?_⟩⟩
  have hjudged := s.judged_onlyChanges inp ord
  have htake₀ : (s.judged inp ord).take = s.take := hjudged .take (by simp)
  have hphase₀ : (s.judged inp ord).phase = s.phase :=
    State.phase_congr (congrArg Sequencer.stage (hjudged .seq (by simp)))
  have hfaults₀ : (s.judged inp ord).faults.get .countSaturated = s.faults.get .countSaturated :=
    State.judged_faults_of_ne (by simp) inp ord s
  have hfirst (h : ord.tasks.head? = some .counters) :=
    State.foundByCounters_first h (s.judgedSet inp ord) s.reg.stroke (s.judged inp ord)
  obtain ⟨⟨htake, hfaults, hframe⟩, hstroke⟩ :=
    (s.judged inp ord).foundByCounters_aside (s.judgedSet inp ord) ord.tasks s.reg.stroke
  obtain ⟨ktake, kfaults, kframe⟩ :=
    (s.judged inp ord).sampleWork_counters (s.judgedSet inp ord) ord.tasks s.reg.stroke
  rw [State.foundBy_counters, State.sampleSet_eq hdue]
  generalize (s.judged inp ord).foundByCounters (s.judgedSet inp ord) ord.tasks s.reg.stroke = p at *
  generalize (s.judged inp ord).sampleWork (s.judgedSet inp ord) ord.tasks s.reg.stroke = t at *
  obtain ⟨u, x⟩ := p
  obtain ⟨-, hmeas, -⟩ := hframe.blocks
  obtain ⟨ktime, kmeas, -⟩ := kframe.blocks
  have hclock : u.time = t.time := (ktime.trans (by simp)).symm
  have hflow : (s.judgedSet inp ord).flow = t.deliveredNat .flow :=
    (State.deliveredNat_congr ((kmeas.trans (by simp)).trans hmeas) .flow).symm
  have hcounts := ktake.trans (u.sampleCounters_take _ _ x)
  have hreports := kfaults.trans (u.sampleCounters_reports _ _ x)
  unfold State.groutHits State.waterHits State.strokesHit at hcounts hreports
  rw [htake.trans htake₀, hflow] at hcounts hreports
  rw [hfaults.trans hfaults₀, hclock] at hreports
  have hadded : x = s.reg.stroke ∨ x = 0 ∧ t.restraints.trip = true ∧ t.reg.stroke = 0 := by
    refine hstroke.imp_right fun ⟨hzero, hheld⟩ => ?_
    have hcounted := hheld.through (State.sampleTask_frame (s.judgedSet inp ord) .counters (u, x))
    obtain ⟨-, htrip, hstill⟩ := hcounted.through kframe
    exact ⟨hzero, htrip, hstill⟩
  have hfound (h : ord.tasks.head? = some .counters) : u.phase = s.phase ∧ x = s.reg.stroke := by
    obtain ⟨hu, hx⟩ := Prod.mk.inj (hfirst h)
    exact ⟨hu ▸ hphase₀, hx⟩
  refine ⟨counted_where ?_ ?_, counted_where ?_ ?_, counted_where ?_ ?_, ⟨?_, hreports, counted_at_bound ?_,
    counted_at_bound ?_, counted_at_bound ?_⟩, ?_, hadded, hfound⟩
  all_goals rw [hcounts]

end Sys2Proof.Machine
end

section
/-! SUPPORT. READ, STATUS, SNAP and AUTO (R109 to R111, R172, R175, R176): which records exist, and the answer of each
command at a free panel, configured station or not. -/

namespace Sys2Proof.Machine

/-! ## The records of the two windows (R109, R175) -/

/-- The item number that a READ carries (12.2); `ReadItem.ofCode` reads it back. -/
def ReadItem.code : ReadItem → Nat
  | .stage => 1
  | .reckoning => 2
  | .counters => 3
  | .steps => 4
  | .coord => 5
  | .neighbour => 6
  | .link => 7
  | .channels => 8
  | .faults => 9
  | .profile => 10
  | .station => 11

theorem ReadItem.ofCode_code (i : ReadItem) : ReadItem.ofCode i.code = some i := by cases i <;> rfl

theorem ReadItem.code_of_ofCode {n : Nat} {i : ReadItem} (h : ReadItem.ofCode n = some i) : i.code = n := by
  unfold ReadItem.ofCode at h
  split at h
  all_goals cases h
  all_goals rfl

theorem ReadItem.exists_code_iff (n : Nat) : (∃ i : ReadItem, i.code = n) ↔ 1 ≤ n ∧ n ≤ 11 := by
  constructor
  · rintro ⟨i, rfl⟩
    cases i <;> decide
  · rintro ⟨hlow, hhigh⟩
    have hitem : (ReadItem.ofCode n).isSome = true := by interval_cases n <;> rfl
    obtain ⟨i, hi⟩ := Option.isSome_iff_exists.mp hitem
    exact ⟨i, ReadItem.code_of_ofCode hi⟩

/-- In the LIVE window only NEIGHBOUR and PROFILE look at the index. -/
theorem State.liveRecord_isSome_iff (s : State) (k : Nat) (i : ReadItem) :
    (s.liveRecord k i).isSome = true ↔ (i.code = 6 → k < s.table.entries.length) ∧ (i.code = 10 → k ≤ 3) := by
  cases i with
  | neighbour => simp [State.liveRecord, ReadItem.code]
  | profile => by_cases h : k ≤ 3 <;> simp [State.liveRecord, ReadItem.code, h]
  | _ => simp [State.liveRecord, ReadItem.code]

/-- The HELD window holds the first five items. -/
theorem State.heldRecord_isSome_iff (s : State) (i : ReadItem) : (s.heldRecord i).isSome = true ↔ i.code ≤ 5 := by
  cases i <;> simp [State.heldRecord, ReadItem.code]

theorem State.readData_eq_none {s : State} {item : Byte} (h : ReadItem.ofCode item.toNat = none) (window index : Byte) :
    s.readData item window index = none := by
  simp [State.readData, h]

/-- A READ of an item finds data where its window is LIVE or HELD and holds the item's record. -/
theorem State.readData_isSome_of_item {s : State} {item : Byte} {i : ReadItem} (h : ReadItem.ofCode item.toNat = some i)
    (window index : Byte) :
    (s.readData item window index).isSome = true
      ↔ window = 0#8 ∧ (s.liveRecord index.toNat i).isSome = true
        ∨ window = 1#8 ∧ (s.heldRecord i).isSome = true := by
  simp only [State.readData, h]
  by_cases hlive : window = 0#8
  · simp [hlive]
  · by_cases hheld : window = 1#8
    · simp [hheld]
    · simp [hlive, hheld]

/-- The clause of O45 on the records that exist. -/
theorem State.readData_isSome_iff (s : State) (item window index : Byte) :
    (s.readData item window index).isSome = true
      ↔ window = 0#8 ∧ 1 ≤ item.toNat ∧ item.toNat ≤ 11 ∧ (item = 6#8 → index.toNat < s.table.entries.length)
          ∧ (item = 10#8 → index.toNat ≤ 3)
        ∨ window = 1#8 ∧ 1 ≤ item.toNat ∧ item.toNat ≤ 5 := by
  have hnumber := ReadItem.exists_code_iff item.toNat
  cases hitem : ReadItem.ofCode item.toNat with
  | none =>
    have hno : ¬ (1 ≤ item.toNat ∧ item.toNat ≤ 11) := by
      rw [← hnumber]
      rintro ⟨i, hi⟩
      simp [← hi, ReadItem.ofCode_code] at hitem
    rw [State.readData_eq_none hitem]
    simp only [Option.isSome_none, Bool.false_eq_true, false_iff]
    omega
  | some i =>
    have hcode : i.code = item.toNat := ReadItem.code_of_ofCode hitem
    obtain ⟨hlow, hhigh⟩ := hnumber.mp ⟨i, hcode⟩
    have hsix : item = 6#8 ↔ item.toNat = 6 := BitVec.toNat_inj.symm
    have hten : item = 10#8 ↔ item.toNat = 10 := BitVec.toNat_inj.symm
    rw [State.readData_isSome_of_item hitem, State.liveRecord_isSome_iff, State.heldRecord_isSome_iff, hcode, hsix,
      hten]
    simp [hlow, hhigh]

/-! ## A command taken at a free panel, in any station state (R171 to R174) -/

/-- The owner's answer is the response, and the state is the owner's; no configured station is asked for. -/
theorem exec_answered_by {i : Instr} {c : PanelCmd} {s : State} {a : Answer} {l : List Block}
    (hexec : exec i s = .next (s.panelArrive c)) (hfree : s.panelFree) (htaken : c.Taken s) (ha : s.perform c = a)
    (hpanel : a.state.panel = s.panel) (hchanges : OnlyChanges l s a.state) (hl : Block.panel ∈ l) :
    ∃ t, exec i s = .next t ∧ Answered s t c a.status a.data ∧ t.take = a.state.take ∧ OnlyChanges l s t := by
  obtain ⟨hprocess, hslot⟩ := hfree
  obtain ⟨hcheck, hread⟩ := htaken
  refine ⟨a.state.setProcess (some ⟨c, some ⟨c.code, a.status, a.data⟩⟩), ?_, ?_, rfl,
    hchanges.trans ((State.setProcess_onlyChanges _ _).mono (by simpa using hl))⟩
  · rw [hexec]
    simp [State.panelArrive, hslot, hprocess, State.takeCommand, State.answer, hcheck, hread, ha]
  · simp [Answered, State.setProcess, hpanel]

/-- R173: a refusal by the owner. -/
theorem refusedWith_of_owner {i : Instr} {c : PanelCmd} {s : State} {st : Status}
    (hexec : exec i s = .next (s.panelArrive c)) (hfree : s.panelFree) (htaken : c.Taken s)
    (ha : s.perform c = s.refuse st) : RefusedWith i s c st := by
  obtain ⟨t, ht, hanswer, -, hframe⟩ := exec_answered_by hexec hfree htaken ha rfl (.refl [.panel] s) (by simp)
  exact ⟨t, ht, hanswer, hframe⟩

/-! ## READ and STATUS (R172, R175, R176) -/

/-- R172: STATUS is taken in every station state. -/
theorem PanelCmd.status_taken (s : State) : PanelCmd.status.Taken s := by
  have hlevel : PanelCmd.status.engineerOnly = false := rfl
  simp [PanelCmd.Taken, State.generalCheck, State.holdsRead, PanelCmd.unconfiguredToo, hlevel]

/-- R172: LINK, CHANNELS and STATION are read in every station state. -/
theorem alwaysReadable_of_item {item : Byte} (h : item = 7#8 ∨ item = 8#8 ∨ item = 11#8) :
    alwaysReadable item = true := by
  rcases h with rfl | rfl | rfl <;> rfl

/-- R46, R172: a READ that the station state allows, and that no reckoning in flight holds. -/
theorem PanelCmd.read_taken {s : State} {item window : Byte}
    (hallowed : s.working = true ∨ item = 7#8 ∨ item = 8#8 ∨ item = 11#8)
    (hnow : ¬ (item = 2#8 ∧ window = 0#8 ∧ s.env.inFlight.isSome = true)) (index : Byte) :
    (PanelCmd.read item window index).Taken s := by
  have hlevel : (PanelCmd.read item window index).engineerOnly = false := rfl
  have hstate : s.working = true ∨ alwaysReadable item = true := hallowed.imp_right alwaysReadable_of_item
  constructor
  · rcases hstate with hstate | hstate <;> simp [State.generalCheck, PanelCmd.unconfiguredToo, hlevel, hstate]
  · simpa [State.holdsRead, and_assoc] using hnow

/-- R175: the count of free values is all of the state that an answered READ touches. -/
theorem State.doRead_of_some {s : State} {item window index : Byte} {d : List Byte}
    (h : s.readData item window index = some d) :
    s.perform (.read item window index) = ⟨{ s with freeCount := s.freeCount + readDraws }, .ok, d⟩ := by
  simp only [State.perform, State.doRead, h]

theorem State.doRead_of_none {s : State} {item window index : Byte} (h : s.readData item window index = none) :
    s.perform (.read item window index) = s.refuse .badArg := by
  simp only [State.perform, State.doRead, h]

theorem State.drawFree_onlyChanges (n : Nat) (s : State) : OnlyChanges [.panel, .free] s { s with freeCount := n } := by
  intro b hb
  cases b <;> simp [sameBlock] at hb ⊢

/-- The clause of O45 on a READ that names a record. -/
theorem exec_read {s : State} {item window index : Byte} {d : List Byte} (hfree : s.panelFree)
    (htaken : (PanelCmd.read item window index).Taken s) (hd : s.readData item window index = some d) :
    ∃ t, exec (.read item window index) s = .next t ∧ Answered s t (.read item window index) .ok d
      ∧ OnlyChanges [.panel, .free] s t := by
  obtain ⟨t, ht, hanswer, -, hframe⟩ :=
    exec_answered_by (i := .read item window index) rfl hfree htaken (State.doRead_of_some hd) rfl
      (s.drawFree_onlyChanges _) (by simp)
  exact ⟨t, ht, hanswer, hframe⟩

theorem exec_status {s : State} (hfree : s.panelFree) :
    ∃ t, exec .status s = .next t ∧ Answered s t .status .ok s.statusBytes ∧ OnlyChanges [.panel] s t := by
  obtain ⟨t, ht, hanswer, -, hframe⟩ :=
    exec_answered_by (i := .status) (a := ⟨s, .ok, s.statusBytes⟩) rfl hfree (PanelCmd.status_taken s) rfl rfl
      (.refl [.panel] s) (by simp)
  exact ⟨t, ht, hanswer, hframe⟩

/-! ## SNAP and AUTO (R109 to R111) -/

/-- What SNAP and AUTO write: the Take Counters alone. -/
theorem State.setTake_onlyChanges (k : TakeCounters) (s : State) :
    OnlyChanges [.take, .panel] s { s with take := k } := by
  intro b hb
  cases b <;> simp [sameBlock] at hb ⊢

/-- R111: the HELD copy that SNAP takes. -/
theorem exec_snap {s : State} (h : s.takesOperator) :
    ∃ t, exec .snap s = .next t ∧ Answered s t .snap .ok [] ∧ t.take = (s.takeCopy .snap).take
      ∧ OnlyChanges [.take, .panel] s t :=
  exec_answered_by rfl h.1 (PanelCmd.taken_of_operator h rfl rfl) (a := (s.takeCopy .snap).answerOk) rfl rfl
    (s.setTake_onlyChanges _) (by simp)

/-- R172: AUTO is an engineer command. -/
theorem PanelCmd.auto_taken {s : State} (h : s.takesEngineer) (x : Byte) : (PanelCmd.auto x).Taken s := by
  obtain ⟨⟨-, hw⟩, hlevel⟩ := h
  simp [PanelCmd.Taken, State.generalCheck, State.holdsRead, hw, hlevel]

/-- R110: AUTO with an argument of 0 or 1. -/
theorem State.doAuto_of_le {s : State} {x : Byte} (hx : x.toNat ≤ 1) :
    s.perform (.auto x) = State.answerOk { s with take := { s.take with autoCopy := decide (x = 1#8) } } :=
  if_neg (Nat.not_lt.mpr hx)

theorem State.doAuto_of_lt {s : State} {x : Byte} (hx : 1 < x.toNat) : s.perform (.auto x) = s.refuse .badArg :=
  if_pos hx

theorem exec_auto {s : State} (h : s.takesEngineer) {x : Byte} (hx : x.toNat ≤ 1) :
    ∃ t, exec (.auto x) s = .next t ∧ Answered s t (.auto x) .ok []
      ∧ t.take = { s.take with autoCopy := decide (x = 1#8) } ∧ OnlyChanges [.take, .panel] s t :=
  exec_answered_by rfl h.1.1 (PanelCmd.auto_taken h x) (State.doAuto_of_le hx) rfl (s.setTake_onlyChanges _) (by simp)

/-- Settles O45, a clause a command: the general checks let it pass, and its owner's answer is the response. -/
theorem readsStatusAndCopies : Obligations.ReadsStatusAndCopies := by
  intro s hfree
  refine ⟨fun item window index hallowed hnow => ?_, s.readData_isSome_iff, exec_status hfree,
    fun hworking => exec_snap ⟨hfree, hworking⟩, fun x hengineer => ⟨exec_auto hengineer, fun hx => ?_⟩⟩
  · have htaken := PanelCmd.read_taken hallowed hnow index
    exact ⟨fun d hd => exec_read hfree htaken hd,
      fun hnone => refusedWith_of_owner rfl hfree htaken (State.doRead_of_none hnone)⟩
  · exact refusedWith_of_owner rfl hfree (PanelCmd.auto_taken hengineer x) (State.doAuto_of_lt hx)

end Sys2Proof.Machine
end

section
/-! SUPPORT. Rules of link time (R114 to R121): the draw and the creation of a request, the passage of link time field by
field, the moments it may reach, and what such a passage leaves alone. -/

namespace Sys2Proof.Machine

/-! ## The generator (R121) -/

theorem generatorStep_eq (g : Word16) :
    generatorStep g = if g.toNat % 2 = 1 then g >>> 1 ^^^ 46080#16 else g >>> 1 := by
  have hbit : g.getLsbD 0 = decide (g.toNat % 2 = 1) := Nat.testBit_zero _
  simp only [generatorStep, hbit, decide_eq_true_eq]

/-- From an odd register the step sets bit 15; from an even one it halves. -/
theorem generatorStep_ne_zero {g : Word16} (h : g ≠ 0) : generatorStep g ≠ 0 := by
  rw [generatorStep_eq]
  split
  · intro hzero
    have htop := congrArg (·.getLsbD 15) hzero
    simp at htop
  · next heven =>
    intro hzero
    refine h (BitVec.eq_of_toNat_eq ?_)
    have hhalf := congrArg BitVec.toNat hzero
    simp [Nat.shiftRight_eq_div_pow] at hhalf ⊢
    omega

theorem seedOf_ne_zero (own : Identity) : seedOf own ≠ 0 := by
  unfold seedOf
  simp only
  split
  · decide
  · next hne =>
    intro hzero
    have hnat := congrArg BitVec.toNat hzero
    simp at hnat
    omega

/-! ## Creation (R119) -/

theorem Link.create_of_some {l : Link} {g : Word16} (h : l.generator = some g) :
    l.create = { l with generator := some (generatorStep g), slot := some (newInstance g) } := by
  simp [Link.create, draw, h, newInstance]

theorem Link.requestPeriodic_of_free {l : Link} (h : l.slot = none) : l.requestPeriodic = l.create := by
  simp [Link.requestPeriodic, h]

theorem Link.requestPeriodic_of_taken {l : Link} {o : Outgoing} (h : l.slot = some o) : l.requestPeriodic = l := by
  simp [Link.requestPeriodic, h]

theorem Link.serveUrgent_of_due {l : Link} (hmark : l.urgent = true) (hfree : l.slot = none)
    (hover : l.holdOffEnded = true) : l.serveUrgent = l.create := by
  simp [Link.serveUrgent, hmark, hfree, hover]

theorem Link.serveUrgent_of_not {l : Link} (h : l.urgent = false ∨ l.slot.isSome = true ∨ l.holdOffEnded = false) :
    l.serveUrgent = l := by
  unfold Link.serveUrgent
  rw [if_neg]
  rcases h with h | h | h
  · simp [h]
  · cases hslot : l.slot <;> simp [hslot] at h ⊢
  · simp [h]

theorem Link.holdOffEnded_of_some {l : Link} {x : Nat} (h : l.sinceStart = some x) :
    l.holdOffEnded = decide (1000 ≤ x) := by
  unfold Link.holdOffEnded
  rw [h]
  rfl

/-! ## The passage of link time (R115, R117, R118, R120, R124) -/

@[simp] theorem Link.silenceReached_frame (l : Link) :
    l.silenceReached.slot = l.slot ∧ l.silenceReached.seqCounter = l.seqCounter
      ∧ l.silenceReached.firstCount = l.firstCount ∧ l.silenceReached.urgent = l.urgent
      ∧ l.silenceReached.periodic = l.periodic ∧ l.silenceReached.sinceStart = l.sinceStart
      ∧ l.silenceReached.generator = l.generator ∧ l.silenceReached.drops = l.drops
      ∧ l.silenceReached.silence = l.silence ∧ l.silenceReached.charOn = l.charOn ∧ l.silenceReached.cut = l.cut
      ∧ l.silenceReached.sentTime = l.sentTime
      ∧ l.silenceReached.counters = { l.counters with fragment := l.silenceReached.counters.fragment } := by
  unfold Link.silenceReached
  split
  · split <;> simp [Link.becomeIdle, Link.fragment]
  · simp

/-- R120: what a character time adds to the slot: to its wait, while it is not sending. -/
def Outgoing.later (d : Nat) (o : Outgoing) : Outgoing := if o.sending then o else { o with wait := o.wait + d }

theorem Outgoing.later_eq (d : Nat) (o : Outgoing) : ∃ w, o.later d = { o with wait := w } := by
  unfold Outgoing.later
  split
  · exact ⟨o.wait, rfl⟩
  · exact ⟨_, rfl⟩

@[simp] theorem Link.pass_frame (working : Bool) (d : Nat) (l : Link) :
    (l.pass working d).slot = l.slot.map (Outgoing.later d) ∧ (l.pass working d).seqCounter = l.seqCounter
      ∧ (l.pass working d).firstCount = l.firstCount ∧ (l.pass working d).urgent = l.urgent
      ∧ (l.pass working d).periodic = (if working then l.periodic + d else l.periodic)
      ∧ (l.pass working d).sinceStart = l.sinceStart.map (· + d) ∧ (l.pass working d).generator = l.generator
      ∧ (l.pass working d).drops = l.drops
      ∧ (l.pass working d).silence = (if l.charOn then l.silence else l.silence + d)
      ∧ (l.pass working d).charOn = l.charOn ∧ (l.pass working d).cut = l.cut
      ∧ (l.pass working d).sentTime = l.sentTime + d
      ∧ (l.pass working d).counters = { l.counters with fragment := (l.pass working d).counters.fragment } := by
  unfold Link.pass
  exact Link.silenceReached_frame _

@[simp] theorem State.pass_link (d : Nat) (s : State) : (s.pass d).link = s.link.pass s.working d := rfl

/-! ## The moments that link time may reach (log entry 1) -/

/-- The moment `d` does not lie behind the end of the last character of an attempt that RESTART cut. -/
def State.cutAllows (d : Nat) (s : State) : Prop :=
  s.link.cut = true → s.link.charOn = true → d ≤ 1 - s.link.sentTime

theorem State.linkReaches_iff (d : Nat) (s : State) :
    s.linkReaches d = true ↔ (∀ x, s.slotDue = some x → d ≤ x) ∧ s.cutAllows d := by
  have hcut : (!s.link.cutting || decide (d ≤ 1 - s.link.sentTime)) = true ↔ s.cutAllows d := by
    unfold Link.cutting State.cutAllows
    cases s.link.cut <;> cases s.link.charOn <;> simp
  rw [State.linkReaches, Bool.and_eq_true, hcut]
  cases s.slotDue <;> simp

theorem State.linkReaches_sending {s : State} {o : Outgoing} (hslot : s.link.slot = some o) (hsending : o.sending = true)
    (d : Nat) : s.linkReaches d = true ↔ d ≤ 1 - s.link.sentTime := by
  have hdue : s.slotDue = some (1 - s.link.sentTime) := by simp [State.slotDue, hslot, hsending]
  rw [State.linkReaches_iff, hdue]
  exact ⟨fun ⟨h, _⟩ => h _ rfl, fun h => ⟨fun x hx => Option.some.inj hx ▸ h, fun _ _ => h⟩⟩

theorem State.linkReaches_waiting {s : State} {o : Outgoing} (hslot : s.link.slot = some o) (hwaits : o.sending = false)
    (d : Nat) :
    s.linkReaches d = true
      ↔ d ≤ 10 * s.conf.tag.pB - o.wait ∧ (s.link.charOn = false → d ≤ 3 + o.k - s.link.silence) ∧ s.cutAllows d := by
  rw [State.linkReaches_iff, ← and_assoc]
  refine and_congr_left fun _ => ?_
  cases hchar : s.link.charOn <;>
    simp [State.slotDue, hslot, hwaits, hchar, State.periodChars, charsPerMs, and_comm]

theorem State.linkReaches_free {s : State} (hfree : s.link.slot = none) (hworking : s.working = true) (d : Nat) :
    s.linkReaches d = true
      ↔ d ≤ 10 * s.conf.tag.pB - s.link.periodic
        ∧ (s.link.urgent = true → d ≤ 1000 - s.link.sinceStart.getD 1000) ∧ s.cutAllows d := by
  rw [State.linkReaches_iff, ← and_assoc]
  refine and_congr_left fun _ => ?_
  cases hmark : s.link.urgent <;>
    simp [State.slotDue, hfree, hworking, hmark, State.periodChars, charsPerMs, holdOff]

theorem State.linkReaches_idle {s : State} (hfree : s.link.slot = none) (hidle : s.working = false) (d : Nat) :
    s.linkReaches d = true ↔ s.cutAllows d := by
  simp [State.linkReaches_iff, State.slotDue, hfree, hidle]

theorem State.linkReaches_zero (s : State) : s.linkReaches 0 = true := by
  simp [State.linkReaches_iff, State.cutAllows]

theorem State.atMoment_of_reached {s : State} {d : Nat} (h : s.linkReaches d = true) (f : State → State) :
    s.atMoment d f = f (s.pass d) := if_pos h

theorem State.atMoment_of_not {s : State} {d : Nat} (h : ¬ s.linkReaches d = true) (f : State → State) :
    s.atMoment d f = s := if_neg h

/-! ## Time on the panel's line (R170) -/

theorem Panel.pass_pass (a b : Nat) (p : Panel) : (p.pass a).pass b = p.pass (a + b) := by
  have hlimit : panelSilenceLimit = 500 := rfl
  unfold Panel.pass Panel.silenceReached
  simp only [hlimit]
  by_cases ha : 500 < p.silence + a
  · have hab : 500 < p.silence + (a + b) := by omega
    cases p.receiver <;> simp [ha, hab, Nat.add_assoc]
  · simp [ha, Nat.add_assoc]

theorem PanelTimePasses.of_eq {s t : State} (h : t.panel = s.panel) : PanelTimePasses s t := .inl h

theorem PanelTimePasses.trans {s t u : State} (h : PanelTimePasses s t) (k : PanelTimePasses t u) :
    PanelTimePasses s u := by
  rcases h with h | ⟨a, h⟩ <;> rcases k with k | ⟨b, k⟩ <;> rw [h] at k
  · exact .inl k
  · exact .inr ⟨b, k⟩
  · exact .inr ⟨a, k⟩
  · exact .inr ⟨a + b, by rw [k, Panel.pass_pass]⟩

/-! ## What the passage of link time leaves alone -/

/-- The link, and the panel by time passing, may differ; of the link not the sequence counter, the FIRST count, the mark,
the drops, the generator and every counter but the fragments. -/
def LineMoves (s t : State) : Prop :=
  OnlyChanges [.link, .panel] s t ∧ PanelTimePasses s t
    ∧ t.link.seqCounter = s.link.seqCounter ∧ t.link.firstCount = s.link.firstCount ∧ t.link.urgent = s.link.urgent
    ∧ t.link.drops = s.link.drops ∧ t.link.generator = s.link.generator
    ∧ t.link.counters = { s.link.counters with fragment := t.link.counters.fragment }

theorem State.modLink_onlyChanges (f : Link → Link) (s : State) : OnlyChanges [.link] s (s.modLink f) := by
  intro b hb
  cases b <;> simp [sameBlock] at hb ⊢

theorem State.pass_onlyChanges (d : Nat) (s : State) : OnlyChanges [.link, .panel] s (s.pass d) := by
  intro b hb
  cases b <;> simp [sameBlock] at hb ⊢

theorem State.pass_lineMoves (d : Nat) (s : State) : LineMoves s (s.pass d) := by
  obtain ⟨-, hseq, hfirst, hmark, -, -, hgen, hdrops, -, -, -, -, hcounters⟩ := s.link.pass_frame s.working d
  exact ⟨s.pass_onlyChanges d, .inr ⟨d, rfl⟩, hseq, hfirst, hmark, hdrops, hgen, hcounters⟩

theorem State.charEnd_lineMoves (s : State) : LineMoves s (s.modLink Link.charEnd) :=
  ⟨(s.modLink_onlyChanges _).mono (by simp), .of_eq (by simp), rfl, rfl, rfl, rfl, rfl, rfl⟩

theorem LineMoves.linkTimeFrame {s t : State} (h : LineMoves s t) (hchar : t.link.charOn = s.link.charOn)
    (hcut : t.link.cut = s.link.cut) : LinkTimeFrame s t := by
  obtain ⟨hblocks, hpanel, hseq, hfirst, hmark, hdrops, -, hcounters⟩ := h
  exact ⟨hblocks, hpanel, hseq, hfirst, hmark, hdrops, hchar, hcut, hcounters⟩

theorem State.pass_linkTimeFrame (d : Nat) (s : State) : LinkTimeFrame s (s.pass d) :=
  (s.pass_lineMoves d).linkTimeFrame (by simp) (by simp)

theorem LinkTimeFrame.refl (s : State) : LinkTimeFrame s s :=
  ⟨.refl _ _, .of_eq rfl, rfl, rfl, rfl, rfl, rfl, rfl, rfl⟩

/-- A creation after it touches the slot and the generator alone. -/
theorem LinkTimeFrame.modLink {s t : State} {f : Link → Link} (h : LinkTimeFrame s t)
    (hf : f t.link = { t.link with slot := (f t.link).slot, generator := (f t.link).generator }) :
    LinkTimeFrame s (t.modLink f) := by
  obtain ⟨hblocks, hpanel, hseq, hfirst, hmark, hdrops, hchar, hcut, hcounters⟩ := h
  refine ⟨hblocks.trans ((t.modLink_onlyChanges f).mono (by simp)), ?_⟩
  have hlink : (t.modLink f).link = f t.link := rfl
  rw [hlink, hf]
  exact ⟨hpanel, hseq, hfirst, hmark, hdrops, hchar, hcut, hcounters⟩

end Sys2Proof.Machine
end

section
/-! The requests of the link and the moments of link time (R116 to R121; O28). -/

namespace Sys2Proof.Machine

section
variable {s : State}

/-! ## The periodic request (R117) -/

theorem exec_periodicRequest_of_reached (hworking : s.working = true)
    (h : s.linkReaches (10 * s.conf.tag.pB - s.link.periodic) = true) :
    exec .periodicRequest s
      = .next ((s.pass (10 * s.conf.tag.pB - s.link.periodic)).modLink Link.requestPeriodic) := by
  simp only [exec, execPeriodicRequest, hworking, if_true, State.periodChars, charsPerMs, State.atMoment_of_reached h]

theorem exec_periodicRequest_of_not
    (h : s.working = false ∨ s.linkReaches (10 * s.conf.tag.pB - s.link.periodic) = false) :
    exec .periodicRequest s = .next s := by
  unfold exec execPeriodicRequest
  rcases h with h | h
  · simp [h]
  · simp [State.atMoment, State.periodChars, charsPerMs, h]

/-- R117, R119: with the slot empty the request fills it. -/
theorem exec_periodicRequest_creates {g : Word16} (hworking : s.working = true) (hfree : s.link.slot = none)
    (hgen : s.link.generator = some g) (h : s.linkReaches (10 * s.conf.tag.pB - s.link.periodic) = true) :
    ∃ t, exec .periodicRequest s = .next t ∧ t.link.slot = some (newInstance g)
      ∧ t.link.generator = some (generatorStep g)
      ∧ t.link.periodic = max s.link.periodic (10 * s.conf.tag.pB) ∧ LinkTimeFrame s t := by
  have hcreate : ∀ l : Link, l.slot = none → l.generator = some g → l.requestPeriodic
      = { l with generator := some (generatorStep g), slot := some (newInstance g) } := fun l hl hg =>
    (Link.requestPeriodic_of_free hl).trans (Link.create_of_some hg)
  have hlink := hcreate (s.pass (10 * s.conf.tag.pB - s.link.periodic)).link (by simp [hfree]) (by simp [hgen])
  refine ⟨_, exec_periodicRequest_of_reached hworking h, ?_, ?_, ?_,
    (s.pass_linkTimeFrame _).modLink (by rw [hlink])⟩
  all_goals simp only [State.modLink, hlink]
  simp only [State.pass_link, Link.pass_frame, hworking, if_true]
  omega

/-- R117: with the slot occupied it leaves no trace but the time that has passed. -/
theorem exec_periodicRequest_taken {o : Outgoing} (hworking : s.working = true) (hslot : s.link.slot = some o) :
    ∃ t w, exec .periodicRequest s = .next t ∧ t.link.slot = some { o with wait := w }
      ∧ t.link.generator = s.link.generator ∧ LinkTimeFrame s t := by
  cases hreach : s.linkReaches (10 * s.conf.tag.pB - s.link.periodic) with
  | false => exact ⟨s, o.wait, exec_periodicRequest_of_not (.inr hreach), hslot, rfl, .refl s⟩
  | true =>
    obtain ⟨w, hw⟩ := o.later_eq (10 * s.conf.tag.pB - s.link.periodic)
    have hpassed : (s.pass (10 * s.conf.tag.pB - s.link.periodic)).link.slot = some { o with wait := w } := by
      simp [hslot, hw]
    have hlink := Link.requestPeriodic_of_taken hpassed
    refine ⟨_, w, exec_periodicRequest_of_reached hworking hreach, ?_, ?_,
      (s.pass_linkTimeFrame _).modLink (by rw [hlink])⟩
    all_goals simp only [State.modLink, hlink]
    · exact hpassed
    · simp

/-! ## The end of a hold-off (R118) -/

theorem exec_holdOffEnd_eq {x : Nat} (hx : s.link.sinceStart = some x) :
    exec .holdOffEnd s
      = .next (s.atMoment (1000 - x) fun u => if u.working then u.modLink Link.serveUrgent else u) := by
  simp only [exec, execHoldOffEnd, hx, holdOff]

theorem State.pass_working (d : Nat) (s : State) : (s.pass d).working = s.working := State.working_congr (by simp)

/-- R118: a mark that waits is served when the hold-off ends. -/
theorem exec_holdOffEnd_creates {g : Word16} {x : Nat} (hworking : s.working = true) (hfree : s.link.slot = none)
    (hmark : s.link.urgent = true) (hgen : s.link.generator = some g) (hx : s.link.sinceStart = some x)
    (h : s.linkReaches (1000 - x) = true) :
    ∃ t, exec .holdOffEnd s = .next t ∧ t.link.slot = some (newInstance g)
      ∧ t.link.generator = some (generatorStep g) ∧ t.link.sinceStart = some (max x 1000) ∧ LinkTimeFrame s t := by
  have hsince : (s.pass (1000 - x)).link.sinceStart = some (max x 1000) := by
    simp only [State.pass_link, Link.pass_frame, hx, Option.map_some, Option.some.injEq]
    omega
  have hserved : (s.pass (1000 - x)).link.serveUrgent = (s.pass (1000 - x)).link.create :=
    Link.serveUrgent_of_due (by simp [hmark]) (by simp [hfree]) (by rw [Link.holdOffEnded_of_some hsince]; simp)
  have hlink := hserved.trans (Link.create_of_some (g := g) (by simp [hgen]))
  refine ⟨(s.pass (1000 - x)).modLink Link.serveUrgent, ?_, ?_, ?_, ?_,
    (s.pass_linkTimeFrame _).modLink (by rw [hlink])⟩
  · rw [exec_holdOffEnd_eq hx, State.atMoment_of_reached h, State.pass_working, if_pos hworking]
  all_goals simp only [State.modLink, hlink]
  exact hsince

/-- R118: without a mark, or with the slot occupied, nothing is created. -/
theorem exec_holdOffEnd_leaves (h : s.link.urgent = false ∨ s.link.slot.isSome = true) :
    ∃ t, exec .holdOffEnd s = .next t ∧ t.link.slot.map (·.k) = s.link.slot.map (·.k)
      ∧ t.link.slot.map (·.attempt) = s.link.slot.map (·.attempt)
      ∧ t.link.slot.map (·.seq) = s.link.slot.map (·.seq) ∧ t.link.generator = s.link.generator
      ∧ LinkTimeFrame s t := by
  cases hx : s.link.sinceStart with
  | none => exact ⟨s, by simp only [exec, execHoldOffEnd, hx], rfl, rfl, rfl, rfl, .refl s⟩
  | some x =>
    rw [exec_holdOffEnd_eq hx]
    rcases State.atMoment_cases (1000 - x) (fun u => if u.working then u.modLink Link.serveUrgent else u) s with
      ⟨-, hat⟩ | ⟨-, hat⟩
    · have hstands : (s.pass (1000 - x)).link.serveUrgent = (s.pass (1000 - x)).link := by
        refine Link.serveUrgent_of_not ?_
        rcases h with h | h
        · exact .inl (by simp [h])
        · exact .inr (.inl (by simpa using h))
      have hsame : (s.pass (1000 - x)).modLink Link.serveUrgent = s.pass (1000 - x) := by
        rw [State.modLink, hstands]
      rw [hat, hsame, ite_self]
      refine ⟨_, rfl, ?_, ?_, ?_, by simp, s.pass_linkTimeFrame _⟩
      all_goals
        cases hslot : s.link.slot with
        | none => simp [hslot]
        | some o =>
          obtain ⟨w, hw⟩ := o.later_eq (1000 - x)
          simp [hslot, hw]
    · exact ⟨s, by rw [hat], rfl, rfl, rfl, rfl, .refl s⟩

end

/-- Settles O28: the moments by the state of the slot, then the two requests. -/
theorem requestsCreateOneInstance : Obligations.RequestsCreateOneInstance := by
  refine ⟨fun s d => ⟨fun o hslot hsending => State.linkReaches_sending hslot hsending d,
      fun o hslot hwaits => State.linkReaches_waiting hslot hwaits d, fun hfree hworking => ?_,
      fun hfree hidle => State.linkReaches_idle hfree hidle d⟩,
    fun s g hworking hfree hgen h => exec_periodicRequest_creates hworking hfree hgen h,
    fun s o hworking hslot => exec_periodicRequest_taken hworking hslot,
    fun s h => exec_periodicRequest_of_not h,
    fun s g x hworking hfree hmark hgen hx h => exec_holdOffEnd_creates hworking hfree hmark hgen hx h,
    fun s h => exec_holdOffEnd_leaves h, generatorStep_eq, fun g => generatorStep_ne_zero, seedOf_ne_zero⟩
  have h := State.linkReaches_free hfree hworking d
  cases hsince : s.link.sinceStart <;> (rw [hsince] at h; exact h)

end Sys2Proof.Machine
end

section
/-! A completed and a failed transmission: TRANSMISSION_COMPLETE, ACCESS_TIMEOUT, ATTEMPT_FAILED and LINK_JAM (R124 to
R126; O30, O31). -/

namespace Sys2Proof.Machine

/-! ## A mark served (R118) -/

@[simp] theorem Link.serveUrgent_fields (l : Link) :
    l.serveUrgent.seqCounter = l.seqCounter ∧ l.serveUrgent.firstCount = l.firstCount
      ∧ l.serveUrgent.urgent = l.urgent ∧ l.serveUrgent.periodic = l.periodic
      ∧ l.serveUrgent.sinceStart = l.sinceStart := by
  unfold Link.serveUrgent
  split <;> simp [Link.create]

/-- What a served mark puts in the slot is waiting. -/
theorem Link.serveUrgent_sending {l : Link} (h : l.slot = none) : l.serveUrgent.sending = none := by
  unfold Link.serveUrgent
  split
  · rfl
  · simp [Link.sending, h]

/-! ## A completed transmission (R124) -/

/-- R124: the link as the completion leaves it, before a mark is served. -/
def Link.transmitted (l : Link) : Link :=
  { l with
    slot := none
    firstCount := l.firstCount - 1
    drops := 0
    counters := { l.counters with transmitted := satSucc 65535 l.counters.transmitted } }

theorem State.completeTransmission_link (s : State) :
    s.completeTransmission.link = s.link.transmitted.serveUrgent := rfl

theorem State.completeTransmission_faults (s : State) :
    s.completeTransmission.faults = { s.faults with linkJam := { s.faults.linkJam with present := false } } := rfl

theorem exec_transmissionComplete {s : State} {o : Outgoing} (hslot : s.link.slot = some o) (hsending : o.sending = true) :
    exec .transmissionComplete s = .next (s.modLink Link.charEnd).completeTransmission := by
  simp [exec, execTransmissionComplete, Link.sending, hslot, hsending]

theorem State.completeTransmission_onlyChanges (s : State) : OnlyChanges [.link, .faults] s s.completeTransmission := by
  intro b hb
  cases b <;> simp [sameBlock] at hb ⊢

/-- Settles O31: the completion, and the mark that it may serve. -/
theorem transmissionCompletes : Obligations.TransmissionCompletes := by
  intro s o hslot hsending
  have hlink : (s.modLink Link.charEnd).completeTransmission.link = s.link.charEnd.transmitted.serveUrgent :=
    State.completeTransmission_link _
  have hover (x : Nat) (hx : s.link.sinceStart = some x) :
      s.link.charEnd.transmitted.holdOffEnded = decide (1000 ≤ x) := Link.holdOffEnded_of_some hx
  refine ⟨_, exec_transmissionComplete hslot hsending, ?_, ?_, ?_, State.completeTransmission_faults _,
    fun hmark => ?_, fun x hx hearly => ?_, fun x g hmark hx hlate hgen => ?_, ?_, ?_, ?_, ?_,
    ((s.modLink_onlyChanges _).mono (by simp)).trans (State.completeTransmission_onlyChanges _)⟩
  case refine_4 =>
    rw [hlink, Link.serveUrgent_of_not (l := s.link.charEnd.transmitted) (.inl hmark)]
    exact ⟨rfl, rfl⟩
  case refine_5 =>
    rw [hlink, Link.serveUrgent_of_not (.inr (.inr (by rw [hover x hx]; simpa using hearly)))]
    rfl
  case refine_6 =>
    rw [hlink, Link.serveUrgent_of_due (l := s.link.charEnd.transmitted) hmark rfl (by rw [hover x hx]; simpa using hlate),
      Link.create_of_some (l := s.link.charEnd.transmitted) hgen]
  all_goals simp [hlink, Link.transmitted, Link.charEnd]

/-! ## A dropped bulletin (R126) -/

/-- R126: the link as the drop leaves it, before a mark is served. -/
def Link.dropped (l : Link) : Link :=
  { l with
    slot := none
    periodic := 0
    drops := satSucc 255 l.drops
    counters := { l.counters with dropped := satSucc 65535 l.counters.dropped } }

theorem satSucc_eq_eight (n : Nat) : satSucc 255 n = 8 ↔ n = 7 := by
  unfold satSucc
  split <;> omega

theorem State.dropOutgoing_link (s : State) : s.dropOutgoing.link = s.link.dropped.serveUrgent := by
  unfold State.dropOutgoing
  simp only
  split <;> rfl

/-- R126: the eighth drop in a row makes LINK_JAM present and reports it. -/
theorem State.dropOutgoing_jams {s : State} (hdrops : s.link.drops = 7) (habsent : s.faults.linkJam.present = false) :
    s.dropOutgoing.faults = ((s.setPresent .linkJam true).report .linkJam none).faults := by
  unfold State.dropOutgoing
  simp only
  rw [if_pos ⟨(satSucc_eq_eight _).mpr hdrops, habsent⟩]
  rfl

theorem State.dropOutgoing_faults {s : State} (h : s.link.drops ≠ 7 ∨ s.faults.linkJam.present = true) :
    s.dropOutgoing.faults = s.faults := by
  unfold State.dropOutgoing
  simp only
  rw [if_neg]
  rintro ⟨height, habsent⟩
  rcases h with h | h
  · exact h ((satSucc_eq_eight _).mp height)
  · exact absurd (h.symm.trans habsent) (by decide)

/-- R126: LINK_JAM after the eighth drop. -/
theorem State.dropOutgoing_linkJam {s : State} (hdrops : s.link.drops = 7) :
    s.dropOutgoing.faults.linkJam.present = true
      ∧ (s.faults.linkJam.present = false → s.faults.linkJam.masked = false →
          s.dropOutgoing.faults.linkJam.count = satSucc 255 s.faults.linkJam.count) := by
  cases hpresent : s.faults.linkJam.present with
  | true => rw [State.dropOutgoing_faults (.inr hpresent)]; exact ⟨hpresent, nofun⟩
  | false =>
    have hentry : s.dropOutgoing.faults.linkJam
        = ({ s.faults.linkJam with present := true } : FaultEntry).report s.time.clock none := by
      rw [State.dropOutgoing_jams hdrops hpresent]
      rfl
    rw [hentry]
    refine ⟨FaultEntry.report_present _ _ _, fun _ hmasked => ?_⟩
    exact (FaultEntry.report_unmasked (e := { s.faults.linkJam with present := true }) hmasked _ _).1

theorem State.dropOutgoing_get_of_ne {k : FaultKind} (h : k ≠ .linkJam) (s : State) :
    s.dropOutgoing.faults.get k = s.faults.get k := by
  by_cases hjams : s.link.drops = 7 ∧ s.faults.linkJam.present = false
  · rw [State.dropOutgoing_jams hjams.1 hjams.2, State.report_get_of_ne h, State.setPresent_get_of_ne h]
  · rw [State.dropOutgoing_faults]
    rw [← Bool.not_eq_false]
    exact not_and_or.mp hjams

/-! ## A failed attempt (R125) -/

/-- R125: the link with the failure counted. -/
def Link.abandoned (l : Link) : Link :=
  { l with counters := { l.counters with abandoned := satSucc 65535 l.counters.abandoned } }

theorem State.failAttempt_retries {o : Outgoing} (h : o.attempt < 4) (s : State) :
    s.failAttempt o
      = s.modLink fun l => { l.abandoned with
          generator := (draw (o.attempt + 1) l.generator).1
          slot := some ⟨false, o.attempt + 1, (draw (o.attempt + 1) l.generator).2, o.seq, 0, [], 0⟩ } := by
  unfold State.failAttempt
  simp only
  rw [if_pos h]
  rfl

theorem State.failAttempt_drops {o : Outgoing} (h : 4 ≤ o.attempt) (s : State) :
    s.failAttempt o = (s.modLink Link.abandoned).dropOutgoing := by
  unfold State.failAttempt
  simp only
  rw [if_neg (Nat.not_lt.mpr h)]
  rfl

theorem State.failAttempt_onlyChanges (o : Outgoing) (s : State) :
    OnlyChanges [.link, .panel, .faults] s (s.failAttempt o) := by
  intro b hb
  cases b <;> simp [sameBlock] at hb ⊢

/-- R125, R126: a failed attempt, whatever the state of the line. -/
theorem State.failAttempt_fails (o : Outgoing) (s : State) : AttemptFails o s (s.failAttempt o) := by
  by_cases h : o.attempt < 4
  · have heq := State.failAttempt_retries h s
    refine ⟨by rw [heq]; rfl, fun _ g hgen => ?_, fun h4 => absurd h (Nat.not_lt.mpr h4), by rw [heq]; rfl,
      by rw [heq]; rfl, by rw [heq]; rfl, fun k _ => by rw [heq]; rfl, .of_eq (by simp), s.failAttempt_onlyChanges o⟩
    rw [heq]
    simp [State.modLink, Link.abandoned, draw, hgen]
  · have heq := State.failAttempt_drops (Nat.not_lt.mp h) s
    have hlink : (s.failAttempt o).link = s.link.abandoned.dropped.serveUrgent := by
      rw [heq, State.dropOutgoing_link]
      rfl
    refine ⟨?_, fun hlow => absurd hlow h, fun _ => ⟨?_, ?_, ?_, fun hmark => ?_, fun h7 => ?_, fun h7 => ?_, fun h7 => ?_⟩,
      ?_, ?_, ?_, fun k hk => ?_, .of_eq (by simp), s.failAttempt_onlyChanges o⟩
    case refine_5 =>
      rw [hlink, Link.serveUrgent_of_not (l := s.link.abandoned.dropped) (.inl hmark)]
      rfl
    case refine_6 =>
      rw [heq]
      exact (State.dropOutgoing_linkJam (s := s.modLink Link.abandoned) h7).1
    case refine_7 =>
      rw [heq]
      exact (State.dropOutgoing_linkJam (s := s.modLink Link.abandoned) h7).2
    case refine_8 =>
      rw [heq, State.dropOutgoing_faults (s := s.modLink Link.abandoned) (.inl h7)]
      simp
    case refine_12 =>
      rw [heq, State.dropOutgoing_get_of_ne hk]
      simp
    all_goals simp [hlink, Link.dropped, Link.abandoned]

/-- A failure after the line has moved is one of the state before. -/
theorem AttemptFails.after_line {o : Outgoing} {s t u : State} (h : LineMoves s t) (k : AttemptFails o t u) :
    AttemptFails o s u := by
  obtain ⟨hblocks, hpanel, hseq, hfirst, hmark, hdrops, hgen, hcounters⟩ := h
  obtain ⟨kabandoned, kretries, kdrops, kseq, kfirst, kmark, kfaults, kpanel, kblocks⟩ := k
  have hfaults : t.faults = s.faults := hblocks .faults (by simp)
  have habandoned : t.link.counters.abandoned = s.link.counters.abandoned := by rw [hcounters]
  have hdropped : t.link.counters.dropped = s.link.counters.dropped := by rw [hcounters]
  rw [habandoned] at kabandoned
  rw [hgen, hdrops, hdropped, hfaults] at kretries
  rw [hdrops, hdropped, hmark, hfaults] at kdrops
  rw [hfaults] at kfaults
  exact ⟨kabandoned, kretries, kdrops, kseq.trans hseq, kfirst.trans hfirst, kmark.trans hmark, kfaults,
    hpanel.trans kpanel, (hblocks.mono (by simp)).trans kblocks⟩

/-! ## The attempt in hand fails (R120, R124) -/

section
variable {s : State} {o : Outgoing}

theorem State.failInHand_sending (h : o.sending = true) (s : State) :
    s.failInHand o = (s.modLink Link.charEnd).failAttempt o := by
  simp [State.failInHand, h]

theorem State.failInHand_sending_fails (h : o.sending = true) (s : State) : AttemptFails o s (s.failInHand o) := by
  rw [State.failInHand_sending h]
  exact (State.failAttempt_fails _ _).after_line s.charEnd_lineMoves

theorem State.failInHand_waiting (h : o.sending = false) (s : State) :
    s.failInHand o = s.atMoment (10 * s.conf.tag.pB - o.wait) (State.failAttempt o) := by
  simp [State.failInHand, h, State.periodChars, charsPerMs]

theorem State.failInHand_waiting_fails (h : o.sending = false)
    (hreach : s.linkReaches (10 * s.conf.tag.pB - o.wait) = true) : AttemptFails o s (s.failInHand o) := by
  rw [State.failInHand_waiting h, State.atMoment_of_reached hreach]
  exact (State.failAttempt_fails _ _).after_line (s.pass_lineMoves _)

/-- R120: the wait of P_b ends before the attempt starts, and no later than a cut attempt's last character. -/
theorem State.linkReaches_expiry (hslot : s.link.slot = some o) (hwaits : o.sending = false) :
    s.linkReaches (10 * s.conf.tag.pB - o.wait) = true
      ↔ (s.link.charOn = true ∨ 10 * s.conf.tag.pB - o.wait ≤ 3 + o.k - s.link.silence)
        ∧ s.cutAllows (10 * s.conf.tag.pB - o.wait) := by
  rw [State.linkReaches_waiting hslot hwaits, ← Bool.not_eq_true, ← or_iff_not_imp_left]
  simp

theorem exec_accessTimeout (hslot : s.link.slot = some o) (hwaits : o.sending = false) :
    exec .accessTimeout s = .next (s.failInHand o) := by
  simp [exec, execAccessTimeout, Link.waiting, hslot, hwaits]

theorem exec_attemptFailed (hslot : s.link.slot = some o) (hsending : o.sending = true) :
    exec .attemptFailed s = .next (s.failInHand o) := by
  simp [exec, execAttemptFailed, Link.sending, hslot, hsending]

theorem exec_linkJam (hslot : s.link.slot = some o) (hfour : 4 ≤ o.attempt) (hdrops : s.link.drops = 7)
    (habsent : s.faults.linkJam.present = false) : exec .linkJam s = .next (s.failInHand o) := by
  simp [exec, execLinkJam, hslot, State.jams, hfour, hdrops, habsent]

theorem step_of_empty (h : s.pending = []) : step s = .next s.idle := by
  simp [step, h]

/-- R124: on an empty queue a read-back that has not arrived by the end of its character time is a mismatch. -/
theorem State.idle_sending (hslot : s.link.slot = some o) (hsending : o.sending = true) (hover : 1 ≤ s.link.sentTime) :
    s.idle = s.failInHand o := by
  simp [State.idle, State.attemptDue, hslot, hsending, hover]

/-- R120: on an empty queue a wait that has lasted P_b with no start due has expired. -/
theorem State.idle_expired (hslot : s.link.slot = some o) (hwaits : o.sending = false) (hover : 10 * s.conf.tag.pB ≤ o.wait)
    (hnone : s.link.charOn = true ∨ s.link.silence < 3 + o.k) : s.idle = s.failInHand o := by
  have hstart : s.link.waitOver o = false := by
    rcases hnone with h | h <;> simp [Link.waitOver, h]
  simp [State.idle, State.attemptDue, hslot, hwaits, hstart, State.periodChars, charsPerMs, hover]

end

/-- Settles O30: every way to a failure goes through the attempt in hand. -/
theorem failedAttemptRetriesOrDrops : Obligations.FailedAttemptRetriesOrDrops := by
  refine ⟨fun s o hslot hwaits hexpires => ⟨_, exec_accessTimeout hslot hwaits,
      State.failInHand_waiting_fails hwaits ((State.linkReaches_expiry hslot hwaits).mpr hexpires)⟩,
    fun s o hslot hwaits hnot => ?_,
    fun s o hslot hsending => ⟨_, exec_attemptFailed hslot hsending, State.failInHand_sending_fails hsending s, ?_⟩,
    fun s o hslot hfour hdrops habsent hexpires => ?_, fun s o hempty hslot hover => ?_⟩
  · rw [exec_accessTimeout hslot hwaits, State.failInHand_waiting hwaits,
      State.atMoment_of_not (mt (State.linkReaches_expiry hslot hwaits).mp hnot)]
  · simp [State.failInHand_sending hsending]
  · have hfails : AttemptFails o s (s.failInHand o) := by
      cases hsending : o.sending with
      | true => exact State.failInHand_sending_fails hsending s
      | false =>
        exact State.failInHand_waiting_fails hsending
          ((State.linkReaches_expiry hslot hsending).mpr (hexpires hsending))
    refine ⟨_, exec_linkJam hslot hfour hdrops habsent, hfails, ?_⟩
    obtain ⟨-, -, hdropped, -⟩ := hfails
    obtain ⟨hcount, -, -, -, hpresent, -⟩ := hdropped hfour
    exact ⟨hcount.trans (by rw [hdrops]; rfl), hpresent hdrops⟩
  · rw [step_of_empty hempty]
    rcases hover with ⟨hsending, hover⟩ | ⟨hwaits, hover, hnone⟩
    · rw [State.idle_sending hslot hsending hover]
      exact ⟨_, rfl, State.failInHand_sending_fails hsending s⟩
    · rw [State.idle_expired hslot hwaits hover hnone]
      refine ⟨_, rfl, State.failInHand_waiting_fails hwaits ?_⟩
      rw [Nat.sub_eq_zero_of_le hover]
      exact s.linkReaches_zero

end Sys2Proof.Machine
end

section
/-! The start of an attempt: ATTEMPT_START and the idle step at 3 + k send the bulletin as the station stands (R120, R122,
R123, R188; O29). -/

namespace Sys2Proof.Machine

/-! ## The length of a frame (12.1) -/

@[simp] theorem be16_length (n : Nat) : (be16 n).length = 2 := rfl

@[simp] theorem be16s_length (i : Int) : (be16s i).length = 2 := rfl

@[simp] theorem identityBytes_length (i : Identity) : (identityBytes i).length = 3 := rfl

@[simp] theorem StageSection.bytes_length (x : StageSection) : x.bytes.length = 16 := rfl

@[simp] theorem Uplift.bytes_length (u : Uplift) : u.bytes.length = 3 := rfl

@[simp] theorem identityList_length (l : List Identity) : (identityList l).length = 1 + 3 * l.length := by
  simp [identityList, List.length_flatMap, Nat.add_comm, Nat.mul_comm]

theorem Bulletin.body_length (b : Bulletin) :
    b.body.length = 7 + (if b.stage.isSome then 16 else 0) + (if b.uplift.isSome then 3 else 0)
      + (b.suspects.map fun l => 1 + 3 * l.length).getD 0 := by
  unfold Bulletin.body
  cases b.stage <;> cases b.uplift <;> cases b.suspects <;> simp <;> omega

theorem Bulletin.frame_length (b : Bulletin) : b.frame.length = b.body.length + 5 := by
  simp [Bulletin.frame, lead]

/-! ## The attempt begun (R122, R123) -/

/-- R123: the stage section of the own bulletin, field by field. -/
theorem State.ownBulletin_stage {s : State} {st : StageRecord} (hst : s.seq.stage = some st) (seq : Nat) :
    ∃ x : StageSection, (s.ownBulletin seq).stage = some x ∧ x.top = st.top ∧ x.bottom = st.bottom
      ∧ (s.env.record.stageNumber = some st.number → x.pEff = s.env.record.pEff ∧ x.v = s.env.record.v)
      ∧ (s.env.record.stageNumber ≠ some st.number → x.pEff = 0 ∧ x.v = 0)
      ∧ x.q = s.deliveredNat .flow ∧ x.mix = st.currentMix ∧ x.critical = s.coord.critical
      ∧ x.demand = s.coord.published ∧ x.restraints = st.restraints ∧ x.reached = s.reg.reached := by
  refine ⟨s.ownStageSection st, by simp [State.ownBulletin, hst], rfl, rfl, fun hmine => ?_, fun hother => ?_, rfl, rfl,
    rfl, rfl, rfl, rfl⟩
  · simp [State.ownStageSection, hmine]
  · simp [State.ownStageSection, hother]

/-- R123: no uplift section while no gauge is fitted. -/
theorem State.ownBulletin_uplift_absent {s : State} (h : s.upliftFitted = false) (seq : Nat) :
    (s.ownBulletin seq).uplift = none := by
  simp [State.ownBulletin, State.ownUplift, h]

/-- R123, R161: the own uplift as it stands; a value that no sample set has given yet is a free one. -/
theorem State.ownBulletin_uplift {s : State} {u : Uplift} (hfitted : s.upliftFitted = true) (hu : s.coord.uplift = some u)
    (seq : Nat) :
    ∃ w : Uplift, (s.ownBulletin seq).uplift = some w ∧ w.state = u.state ∧ w.gaugeFailed = u.gaugeFailed
      ∧ (u.gaugeFailed = false → ∀ v, u.value = some v → w.value = some v) := by
  cases hfailed : u.gaugeFailed with
  | true => exact ⟨u, by simp [State.ownBulletin, State.ownUplift, hfitted, hu, hfailed], rfl, hfailed, nofun⟩
  | false =>
    refine ⟨{ u with value := some (u.value.getD (Config.freeUplift s.freeCount)) }, ?_, rfl, hfailed,
      fun _ v hv => by simp [hv]⟩
    simp [State.ownBulletin, State.ownUplift, hfitted, hu, hfailed]

theorem State.beginAttempt_onlyChanges (o : Outgoing) (s : State) :
    OnlyChanges [.link, .panel, .free] s (s.beginAttempt o) := by
  intro b hb
  cases b <;> simp [sameBlock] at hb ⊢

/-- R122, R123: the attempt begins, and its frame is that of the own bulletin. -/
theorem State.beginAttempt_begins (o : Outgoing) (s : State) : AttemptBegins o s (s.beginAttempt o) := by
  refine ⟨_, s.ownBulletin (o.seq.getD s.link.seqCounter), rfl, rfl, rfl, rfl, rfl, rfl, rfl, rfl, ?_, rfl, rfl, rfl, rfl,
    rfl, rfl, rfl, rfl, rfl, rfl, rfl, rfl, rfl, rfl, rfl, rfl, rfl, rfl, fun hnone => ?_,
    fun st hst => State.ownBulletin_stage hst _, fun h => State.ownBulletin_uplift_absent h _,
    fun h u hu => State.ownBulletin_uplift h hu _, rfl, ?_, .of_eq (by simp), s.beginAttempt_onlyChanges o⟩
  · cases hseq : o.seq <;> simp [State.beginAttempt, hseq]
  · simp [State.ownBulletin, hnone]
  · rw [Bulletin.frame_length, Bulletin.body_length]
    cases (s.ownBulletin (o.seq.getD s.link.seqCounter)).suspects <;> simp <;> omega

/-- An attempt begun after the line has moved is one of the state before. -/
theorem AttemptBegins.after_line {o : Outgoing} {s t u : State} (h : LineMoves s t) (k : AttemptBegins o t u) :
    AttemptBegins o s u := by
  obtain ⟨hblocks, hpanel, hseq, hfirst, -, hdrops, hgen, hcounters⟩ := h
  obtain ⟨o', b, hslot, hsending, hattempt, hk, hread, hframe, hnumber, hbseq, kseq, hmark, hperiodic, hsince, hsilence,
    hidle, hchar, hcut, hreceiver, hsent, kfirst, kgen, kdrops, kcounters, hown, hcls, hweight, hbfirst, hphase, hvacant,
    hstage, hunfitted, huplift, hsuspects, hlength, kpanel, kblocks⟩ := k
  have hrecord : t.seq = s.seq := hblocks .seq (by simp)
  have hmeas : t.meas = s.meas := hblocks .meas (by simp)
  have henv : t.env = s.env := hblocks .env (by simp)
  have hreg : t.reg = s.reg := hblocks .reg (by simp)
  have hcoord : t.coord = s.coord := hblocks .coord (by simp)
  have hconf : t.conf = s.conf := hblocks .conf (by simp)
  rw [hseq] at hnumber hbseq kseq
  rw [hfirst] at kfirst hbfirst
  simp only [State.own, State.phase, State.deliveredNat, State.upliftFitted, hrecord, hmeas, henv, hreg, hcoord, hconf]
    at hown hcls hweight hphase hvacant hstage hunfitted huplift hsuspects
  refine ⟨o', b, hslot, hsending, hattempt, hk, hread, hframe, hnumber, hbseq, kseq, hmark, hperiodic, hsince, hsilence,
    hidle, hchar, hcut, hreceiver, hsent, kfirst, kgen.trans hgen, kdrops.trans hdrops, ?_, hown, hcls, hweight, hbfirst,
    hphase, hvacant, hstage, hunfitted, huplift, hsuspects, hlength, hpanel.trans kpanel,
    (hblocks.mono (by simp)).trans kblocks⟩
  rw [kcounters, hcounters]

section
variable {s : State} {o : Outgoing}

theorem exec_attemptStart (hslot : s.link.slot = some o) (hwaits : o.sending = false) (hchar : s.link.charOn = false) :
    exec .attemptStart s = .next (s.atMoment (3 + o.k - s.link.silence) (State.beginAttempt o)) := by
  simp [exec, execAttemptStart, Link.waiting, hslot, hwaits, hchar]

theorem exec_attemptStart_busy (hslot : s.link.slot = some o) (hwaits : o.sending = false) (hchar : s.link.charOn = true) :
    exec .attemptStart s = .next s := by
  simp [exec, execAttemptStart, Link.waiting, hslot, hwaits, hchar]

/-- R120: without a character on the line, the silence reaches 3 + k before anything falls due just where P_b comes no
sooner. -/
theorem State.linkReaches_start (hslot : s.link.slot = some o) (hwaits : o.sending = false)
    (hchar : s.link.charOn = false) :
    s.linkReaches (3 + o.k - s.link.silence) = true
      ↔ 3 + o.k - s.link.silence ≤ 10 * s.conf.tag.pB - o.wait := by
  simp [State.linkReaches_waiting hslot hwaits, State.cutAllows, hchar]

/-- R120: on an empty queue the attempt begins at a silence of 3 + k. -/
theorem State.idle_start (hslot : s.link.slot = some o) (hwaits : o.sending = false) (hchar : s.link.charOn = false)
    (hover : 3 + o.k ≤ s.link.silence) : s.idle = s.beginAttempt o := by
  simp [State.idle, State.attemptDue, hslot, hwaits, Link.waitOver, hchar, hover]

end

/-- Settles O29: the attempt begins at its moment, by the row or by the idle step. -/
theorem attemptStartsTheBulletin : Obligations.AttemptStartsTheBulletin := by
  refine ⟨fun s o hslot hwaits hchar hfirst => ?_, fun s o hslot hwaits hnot => ?_,
    fun s o hempty hslot hwaits hchar hover => ?_⟩
  · rw [exec_attemptStart hslot hwaits hchar,
      State.atMoment_of_reached ((State.linkReaches_start hslot hwaits hchar).mpr hfirst)]
    exact ⟨_, rfl, (State.beginAttempt_begins _ _).after_line (s.pass_lineMoves _)⟩
  · cases hchar : s.link.charOn with
    | true => exact exec_attemptStart_busy hslot hwaits hchar
    | false =>
      have hlate : ¬ 3 + o.k - s.link.silence ≤ 10 * s.conf.tag.pB - o.wait := by
        rcases hnot with h | h
        · simp [hchar] at h
        · exact Nat.not_le.mpr h
      rw [exec_attemptStart hslot hwaits hchar,
        State.atMoment_of_not (mt (State.linkReaches_start hslot hwaits hchar).mp hlate)]
  · rw [step_of_empty hempty, State.idle_start hslot hwaits hchar hover]
    exact ⟨_, rfl, s.beginAttempt_begins o⟩

end Sys2Proof.Machine
end

section
/-! The bulletin on the wire: which bodies the receiver's parse reads, and that it reads a written bulletin back (R123, R128,
R188; O58). -/

namespace Sys2Proof.Machine

/-! ## Bytes of a body -/

theorem byteAt_drop (l : List Byte) (k i : Nat) : byteAt (l.drop k) i = byteAt l (k + i) := by
  simp [byteAt]

@[simp] theorem byteAt_zero (b : Byte) (l : List Byte) : byteAt (b :: l) 0 = b.toNat := rfl

@[simp] theorem byteAt_succ (b : Byte) (l : List Byte) (i : Nat) : byteAt (b :: l) (i + 1) = byteAt l i := rfl

theorem wordAt_drop (l : List Byte) (k i : Nat) : wordAt (l.drop k) i = wordAt l (k + i) := by
  simp [wordAt, byteAt_drop, Nat.add_assoc]

theorem ofBytes_two (a b : Byte) : ofBytes [a, b] = 256 * a.toNat + b.toNat := by
  simp [ofBytes, Nat.mul_comm]

/-- A list of at least `k` bytes begins with `k` bytes; `simp` takes it apart. -/
theorem exists_cons_of_le_length {α : Type} {n : Nat} {l : List α} (h : n + 1 ≤ l.length) :
    ∃ a t, l = a :: t ∧ n ≤ t.length := by
  cases l with
  | nil => simp at h
  | cons a t => exact ⟨a, t, rfl, by simpa using h⟩

/-! ## What each section's parse reads (R128) -/

/-- The parse `p` takes a section off `l` and leaves `r`. -/
def Reads {α : Type} (p : List Byte → Option (α × List Byte)) (l r : List Byte) : Prop := ∃ a, p l = some (a, r)

theorem reads_of_some {α : Type} {p : List Byte → Option (α × List Byte)} {l rest : List Byte} {a : α}
    (h : p l = some (a, rest)) (r : List Byte) : Reads p l r ↔ r = rest := by
  simp only [Reads, h, Option.some.injEq, Prod.mk.injEq]
  exact ⟨fun ⟨_, _, e⟩ => e.symm, fun e => ⟨a, rfl, e.symm⟩⟩

theorem not_reads_of_none {α : Type} {p : List Byte → Option (α × List Byte)} {l : List Byte} (h : p l = none)
    (r : List Byte) : ¬ Reads p l r := by
  simp [Reads, h]

/-- R128: the fields of a stage section that have a range. -/
def StageMeaningful (l : List Byte) : Prop :=
  wordAt l 2 ≤ 20000 ∧ wordAt l 0 ≤ wordAt l 2 ∧ byteAt l 10 ≤ 6 ∧ byteAt l 11 ≤ 1 ∧ byteAt l 15 ≤ 8

theorem parseStageSection_short {l : List Byte} (h : ¬ 16 ≤ l.length) : parseStageSection l = none := by
  unfold parseStageSection
  split
  · simp at h
  · rfl

theorem reads_stageSection (l r : List Byte) :
    Reads parseStageSection l r ↔ r = l.drop 16 ∧ 16 ≤ l.length ∧ StageMeaningful l := by
  by_cases hlength : 16 ≤ l.length
  · obtain ⟨t1, l1, rfl, h1⟩ := exists_cons_of_le_length hlength
    obtain ⟨t0, l2, rfl, h2⟩ := exists_cons_of_le_length h1
    obtain ⟨b1, l3, rfl, h3⟩ := exists_cons_of_le_length h2
    obtain ⟨b0, l4, rfl, h4⟩ := exists_cons_of_le_length h3
    obtain ⟨p1, l5, rfl, h5⟩ := exists_cons_of_le_length h4
    obtain ⟨p0, l6, rfl, h6⟩ := exists_cons_of_le_length h5
    obtain ⟨q1, l7, rfl, h7⟩ := exists_cons_of_le_length h6
    obtain ⟨q0, l8, rfl, h8⟩ := exists_cons_of_le_length h7
    obtain ⟨v1, l9, rfl, h9⟩ := exists_cons_of_le_length h8
    obtain ⟨v0, l10, rfl, h10⟩ := exists_cons_of_le_length h9
    obtain ⟨mx, l11, rfl, h11⟩ := exists_cons_of_le_length h10
    obtain ⟨cl, l12, rfl, h12⟩ := exists_cons_of_le_length h11
    obtain ⟨d1, l13, rfl, h13⟩ := exists_cons_of_le_length h12
    obtain ⟨d0, l14, rfl, h14⟩ := exists_cons_of_le_length h13
    obtain ⟨rs, l15, rfl, h15⟩ := exists_cons_of_le_length h14
    obtain ⟨rc, l16, rfl, -⟩ := exists_cons_of_le_length h15
    have hcond : (ofBytes [b1, b0] ≤ 20000 ∧ ofBytes [t1, t0] ≤ ofBytes [b1, b0] ∧ rc.toNat ≤ 8 ∧ mx.toNat ≤ 6
        ∧ cl.toNat ≤ 1) ↔ StageMeaningful
          (t1 :: t0 :: b1 :: b0 :: p1 :: p0 :: q1 :: q0 :: v1 :: v0 :: mx :: cl :: d1 :: d0 :: rs :: rc :: l16) := by
      simp only [ofBytes_two, StageMeaningful, wordAt, byteAt_succ, byteAt_zero]
      omega
    by_cases hc : StageMeaningful
        (t1 :: t0 :: b1 :: b0 :: p1 :: p0 :: q1 :: q0 :: v1 :: v0 :: mx :: cl :: d1 :: d0 :: rs :: rc :: l16)
    · exact (reads_of_some (if_pos (hcond.mpr hc)) r).trans (by simp [hc])
    · exact iff_of_false (not_reads_of_none (if_neg (mt hcond.mp hc)) r) fun ⟨_, _, h⟩ => hc h
  · exact iff_of_false (not_reads_of_none (parseStageSection_short hlength) r) fun ⟨_, h, _⟩ => hlength h

theorem reads_upliftSection (l r : List Byte) :
    Reads parseUpliftSection l r ↔ r = l.drop 3 ∧ 3 ≤ l.length ∧ byteAt l 0 % 4 ≤ 2 := by
  match l with
  | [] | [_] | [_, _] => simp [Reads, parseUpliftSection]
  | st :: v1 :: v0 :: rest =>
    have hsome (h : st.toNat % 4 ≤ 2) : ∃ u, parseUpliftSection (st :: v1 :: v0 :: rest) = some (u, rest) := by
      obtain h | h | h : st.toNat % 4 = 0 ∨ st.toNat % 4 = 1 ∨ st.toNat % 4 = 2 := by omega
      all_goals simp [parseUpliftSection, h]
    by_cases h : st.toNat % 4 ≤ 2
    · obtain ⟨u, hu⟩ := hsome h
      exact (reads_of_some hu r).trans (by simp [h])
    · have h3 : st.toNat % 4 = 3 := by omega
      exact iff_of_false (not_reads_of_none (by simp [parseUpliftSection, h3]) r) fun ⟨_, _, hc⟩ => h hc

theorem reads_identities (n : Nat) (l r : List Byte) :
    Reads (parseIdentities n) l r
      ↔ r = l.drop (3 * n) ∧ 3 * n ≤ l.length ∧ ∀ i < n, byteAt l (3 * i) ≤ 3 := by
  induction n generalizing l with
  | zero => simp [Reads, parseIdentities, eq_comm]
  | succ n ih =>
    match l with
    | [] | [_] | [_, _] =>
      refine iff_of_false (not_reads_of_none rfl r) fun ⟨_, hlength, _⟩ => ?_
      simp only [List.length_cons, List.length_nil] at hlength
      omega
    | a :: c1 :: c0 :: rest =>
      have hhead : (∀ i < n + 1, byteAt (a :: c1 :: c0 :: rest) (3 * i) ≤ 3)
          ↔ a.toNat ≤ 3 ∧ ∀ i < n, byteAt rest (3 * i) ≤ 3 := by
        rw [Nat.forall_lt_succ_left]
        rfl
      have hdrop : (a :: c1 :: c0 :: rest).drop (3 * (n + 1)) = rest.drop (3 * n) := rfl
      have hrest : Reads (parseIdentities (n + 1)) (a :: c1 :: c0 :: rest) r
          ↔ a.toNat ≤ 3 ∧ Reads (parseIdentities n) rest r := by
        simp only [Reads, parseIdentities]
        split
        · next ha =>
          cases parseIdentities n rest with
          | none => simp
          | some p => simp [ha, Prod.ext_iff]
        · next ha => simp [ha]
      rw [hrest, ih, hhead, hdrop]
      simp only [List.length_cons]
      constructor
      · rintro ⟨ha, hr, hlength, hlines⟩
        exact ⟨hr, by omega, ha, hlines⟩
      · rintro ⟨hr, hlength, ha, hlines⟩
        exact ⟨ha, hr, by omega, hlines⟩

theorem reads_connectionSection (l r : List Byte) :
    Reads parseConnectionSection l r
      ↔ r = l.drop (1 + 3 * byteAt l 0) ∧ 1 + 3 * byteAt l 0 ≤ l.length ∧ byteAt l 0 ≤ 4
        ∧ ∀ i < byteAt l 0, byteAt l (1 + 3 * i) ≤ 3 := by
  match l with
  | [] => simp [Reads, parseConnectionSection]
  | n :: rest =>
    have hdrop : (n :: rest).drop (1 + 3 * n.toNat) = rest.drop (3 * n.toNat) := by rw [Nat.add_comm]; rfl
    have hat (i : Nat) : byteAt (n :: rest) (1 + i) = byteAt rest i := by rw [Nat.add_comm]; rfl
    have hcount : Reads parseConnectionSection (n :: rest) r ↔ n.toNat ≤ 4 ∧ Reads (parseIdentities n.toNat) rest r := by
      simp only [Reads, parseConnectionSection]
      split
      · next hn => simp [hn]
      · next hn => simp [hn]
    simp only [hcount, reads_identities, byteAt_zero, hdrop, hat, List.length_cons]
    constructor
    · rintro ⟨hn, hr, hlength, hlines⟩
      exact ⟨hr, by omega, hn, hlines⟩
    · rintro ⟨hr, hlength, hn, hlines⟩
      exact ⟨hn, hr, by omega, hlines⟩

theorem reads_optional {α : Type} (present : Bool) (p : List Byte → Option (α × List Byte)) (l r : List Byte) :
    Reads (parseOptional present p) l r ↔ if present then Reads p l r else r = l := by
  cases present with
  | false => simp [Reads, parseOptional, eq_comm]
  | true =>
    simp only [Reads, parseOptional, if_true]
    cases p l with
    | none => simp
    | some a => simp [Prod.ext_iff]

/-! ## The whole body (R128, R188) -/

theorem Phase.ofCode_code (p : Phase) : Phase.ofCode p.code = some p := by cases p <;> rfl

theorem Phase.code_of_ofCode {n : Nat} {p : Phase} (h : Phase.ofCode n = some p) : p.code = n := by
  unfold Phase.ofCode at h
  split at h <;> cases h <;> rfl

theorem Phase.code_le (p : Phase) : p.code ≤ 6 := by cases p <;> decide

theorem Phase.code_ne_zero_iff (p : Phase) : p.code ≠ 0 ↔ (p != .vacant) = true := by cases p <;> decide

theorem Phase.exists_of_le {n : Nat} (h : n ≤ 6) : ∃ p, Phase.ofCode n = some p := by
  interval_cases n <;> exact ⟨_, rfl⟩

/-- R128: the codes of the header, and the STAGE flag as the phase asks. -/
def HeaderMeaningful (l : List Byte) : Prop :=
  byteAt l 0 ≤ 3 ∧ 1 ≤ byteAt l 3 / 16 ∧ byteAt l 3 / 16 ≤ 4 ∧ byteAt l 3 % 16 ≠ 0 ∧ byteAt l 6 ≤ 6
    ∧ (bodyFlag l 1 = true ↔ byteAt l 6 ≠ 0)

/-- The sections that a body announces are read off it, one after the other, to its end. -/
def SectionsRead (l : List Byte) : Prop :=
  ∃ r₁ r₂, (if bodyFlag l 1 then Reads parseStageSection (l.drop 7) r₁ else r₁ = l.drop 7)
    ∧ (if bodyFlag l 2 then Reads parseUpliftSection r₁ r₂ else r₂ = r₁)
    ∧ (if bodyFlag l 3 then Reads parseConnectionSection r₂ [] else [] = r₂)

theorem parseBody_short {l : List Byte} (h : ¬ 7 ≤ l.length) : parseBody l = none := by
  unfold parseBody
  split
  · simp at h
  · rfl

section
variable (ln c1 c0 cw sq fl ph : Byte) (rest : List Byte)

theorem headerMeaningful_iff :
    HeaderMeaningful (ln :: c1 :: c0 :: cw :: sq :: fl :: ph :: rest)
      ↔ ∃ p, Phase.ofCode ph.toNat = some p ∧ ln.toNat ≤ 3 ∧ 1 ≤ cw.toNat / 16 ∧ cw.toNat / 16 ≤ 4 ∧ cw.toNat % 16 ≠ 0
          ∧ fl.getLsbD 1 = (p != .vacant) := by
  have hflag {p : Phase} (hp : Phase.ofCode ph.toNat = some p) :
      (fl.getLsbD 1 = true ↔ ph.toNat ≠ 0) ↔ fl.getLsbD 1 = (p != .vacant) := by
    rw [← Phase.code_of_ofCode hp, p.code_ne_zero_iff]
    exact Bool.eq_iff_iff.symm
  constructor
  · rintro ⟨hline, hlow, hhigh, hweight, hphase, hstage⟩
    obtain ⟨p, hp⟩ := Phase.exists_of_le hphase
    exact ⟨p, hp, hline, hlow, hhigh, hweight, (hflag hp).mp hstage⟩
  · rintro ⟨p, hp, hline, hlow, hhigh, hweight, hstage⟩
    refine ⟨hline, hlow, hhigh, hweight, ?_, (hflag hp).mpr hstage⟩
    exact (Phase.code_of_ofCode hp).symm.trans_le p.code_le

theorem sectionsRead_iff :
    SectionsRead (ln :: c1 :: c0 :: cw :: sq :: fl :: ph :: rest)
      ↔ ∃ r₁ r₂, Reads (parseOptional (fl.getLsbD 1) parseStageSection) rest r₁
          ∧ Reads (parseOptional (fl.getLsbD 2) parseUpliftSection) r₁ r₂
          ∧ Reads (parseOptional (fl.getLsbD 3) parseConnectionSection) r₂ [] := by
  simp only [reads_optional]
  rfl

theorem parseBody_isSome_of_seven :
    (parseBody (ln :: c1 :: c0 :: cw :: sq :: fl :: ph :: rest)).isSome = true
      ↔ HeaderMeaningful (ln :: c1 :: c0 :: cw :: sq :: fl :: ph :: rest)
        ∧ SectionsRead (ln :: c1 :: c0 :: cw :: sq :: fl :: ph :: rest) := by
  rw [headerMeaningful_iff, sectionsRead_iff]
  simp only [parseBody]
  cases Phase.ofCode ph.toNat with
  | none => exact iff_of_false nofun fun ⟨⟨_, h, _⟩, _⟩ => nomatch h
  | some p =>
    simp only [Option.some.injEq, exists_eq_left']
    generalize parseOptional (fl.getLsbD 1) parseStageSection = stage,
      parseOptional (fl.getLsbD 2) parseUpliftSection = uplift,
      parseOptional (fl.getLsbD 3) parseConnectionSection = suspects
    split
    · next h =>
      rw [and_iff_right h]
      cases hstage : stage rest with
      | none => exact iff_of_false nofun fun ⟨r, _, hr, _⟩ => not_reads_of_none hstage r hr
      | some x =>
        simp only [reads_of_some hstage, exists_and_left, exists_eq_left]
        cases huplift : uplift x.2 with
        | none => exact iff_of_false nofun fun ⟨r, hr, _⟩ => not_reads_of_none huplift r hr
        | some y =>
          simp only [reads_of_some huplift, exists_eq_left]
          cases hsuspects : suspects y.2 with
          | none => exact iff_of_false nofun (not_reads_of_none hsuspects [])
          | some z =>
            obtain ⟨z, rest'⟩ := z
            rw [reads_of_some hsuspects]
            cases rest' <;> simp
    · next h => exact iff_of_false nofun fun ⟨h', _⟩ => h h'

end

/-! ## The content check (R128, R188) -/

theorem StageMeaningful.drop_seven (l : List Byte) :
    StageMeaningful (l.drop 7)
      ↔ wordAt l 9 ≤ 20000 ∧ wordAt l 7 ≤ wordAt l 9 ∧ byteAt l 17 ≤ 6 ∧ byteAt l 18 ≤ 1 ∧ byteAt l 22 ≤ 8 := by
  simp [StageMeaningful, wordAt_drop, byteAt_drop]

section
variable {l : List Byte}

theorem stageRead_iff (h : 7 ≤ l.length) (r : List Byte) :
    (if bodyFlag l 1 then Reads parseStageSection (l.drop 7) r else r = l.drop 7)
      ↔ r = l.drop (upliftAt l) ∧ upliftAt l ≤ l.length ∧ (bodyFlag l 1 = true → StageMeaningful (l.drop 7)) := by
  unfold upliftAt
  cases bodyFlag l 1 with
  | false => simp [h]
  | true =>
    have hlength : 16 ≤ l.length - 7 ↔ 7 + 16 ≤ l.length := by omega
    simp [reads_stageSection, hlength]

theorem upliftRead_iff (h : upliftAt l ≤ l.length) (r : List Byte) :
    (if bodyFlag l 2 then Reads parseUpliftSection (l.drop (upliftAt l)) r else r = l.drop (upliftAt l))
      ↔ r = l.drop (connectionAt l) ∧ connectionAt l ≤ l.length
        ∧ (bodyFlag l 2 = true → byteAt l (upliftAt l) % 4 ≤ 2) := by
  unfold connectionAt
  cases bodyFlag l 2 with
  | false => simp [h]
  | true =>
    have hlength : 3 ≤ l.length - upliftAt l ↔ upliftAt l + 3 ≤ l.length := by omega
    simp [reads_upliftSection, hlength, byteAt_drop]

theorem connectionRead_iff (h : connectionAt l ≤ l.length) :
    (if bodyFlag l 3 then Reads parseConnectionSection (l.drop (connectionAt l)) [] else [] = l.drop (connectionAt l))
      ↔ (bodyFlag l 3 = true → byteAt l (connectionAt l) ≤ 4
          ∧ ∀ i < byteAt l (connectionAt l), byteAt l (connectionAt l + 1 + 3 * i) ≤ 3)
        ∧ l.length =
          (if bodyFlag l 3 then connectionAt l + 1 + 3 * byteAt l (connectionAt l) else connectionAt l) := by
  have hend (k : Nat) : [] = l.drop k ↔ l.length ≤ k := by rw [eq_comm, List.drop_eq_nil_iff]
  cases bodyFlag l 3 with
  | false =>
    simp only [Bool.false_eq_true, if_false, hend, false_implies, true_and]
    omega
  | true =>
    simp only [if_true, reads_connectionSection, List.drop_drop, hend, byteAt_drop, List.length_drop, Nat.add_zero,
      ← Nat.add_assoc, true_implies]
    constructor
    · rintro ⟨hover, hunder, hcount, hlines⟩
      exact ⟨⟨hcount, hlines⟩, by omega⟩
    · rintro ⟨⟨hcount, hlines⟩, hlength⟩
      exact ⟨by omega, by omega, hcount, hlines⟩

/-- The sections in terms of the offsets of 12.1. -/
theorem sectionsRead_iff_at (h : 7 ≤ l.length) :
    SectionsRead l
      ↔ (bodyFlag l 1 = true → StageMeaningful (l.drop 7)) ∧ (bodyFlag l 2 = true → byteAt l (upliftAt l) % 4 ≤ 2)
        ∧ (bodyFlag l 3 = true → byteAt l (connectionAt l) ≤ 4
          ∧ ∀ i < byteAt l (connectionAt l), byteAt l (connectionAt l + 1 + 3 * i) ≤ 3)
        ∧ l.length =
          (if bodyFlag l 3 then connectionAt l + 1 + 3 * byteAt l (connectionAt l) else connectionAt l) := by
  constructor
  · rintro ⟨r₁, r₂, hstage, huplift, hsuspects⟩
    obtain ⟨rfl, hat, hstage⟩ := (stageRead_iff h r₁).mp hstage
    obtain ⟨rfl, hat, huplift⟩ := (upliftRead_iff hat r₂).mp huplift
    exact ⟨hstage, huplift, (connectionRead_iff hat).mp hsuspects⟩
  · rintro ⟨hstage, huplift, hsuspects⟩
    have hle : connectionAt l ≤ l.length := by
      obtain ⟨-, hlength⟩ := hsuspects
      split at hlength <;> omega
    have hle' : upliftAt l ≤ l.length := by
      refine le_trans ?_ hle
      unfold connectionAt
      split <;> omega
    exact ⟨_, _, (stageRead_iff h _).mpr ⟨rfl, hle', hstage⟩, (upliftRead_iff hle' _).mpr ⟨rfl, hle, huplift⟩,
      (connectionRead_iff hle).mpr hsuspects⟩

theorem seven_le_connectionAt (l : List Byte) : 7 ≤ connectionAt l := by
  unfold connectionAt upliftAt
  split <;> split <;> omega

theorem BodyMeaningful.seven_le (h : BodyMeaningful l) : 7 ≤ l.length := by
  obtain ⟨-, -, -, -, -, -, -, -, -, hlength⟩ := h
  have hseven := seven_le_connectionAt l
  split at hlength <;> omega

/-- The parse gives a bulletin exactly where the content check passes. -/
theorem parseBody_isSome_iff (l : List Byte) : (parseBody l).isSome = true ↔ BodyMeaningful l := by
  by_cases h : 7 ≤ l.length
  · have hparts : (parseBody l).isSome = true ↔ HeaderMeaningful l ∧ SectionsRead l := by
      obtain ⟨ln, l1, rfl, h1⟩ := exists_cons_of_le_length h
      obtain ⟨c1, l2, rfl, h2⟩ := exists_cons_of_le_length h1
      obtain ⟨c0, l3, rfl, h3⟩ := exists_cons_of_le_length h2
      obtain ⟨cw, l4, rfl, h4⟩ := exists_cons_of_le_length h3
      obtain ⟨sq, l5, rfl, h5⟩ := exists_cons_of_le_length h4
      obtain ⟨fl, l6, rfl, h6⟩ := exists_cons_of_le_length h5
      obtain ⟨ph, rest, rfl, -⟩ := exists_cons_of_le_length h6
      exact parseBody_isSome_of_seven ln c1 c0 cw sq fl ph rest
    rw [hparts, sectionsRead_iff_at h, StageMeaningful.drop_seven]
    simp only [HeaderMeaningful, BodyMeaningful, and_assoc]
  · exact iff_of_false (by simp [parseBody_short h]) fun hm => h hm.seven_le

end

end Sys2Proof.Machine
end

section
/-! A written bulletin is read back as itself (12.1, R123, R128, R188; O58). -/

namespace Sys2Proof.Machine

/-! ## Fields of the encodings (12, 12.1) -/

theorem byte_toNat {n : Nat} (h : n ≤ 255) : (byte n).toNat = n := by
  simp [byte]
  omega

theorem ofBytes_word {n : Nat} (h : n ≤ 65535) : ofBytes [byte (n / 256), byte n] = n := by
  simp [ofBytes_two, byte]
  omega

theorem ofBytes16s_word {i : Int} (hlow : -32768 ≤ i) (hhigh : i ≤ 32767) :
    ofBytes16s [byte ((i % 65536).toNat / 256), byte (i % 65536).toNat] = i := by
  unfold ofBytes16s
  rw [ofBytes_word (by omega)]
  simp only
  split <;> omega

/-- The number that a list of flags spells, bit 0 first. -/
def flagNumber (l : List Bool) : Nat := l.foldr (fun b a => (if b then 1 else 0) + 2 * a) 0

theorem flagNumber_testBit (l : List Bool) (i : Nat) : (flagNumber l).testBit i = l.getD i false := by
  induction l generalizing i with
  | nil => simp [flagNumber]
  | cons b l ih =>
    have hcons : flagNumber (b :: l) = Nat.bit b (flagNumber l) := by
      cases b <;> simp [flagNumber, Nat.bit, Nat.add_comm]
    rw [hcons]
    cases i with
    | zero => simp
    | succ i => rw [Nat.testBit_bit_succ, ih]; rfl

/-- A flag byte holds its flags, bit 0 first. -/
theorem flagByte_getLsbD (l : List Bool) {i : Nat} (h : i < 8) : (flagByte l).getLsbD i = l.getD i false := by
  have hbyte : flagByte l = BitVec.ofNat 8 (flagNumber l) := rfl
  rw [hbyte, BitVec.getLsbD_ofNat, flagNumber_testBit, decide_eq_true h, Bool.true_and]

theorem Restraints.ofSummary_summary (r : Restraints) : Restraints.ofSummary r.summary = r := by
  simp only [Restraints.ofSummary, Restraints.summary, flagByte_getLsbD _ (by decide : (0 : Nat) < 8),
    flagByte_getLsbD _ (by decide : (1 : Nat) < 8), flagByte_getLsbD _ (by decide : (2 : Nat) < 8),
    flagByte_getLsbD _ (by decide : (3 : Nat) < 8), flagByte_getLsbD _ (by decide : (4 : Nat) < 8),
    flagByte_getLsbD _ (by decide : (5 : Nat) < 8), flagByte_getLsbD _ (by decide : (6 : Nat) < 8),
    flagByte_getLsbD _ (by decide : (7 : Nat) < 8)]
  rfl

/-! ## Sections read back -/

theorem StageSection.parse_bytes {x : StageSection} (h : x.wf) (rest : List Byte) :
    parseStageSection (x.bytes ++ rest) = some (x, rest) := by
  obtain ⟨hbottom, htop, hlow, hhigh, hq, hv, hmix, hdemand, hreached⟩ := h
  have hmixByte : (byte (x.mix.getD 0)).toNat = x.mix.getD 0 := by
    refine byte_toNat ?_
    cases hm : x.mix with
    | none => simp
    | some m => exact (hmix m hm).2.trans (by decide)
  have hmixLe : x.mix.getD 0 ≤ 6 := by
    cases hm : x.mix with
    | none => simp
    | some m => exact (hmix m hm).2
  have hmixBack : (if x.mix.getD 0 = 0 then none else some (x.mix.getD 0)) = x.mix := by
    cases hm : x.mix with
    | none => simp
    | some m => simp [Nat.ne_of_gt (hmix m hm).1]
  have hcritical : (boolByte x.critical).toNat ≤ 1 ∧ ((boolByte x.critical).toNat == 1) = x.critical := by
    cases x.critical <;> decide
  have hreachedByte : (byte x.reached).toNat = x.reached := byte_toNat (by omega)
  simp only [StageSection.bytes, be16, be16s, List.cons_append, List.nil_append, parseStageSection,
    ofBytes_word (show x.bottom ≤ 65535 by omega), ofBytes_word (show x.top ≤ 65535 by omega), ofBytes_word hq,
    ofBytes_word hv, ofBytes_word hdemand, ofBytes16s_word hlow hhigh, hmixByte, hreachedByte, hmixBack, hcritical.2,
    Restraints.ofSummary_summary]
  rw [if_pos ⟨hbottom, htop, hreached, hmixLe, hcritical.1⟩]

/-- 12.1: the code of an uplift state. -/
def UpliftState.code : UpliftState → Nat
  | .normal => 0
  | .alert => 1
  | .stop => 2

theorem Uplift.stateByte_parse (u : Uplift) :
    u.stateByte.getLsbD 7 = u.gaugeFailed ∧ u.stateByte.toNat % 4 = u.state.code := by
  obtain ⟨state, value, failed⟩ := u
  cases state <;> cases failed <;> simp [Uplift.stateByte, UpliftState.code]

theorem Uplift.parse_bytes {u : Uplift} (h : u.wf) (rest : List Byte) :
    parseUpliftSection (u.bytes ++ rest) = some (u, rest) := by
  obtain ⟨hfailed, hstate⟩ := u.stateByte_parse
  have hvalue : (if u.gaugeFailed then none
      else some (ofBytes16s (be16s (if u.gaugeFailed then 0 else u.value.getD 0)))) = u.value := by
    unfold Uplift.wf at h
    cases hv : u.value with
    | none =>
      rw [hv] at h
      simp [h]
    | some v =>
      rw [hv] at h
      obtain ⟨hgood, hlow, hhigh⟩ := h
      simp only [hgood, Bool.false_eq_true, if_false, Option.getD_some]
      exact congrArg some (ofBytes16s_word hlow hhigh)
  obtain ⟨state, value, failed⟩ := u
  simp only at hvalue hfailed hstate
  cases state <;>
    · simp only [UpliftState.code] at hstate
      simp only [Uplift.bytes, List.cons_append, be16s, be16, List.nil_append, parseUpliftSection, hfailed, hstate]
      simp only [be16s, be16] at hvalue
      rw [hvalue]

theorem parseIdentities_bytes {l : List Identity} (h : ∀ i ∈ l, i.wf = true) (rest : List Byte) :
    parseIdentities l.length (l.flatMap identityBytes ++ rest) = some (l, rest) := by
  induction l with
  | nil => rfl
  | cons i l ih =>
    have hi : i.line ≤ 3 ∧ i.chainage ≤ 65535 := by simpa [Identity.wf] using h i (by simp)
    obtain ⟨hline, hchainage⟩ := hi
    have hbyte : (byte i.line).toNat = i.line := byte_toNat (by omega)
    simp only [List.length_cons, List.flatMap_cons, identityBytes, be16, List.cons_append, List.nil_append,
      parseIdentities, hbyte, hline, if_true, ofBytes_word hchainage]
    rw [ih fun j hj => h j (List.mem_cons_of_mem _ hj)]

theorem parseConnectionSection_bytes {l : List Identity} (hcount : l.length ≤ 4) (h : ∀ i ∈ l, i.wf = true)
    (rest : List Byte) : parseConnectionSection (identityList l ++ rest) = some (l, rest) := by
  have hbyte : (byte l.length).toNat = l.length := byte_toNat (by omega)
  simp only [identityList, List.cons_append, parseConnectionSection, hbyte, hcount, if_true, parseIdentities_bytes h]

/-- An optional section is read back, present or not. -/
theorem parseOptional_bytes {α : Type} {x : Option α} {p : List Byte → Option (α × List Byte)} {bytes : α → List Byte}
    {rest : List Byte} (h : ∀ a, x = some a → p (bytes a ++ rest) = some (a, rest)) :
    parseOptional x.isSome p ((x.map bytes).getD [] ++ rest) = some (x, rest) := by
  cases x with
  | none => rfl
  | some a => simp [parseOptional, h a rfl]

/-! ## The whole bulletin -/

theorem Bulletin.body_eq (b : Bulletin) :
    b.body = byte b.identity.line :: byte (b.identity.chainage / 256) :: byte b.identity.chainage
      :: classWeight b.cls b.weight :: byte b.seq :: b.flags :: byte b.phase.code
      :: ((b.stage.map StageSection.bytes).getD [] ++ ((b.uplift.map Uplift.bytes).getD []
        ++ ((b.suspects.map identityList).getD [] ++ []))) := by
  unfold Bulletin.body
  cases b.stage <;> cases b.uplift <;> cases b.suspects <;>
    simp [identityBytes, be16]

theorem Bulletin.parse_body {b : Bulletin} (h : b.wf) : parseBody b.body = some b := by
  obtain ⟨hidentity, hcls, hcls', hweight, hweight', hseq, hphase, hstage, huplift, hsuspects⟩ := h
  have hi : b.identity.line ≤ 3 ∧ b.identity.chainage ≤ 65535 := by simpa [Identity.wf] using hidentity
  obtain ⟨hline, hchainage⟩ := hi
  have hlineByte : (byte b.identity.line).toNat = b.identity.line := byte_toNat (by omega)
  have hseqByte : (byte b.seq).toNat = b.seq := byte_toNat hseq
  have hphaseByte : (byte b.phase.code).toNat = b.phase.code := byte_toNat (b.phase.code_le.trans (by decide))
  have hclass : (classWeight b.cls b.weight).toNat = b.cls * 16 + b.weight := byte_toNat (by omega)
  have hclsBack : (b.cls * 16 + b.weight) / 16 = b.cls := by omega
  have hweightBack : (b.cls * 16 + b.weight) % 16 = b.weight := by omega
  have hflags (i : Nat) (hi : i < 8) :
      b.flags.getLsbD i = [b.first, b.stage.isSome, b.uplift.isSome, b.suspects.isSome].getD i false :=
    flagByte_getLsbD _ hi
  have hfirst : b.flags.getLsbD 0 = b.first := hflags 0 (by decide)
  have hone : b.flags.getLsbD 1 = b.stage.isSome := hflags 1 (by decide)
  have htwo : b.flags.getLsbD 2 = b.uplift.isSome := hflags 2 (by decide)
  have hthree : b.flags.getLsbD 3 = b.suspects.isSome := hflags 3 (by decide)
  have hasked : b.stage.isSome = (b.phase != .vacant) := by
    rw [hphase]
    cases b.phase <;> rfl
  rw [b.body_eq]
  simp only [parseBody, hlineByte, hseqByte, hphaseByte, hclass, hclsBack, hweightBack, Phase.ofCode_code, hfirst, hone,
    htwo, hthree, ofBytes_word hchainage]
  rw [if_pos ⟨hline, hcls, hcls', by omega, hasked⟩,
    parseOptional_bytes fun x hx => StageSection.parse_bytes (hstage x hx) _]
  simp only
  rw [parseOptional_bytes fun u hu => Uplift.parse_bytes (huplift u hu) _]
  simp only
  rw [parseOptional_bytes fun l hl => parseConnectionSection_bytes (hsuspects l hl).1 (hsuspects l hl).2 []]

theorem Bulletin.body_length_le {b : Bulletin} (h : b.wf) : 7 ≤ b.body.length ∧ b.body.length ≤ 39 := by
  obtain ⟨-, -, -, -, -, -, -, -, -, hsuspects⟩ := h
  have hlist : (b.suspects.map fun l => 1 + 3 * l.length).getD 0 ≤ 13 := by
    cases hl : b.suspects with
    | none => simp
    | some l =>
      obtain ⟨hcount, -⟩ := hsuspects l hl
      simp only [Option.map_some, Option.getD_some]
      omega
  rw [b.body_length]
  constructor
  · omega
  · split <;> split <;> omega

/-- R128: the checks answer good where the check value agrees and the body parses. -/
theorem checkFrame_good {n : Byte} {body check : List Byte} {b : Bulletin} (hcheck : be16 (crc16 (n :: body)).toNat = check)
    (hbody : parseBody body = some b) : checkFrame n body check = .good b := by
  simp [checkFrame, hcheck, hbody]

/-- Settles O58: the parse against the content check, and the round trip. -/
theorem bulletinRoundTrip : Obligations.BulletinRoundTrip := by
  refine ⟨parseBody_isSome_iff, fun b h => ?_⟩
  obtain ⟨hlow, hhigh⟩ := Bulletin.body_length_le h
  exact ⟨hlow, hhigh, Bulletin.parse_body h, rfl, checkFrame_good rfl (Bulletin.parse_body h)⟩

end Sys2Proof.Machine
end

section
/-! The receiver's frames: how each ends, and which counter it changes (R127 to R130, R188; O33). -/

namespace Sys2Proof.Machine

/-! ## The ends of a frame (R127, R128) -/

/-- R127: a frame that ends as a fragment with a character of its own. -/
theorem Link.charEnd_fragment (l : Link) :
    l.charEnd.fragment
      = { l.afterFrame with counters := { l.counters with fragment := satSucc 65535 l.counters.fragment } } := rfl

/-- R128, check 1. -/
theorem Link.charEnd_badLength (l : Link) :
    l.charEnd.badLength
      = { l.afterFrame with counters := { l.counters with badLength := satSucc 65535 l.counters.badLength } } := rfl

theorem lengthOk_iff (n : Byte) : lengthOk n = true ↔ 7 ≤ n.toNat ∧ n.toNat ≤ 39 := by
  simp [lengthOk]

section
variable {s : State} {n : Byte} {rest : List Byte}

/-- A whole frame that the receiver may take goes to the checks of R128. -/
theorem exec_frameReceived (hlow : 7 ≤ n.toNat) (hhigh : n.toNat ≤ 39) (hrest : rest.length = n.toNat + 2)
    (hmay : s.link.mayFrame (0x55#8 :: 0xD2#8 :: n :: rest) = true) :
    exec (.frameReceived (n :: rest)) s
      = .next ((s.modLink Link.charEnd).finishFrame n (rest.take n.toNat) (rest.drop n.toNat)) := by
  have hshape : (lengthOk n && decide (rest.length = n.toNat + 2) && s.link.mayFrame (lead ++ n :: rest)) = true := by
    rw [(lengthOk_iff n).mpr ⟨hlow, hhigh⟩, decide_eq_true hrest]
    exact hmay
  simp only [exec, execFrameReceived, State.wholeFrame]
  rw [if_pos hshape]

variable {body check : List Byte}

/-- R128, check 2: the check value differs. -/
theorem State.finishFrame_of_crc (h : be16 (crc16 (n :: body)).toNat ≠ check) (s : State) :
    (s.modLink Link.charEnd).finishFrame n body check
      = { s with link := { s.link.afterFrame with
          counters := { s.link.counters with crcFailed := satSucc 65535 s.link.counters.crcFailed } } } := by
  have hcheck : checkFrame n body check = .crcFailed := if_neg h
  simp only [State.finishFrame, hcheck]
  rfl

/-- R128, R188: the content is not meaningful. -/
theorem State.finishFrame_of_content (h : be16 (crc16 (n :: body)).toNat = check) (hbody : ¬ BodyMeaningful body)
    (s : State) :
    (s.modLink Link.charEnd).finishFrame n body check
      = { s with link := { s.link.afterFrame with
          counters := { s.link.counters with badContent := satSucc 65535 s.link.counters.badContent } } } := by
  have hnone : parseBody body = none := by
    rw [← Option.not_isSome_iff_eq_none, parseBody_isSome_iff]
    exact hbody
  have hcheck : checkFrame n body check = .badContent := by simp [checkFrame, h, hnone]
  simp only [State.finishFrame, hcheck]
  rfl

/-- R128, R129: the link after a good frame, before its bulletin is admitted. -/
def Link.goodFrame (l : Link) : Link :=
  { l.afterFrame with counters := { l.counters with good := satSucc 65535 l.counters.good } }

/-- R128, R129: a good frame is counted, and its bulletin admitted on a working station. -/
theorem State.finishFrame_of_good {b : Bulletin} (h : checkFrame n body check = .good b) (s : State) :
    (s.modLink Link.charEnd).finishFrame n body check
      = if s.working then (s.modLink Link.goodFrame).admission b else s.modLink Link.goodFrame := by
  simp only [State.finishFrame, h]
  rfl

/-! ## Fragments (R127) -/

theorem exec_fragment_silence (hframe : s.link.receiver.inFrame = true) (hchar : s.link.charOn = false) :
    exec (.fragment .silence) s
      = .next (s.atMoment (2 - s.link.silence) fun t =>
          if t.link.receiver.inFrame then t.modLink Link.fragment else t) := by
  simp [exec, execFragment, State.endFragment, hframe, hchar]

theorem exec_fragment_silence_not
    (h : s.link.receiver.inFrame = false ∨ s.link.charOn = true ∨ s.linkReaches (2 - s.link.silence) = false) :
    exec (.fragment .silence) s = .next s := by
  cases hframe : s.link.receiver.inFrame with
  | false => simp [exec, execFragment, State.endFragment, hframe]
  | true =>
    cases hchar : s.link.charOn with
    | true => simp [exec, execFragment, State.endFragment, hchar]
    | false =>
      have hnot : s.linkReaches (2 - s.link.silence) = false := by simpa [hframe, hchar] using h
      rw [exec_fragment_silence hframe hchar, State.atMoment_of_not (by simp [hnot])]

/-- R115: a silence below 3 brings nothing to the receiver. -/
theorem Link.pass_of_short {l : Link} {d : Nat} (h : l.silence + d < 3) (working : Bool) :
    (l.pass working d).receiver = l.receiver ∧ (l.pass working d).counters = l.counters
      ∧ (l.pass working d).idle = l.idle := by
  unfold Link.pass Link.silenceReached
  rw [if_neg]
  · exact ⟨rfl, rfl, rfl⟩
  · rintro ⟨hchar, hsilence⟩
    simp only at hchar hsilence
    rw [if_neg (by simp [hchar])] at hsilence
    omega

/-- A frame that ends as a fragment after time has passed. -/
theorem LinkTimeFrame.fragment {t : State} (h : LinkTimeFrame s t) : LinkTimeFrame s (t.modLink Link.fragment) := by
  obtain ⟨hblocks, hpanel, hseq, hfirst, hmark, hdrops, hchar, hcut, hcounters⟩ := h
  refine ⟨hblocks.trans ((t.modLink_onlyChanges _).mono (by simp)), hpanel, hseq, hfirst, hmark, hdrops, hchar, hcut, ?_⟩
  simp only [State.modLink, Link.fragment]
  rw [hcounters]

/-- R127: FRAGMENT by a silence, at the moment just past 2 character times. -/
theorem exec_fragment_silence_counts (hframe : s.link.receiver.inFrame = true) (hchar : s.link.charOn = false)
    (hsilence : s.link.silence ≤ 2) (hreach : s.linkReaches (2 - s.link.silence) = true) :
    ∃ t, exec (.fragment .silence) s = .next t
      ∧ t.link.counters = { s.link.counters with fragment := satSucc 65535 s.link.counters.fragment }
      ∧ t.link.receiver = (if s.link.idle then .ready else .hunting) ∧ LinkTimeFrame s t := by
  obtain ⟨hreceiver, hcounters, hidle⟩ :=
    Link.pass_of_short (l := s.link) (d := 2 - s.link.silence) (by omega) s.working
  rw [exec_fragment_silence hframe hchar, State.atMoment_of_reached hreach, State.pass_link, hreceiver, if_pos hframe]
  refine ⟨_, rfl, ?_, ?_, (s.pass_linkTimeFrame _).fragment⟩
  · simp only [State.modLink, Link.fragment, State.pass_link, hcounters]
    rfl
  · simp only [State.modLink, Link.fragment, State.pass_link, hidle]

/-- R127: FRAGMENT by a character of its own. -/
theorem exec_fragment_character {why : FragmentCause} (hsending : s.link.sending = none)
    (h : why = .framing ∧ s.link.receiver.inFrame = true
      ∨ why = .badLead ∧ (s.link.receiver = .ready ∨ ∃ x, s.link.receiver = .receiving [x])) :
    exec (.fragment why) s = .next (s.modLink fun l => l.charEnd.fragment) := by
  rcases h with ⟨rfl, hframe⟩ | ⟨rfl, hready | ⟨x, hfirst⟩⟩
  · simp [exec, execFragment, State.endFragment, hframe, hsending]
  · simp [exec, execFragment, State.endFragment, hready, hsending]
  · simp [exec, execFragment, State.endFragment, hfirst, hsending]

/-- R128, check 1: BAD_LENGTH_FRAME. -/
theorem exec_badLengthFrame (h : n.toNat < 7 ∨ 39 < n.toNat) (hmay : s.link.mayFrame [0x55#8, 0xD2#8, n] = true) :
    exec (.badLengthFrame n) s = .next (s.modLink fun l => l.charEnd.badLength) := by
  have hbad : (!lengthOk n && s.link.mayFrame (lead ++ [n])) = true := by
    have hlength : lengthOk n = false := by
      rw [← Bool.not_eq_true, lengthOk_iff]
      omega
    rw [hlength]
    exact hmay
  simp only [exec, execBadLengthFrame, State.badLengthFrame]
  rw [if_pos hbad]

end

/-- Settles O33: each way a frame is discarded, and the one counter it changes. -/
theorem discardedFramesAreCountedOnce : Obligations.DiscardedFramesAreCountedOnce := by
  refine ⟨fun s hframe hchar hsilence hreach => exec_fragment_silence_counts hframe hchar hsilence hreach,
    fun s h => exec_fragment_silence_not h, fun s why hsending h => exec_fragment_character hsending h,
    fun s n h hmay => exec_badLengthFrame h hmay, fun s n rest hlow hhigh hrest hmay => ?_⟩
  simp only [exec_frameReceived hlow hhigh hrest hmay]
  refine ⟨fun hcheck => ?_, fun hcheck hbody => ?_, fun hcheck hbody hidle => ?_⟩
  · rw [State.finishFrame_of_crc hcheck]
  · rw [State.finishFrame_of_content hcheck hbody]
  · obtain ⟨b, hb⟩ := Option.isSome_iff_exists.mp ((parseBody_isSome_iff _).mpr hbody)
    rw [State.finishFrame_of_good (checkFrame_good hcheck hb), hidle]
    rfl

end Sys2Proof.Machine
end

section
/-! The line and its characters: LINE_IDLE, START_BIT_SEEN, CHARACTER_RECEIVED and the end of a cut attempt's last character
(R114, R115, R124, R125, R127, R128, R131; O32). -/

namespace Sys2Proof.Machine

section
variable {s : State}

/-! ## LINE_IDLE (R115) -/

/-- R115, R127: at a silence of 3 the line is idle and the receiver ready; a frame in reception has become a fragment. -/
theorem Link.pass_of_long {l : Link} {d : Nat} (hbusy : l.idle = false) (hchar : l.charOn = false)
    (h : 3 ≤ l.silence + d) (working : Bool) :
    (l.pass working d).idle = true ∧ (l.pass working d).receiver = .ready
      ∧ (l.pass working d).counters.fragment
        = if l.receiver.inFrame then satSucc 65535 l.counters.fragment else l.counters.fragment := by
  have hsilence : 3 ≤ if l.charOn then l.silence else l.silence + d := by simpa [hchar] using h
  unfold Link.pass Link.silenceReached
  rw [if_pos ⟨hchar, hsilence⟩]
  cases l.receiver <;>
    simp [LinkReceiver.inFrame, Link.becomeIdle, Link.fragment, hbusy, max16]

theorem exec_lineIdle (hbusy : s.link.idle = false) (hchar : s.link.charOn = false) :
    exec .lineIdle s = .next (s.atMoment (3 - s.link.silence) id) := by
  simp [exec, execLineIdle, hbusy, hchar]

theorem exec_lineIdle_reached (hbusy : s.link.idle = false) (hchar : s.link.charOn = false)
    (hreach : s.linkReaches (3 - s.link.silence) = true) :
    ∃ t, exec .lineIdle s = .next t ∧ t.link.idle = true ∧ t.link.silence = max s.link.silence 3
      ∧ t.link.receiver = .ready
      ∧ t.link.counters.fragment =
          (if s.link.receiver.inFrame then satSucc 65535 s.link.counters.fragment else s.link.counters.fragment)
      ∧ t.link.generator = s.link.generator ∧ LinkTimeFrame s t := by
  have hsilence : (s.pass (3 - s.link.silence)).link.silence = max s.link.silence 3 := by
    simp only [State.pass_link, Link.pass_frame, hchar, Bool.false_eq_true, if_false]
    omega
  obtain ⟨hidle, hready, hfragment⟩ :=
    Link.pass_of_long (d := 3 - s.link.silence) hbusy hchar (by omega) s.working
  rw [exec_lineIdle hbusy hchar, State.atMoment_of_reached hreach]
  exact ⟨_, rfl, hidle, hsilence, hready, hfragment, by simp, s.pass_linkTimeFrame _⟩

theorem exec_lineIdle_not (h : s.link.idle = true ∨ s.link.charOn = true ∨ s.linkReaches (3 - s.link.silence) = false) :
    exec .lineIdle s = .next s := by
  cases hbusy : s.link.idle with
  | true => simp [exec, execLineIdle, hbusy]
  | false =>
    cases hchar : s.link.charOn with
    | true => simp [exec, execLineIdle, hchar]
    | false =>
      have hnot : s.linkReaches (3 - s.link.silence) = false := by simpa [hbusy, hchar] using h
      rw [exec_lineIdle hbusy hchar, State.atMoment_of_not (by simp [hnot])]

/-! ## A character while nothing is sent (R127) -/

theorem exec_characterReceived (b : Byte) (stop : Bool) (s : State) :
    exec (.characterReceived b stop) s = .next (s.character b stop) := rfl

theorem State.character_heard (h : s.link.sending = none) (b : Byte) (stop : Bool) :
    s.character b stop = (s.modLink Link.charEnd).receive b stop := by
  simp only [State.character, h]

/-- R127: a receiver that hunts, and a ready one at a character without its stop bit, take nothing. -/
theorem State.character_ignored (h : s.link.sending = none) {b : Byte} {stop : Bool}
    (hr : s.link.receiver = .hunting ∨ s.link.receiver = .ready ∧ stop = false) :
    s.character b stop = s.modLink Link.charEnd := by
  have hreceiver : (s.modLink Link.charEnd).link.receiver = s.link.receiver := rfl
  rw [State.character_heard h]
  unfold State.receive
  rw [hreceiver]
  rcases hr with hr | ⟨hr, rfl⟩ <;> simp [hr]

/-- R127: a good character at a ready receiver is a frame's first. -/
theorem State.character_first (h : s.link.sending = none) (hr : s.link.receiver = .ready) (b : Byte) :
    s.character b true = (s.modLink Link.charEnd).frameCharacter [b] b := by
  have hreceiver : (s.modLink Link.charEnd).link.receiver = .ready := hr
  rw [State.character_heard h]
  unfold State.receive
  rw [hreceiver]
  rfl

/-- R127: in a frame a good character is gathered. -/
theorem State.character_next (h : s.link.sending = none) {got : List Byte} (hr : s.link.receiver = .receiving got)
    (b : Byte) : s.character b true = (s.modLink Link.charEnd).frameCharacter (got ++ [b]) b := by
  have hreceiver : (s.modLink Link.charEnd).link.receiver = .receiving got := hr
  rw [State.character_heard h]
  unfold State.receive
  rw [hreceiver]
  rfl

/-- R127: a framing failure ends the frame as a fragment. -/
theorem State.character_framing (h : s.link.sending = none) {got : List Byte} (hr : s.link.receiver = .receiving got)
    (b : Byte) : s.character b false = s.modLink fun l => l.charEnd.fragment := by
  have hreceiver : (s.modLink Link.charEnd).link.receiver = .receiving got := hr
  rw [State.character_heard h]
  unfold State.receive
  rw [hreceiver]
  rfl

/-- R127: the receiver has the characters `got` of a frame, and a new silence begins. -/
def Link.gathered (got : List Byte) (l : Link) : Link := { l.charEnd with receiver := .receiving got }

theorem State.frameCharacter_first (b : Byte) (s : State) :
    (s.modLink Link.charEnd).frameCharacter [b] b
      = s.modLink fun l => if b = 0x55#8 then l.gathered [b] else l.charEnd.fragment := by
  simp only [State.frameCharacter, State.modLink]
  split <;> rfl

theorem State.frameCharacter_second (x b : Byte) (s : State) :
    (s.modLink Link.charEnd).frameCharacter [x, b] b
      = s.modLink fun l => if b = 0xD2#8 then l.gathered [x, b] else l.charEnd.fragment := by
  simp only [State.frameCharacter, State.modLink]
  split <;> rfl

theorem State.frameCharacter_length (x y b : Byte) (s : State) :
    (s.modLink Link.charEnd).frameCharacter [x, y, b] b
      = s.modLink fun l => if 7 ≤ b.toNat ∧ b.toNat ≤ 39 then l.gathered [x, y, b] else l.charEnd.badLength := by
  by_cases hb : lengthOk b = true
  · simp only [State.frameCharacter, hb, if_true, (lengthOk_iff b).mp hb, and_self]
    rfl
  · simp only [State.frameCharacter, hb, mt (lengthOk_iff b).mpr hb]
    rfl

/-- R127: after the length a character is gathered, unless the frame is whole with it. -/
theorem State.frameCharacter_body (x y n b : Byte) {got : List Byte} (h : got ≠ []) (s : State) :
    (s.modLink Link.charEnd).frameCharacter (x :: y :: n :: got) b
      = if n.toNat + 2 ≤ got.length then
          (s.modLink Link.charEnd).finishFrame n (got.take n.toNat) (got.drop n.toNat)
        else s.modLink (Link.gathered (x :: y :: n :: got)) := by
  obtain ⟨z, more, rfl⟩ := List.exists_cons_of_ne_nil h
  rfl

theorem State.frameCharacter_later {x y n b : Byte} {rest : List Byte} (h : rest.length + 1 < n.toNat + 2) (s : State) :
    (s.modLink Link.charEnd).frameCharacter (x :: y :: n :: rest ++ [b]) b
      = s.modLink (Link.gathered (x :: y :: n :: (rest ++ [b]))) := by
  refine (State.frameCharacter_body x y n b (by simp) s).trans (if_neg ?_)
  simpa using h

theorem State.frameCharacter_last {x y n b : Byte} {rest : List Byte} (h : rest.length + 1 = n.toNat + 2) (s : State) :
    (s.modLink Link.charEnd).frameCharacter (x :: y :: n :: rest ++ [b]) b
      = (s.modLink Link.charEnd).finishFrame n ((rest ++ [b]).take n.toNat) ((rest ++ [b]).drop n.toNat) := by
  refine (State.frameCharacter_body x y n b (by simp) s).trans (if_pos ?_)
  simp [h]

/-! ## A whole frame, character by character (R127, R128) -/

/-- Characters gathered one after the other leave what the last of them leaves. -/
theorem State.character_gathered (h : s.link.sending = none) (x y n : Byte) (rest more : List Byte)
    (hroom : rest.length + more.length < n.toNat + 2) :
    more.foldl (fun u b => u.character b true) (s.modLink (Link.gathered (x :: y :: n :: rest)))
      = s.modLink (Link.gathered (x :: y :: n :: (rest ++ more))) := by
  induction more generalizing rest with
  | nil => simp
  | cons b more ih =>
    simp only [List.length_cons] at hroom
    have hstep : (s.modLink (Link.gathered (x :: y :: n :: rest))).character b true
        = s.modLink (Link.gathered (x :: y :: n :: (rest ++ [b]))) := by
      rw [State.character_next (s := s.modLink (Link.gathered _)) h rfl, State.frameCharacter_later (by omega)]
      rfl
    rw [List.foldl_cons, hstep, ih _ (by simp only [List.length_append, List.length_singleton]; omega)]
    simp

/-- A whole frame delivered to a ready receiver is one FRAME_RECEIVED. -/
theorem exec_frameReceived_delivered {n : Byte} {rest : List Byte} (h : s.link.sending = none)
    (hready : s.link.receiver = .ready) (hlow : 7 ≤ n.toNat) (hhigh : n.toNat ≤ 39)
    (hrest : rest.length = n.toNat + 2) :
    exec (.frameReceived (n :: rest)) s
      = .next ((0x55#8 :: 0xD2#8 :: n :: rest).foldl (fun u b => u.character b true) s) := by
  have hmay : s.link.mayFrame (0x55#8 :: 0xD2#8 :: n :: rest) = true := by
    simp [Link.mayFrame, h, hready]
  rw [exec_frameReceived hlow hhigh hrest hmay]
  congr 1
  have hfirst : s.character 0x55#8 true = s.modLink (Link.gathered [0x55#8]) := by
    rw [State.character_first h hready, State.frameCharacter_first]
    rfl
  have hsecond : (s.modLink (Link.gathered [0x55#8])).character 0xD2#8 true
      = s.modLink (Link.gathered [0x55#8, 0xD2#8]) := by
    rw [State.character_next (s := s.modLink (Link.gathered _)) h rfl]
    exact State.frameCharacter_second _ _ _
  have hlength : (s.modLink (Link.gathered [0x55#8, 0xD2#8])).character n true
      = s.modLink (Link.gathered [0x55#8, 0xD2#8, n]) := by
    rw [State.character_next (s := s.modLink (Link.gathered _)) h rfl]
    refine (State.frameCharacter_length _ _ _ _).trans ?_
    simp only [hlow, hhigh, and_self, if_true]
    rfl
  obtain ⟨init, last, rfl⟩ := (List.eq_nil_or_concat' rest).resolve_left (by rintro rfl; simp at hrest)
  simp only [List.length_append, List.length_singleton] at hrest
  have hgathered := State.character_gathered h 0x55#8 0xD2#8 n [] init (by simp only [List.length_nil]; omega)
  simp only [List.foldl_cons, hfirst, hsecond, hlength, List.foldl_append, hgathered, List.foldl_nil, List.nil_append]
  rw [State.character_next (s := s.modLink (Link.gathered _)) h rfl, State.frameCharacter_last (by omega)]
  rfl

/-! ## A character while an attempt is sending (R124) -/

variable {o : Outgoing}

theorem State.character_sending (hslot : s.link.slot = some o) (hsending : o.sending = true) (b : Byte) (stop : Bool) :
    s.character b stop = ((s.modLink Link.charEnd).readBack o b stop).modLink Link.driveOn := by
  have hsends : s.link.sending = some o := by simp [Link.sending, hslot, hsending]
  simp only [State.character, hsends]

theorem State.modLink_driveOn (h : s.link.sending = none) : s.modLink Link.driveOn = s := by
  simp [State.modLink, Link.driveOn, h]

/-- R124: the character sent, with its stop bit and in its time, agrees. -/
theorem State.readsBack_iff (o : Outgoing) (b : Byte) (stop : Bool) (s : State) :
    s.readsBack o b stop = true ↔ stop = true ∧ o.frame[o.readBack]? = some b ∧ s.link.sentTime ≤ 1 := by
  simp [State.readsBack, and_assoc]

theorem State.character_agrees {b : Byte} (hslot : s.link.slot = some o) (hsending : o.sending = true)
    (hb : o.frame[o.readBack]? = some b) (htime : s.link.sentTime ≤ 1) (hmore : o.readBack + 1 ≠ o.frame.length) :
    s.character b true = { s with link := { s.link with
      charOn := true, cut := false, idle := false, silence := 0, sentTime := 0
      slot := some { o with readBack := o.readBack + 1 } } } := by
  have hreads : (s.modLink Link.charEnd).readsBack o b true = true :=
    (State.readsBack_iff o b true _).mpr ⟨rfl, hb, htime⟩
  rw [State.character_sending hslot hsending, State.readBack, if_pos hreads, if_neg hmore]
  simp [State.modLink, Link.driveOn, Link.sending, hsending, Link.charEnd]

theorem State.character_completes {b : Byte} (hslot : s.link.slot = some o) (hsending : o.sending = true)
    (hb : o.frame[o.readBack]? = some b) (htime : s.link.sentTime ≤ 1) (hlast : o.readBack + 1 = o.frame.length) :
    s.character b true = (s.modLink Link.charEnd).completeTransmission := by
  have hreads : (s.modLink Link.charEnd).readsBack o b true = true :=
    (State.readsBack_iff o b true _).mpr ⟨rfl, hb, htime⟩
  rw [State.character_sending hslot hsending, State.readBack, if_pos hreads, if_pos hlast, State.modLink_driveOn]
  rw [State.completeTransmission_link]
  exact Link.serveUrgent_sending rfl

theorem State.failAttempt_sending (o : Outgoing) (s : State) : (s.failAttempt o).link.sending = none := by
  by_cases h : o.attempt < 4
  · rw [State.failAttempt_retries h]
    rfl
  · rw [State.failAttempt_drops (Nat.not_lt.mp h), State.dropOutgoing_link]
    exact Link.serveUrgent_sending rfl

theorem State.character_fails {b : Byte} {stop : Bool} (hslot : s.link.slot = some o) (hsending : o.sending = true)
    (h : stop = false ∨ o.frame[o.readBack]? ≠ some b ∨ 1 < s.link.sentTime) :
    s.character b stop = s.failInHand o := by
  have hnot : ¬ (s.modLink Link.charEnd).readsBack o b stop = true := by
    rw [State.readsBack_iff]
    rintro ⟨hstop, hb, htime⟩
    rcases h with h | h | h
    · exact absurd (hstop.symm.trans h) (by decide)
    · exact h hb
    · exact Nat.not_le.mpr h htime
  rw [State.character_sending hslot hsending, State.readBack, if_neg hnot,
    State.modLink_driveOn (State.failAttempt_sending _ _), State.failInHand_sending hsending]

/-- R131: on an empty queue the last character of a cut attempt ends with its character time. -/
theorem State.idle_cut (hcut : s.link.cut = true) (hchar : s.link.charOn = true) (hover : 1 ≤ s.link.sentTime)
    (hslot : ∀ o, s.link.slot = some o → o.sending = false ∧ o.wait < 10 * s.conf.tag.pB) :
    s.idle = s.modLink Link.charEnd := by
  have hdue : s.attemptDue = none := by
    unfold State.attemptDue
    cases ho : s.link.slot with
    | none => rfl
    | some o =>
      obtain ⟨hwaits, hearly⟩ := hslot o ho
      simp [hwaits, Link.waitOver, hchar, State.periodChars, charsPerMs, Nat.not_le.mpr hearly]
  simp [State.idle, hdue, State.cutOver, Link.cutting, hcut, hchar, hover]

end

/-- Settles O32: the line's own rows, the receiver state by state, and the read-back. -/
theorem lineAndCharacters : Obligations.LineAndCharacters := by
  refine ⟨fun s hbusy hchar hreach => exec_lineIdle_reached hbusy hchar hreach, fun s h => exec_lineIdle_not h,
    fun s => rfl, fun s b stop h hr => ?_, fun s b h hr => ?_, fun s b x h hr => ?_, fun s b x y h hr => ?_,
    fun s b x y n rest h hr hroom => ?_, fun s b got h hr => ?_,
    fun s n rest h hr hlow hhigh hrest => exec_frameReceived_delivered h hr hlow hhigh hrest,
    fun s b stop => rfl, fun s o b hslot hsending hb htime => ⟨fun hmore => ?_, fun hlast => ?_⟩,
    fun s o b stop hslot hsending h => ?_, fun s hempty hcut hchar hover hslot => ?_⟩
  · rw [exec_characterReceived, State.character_ignored h hr]
    rfl
  · rw [exec_characterReceived, State.character_first h hr, State.frameCharacter_first]
    simp only [State.modLink]
    split <;> rfl
  · rw [exec_characterReceived, State.character_next h hr]
    refine congrArg _ ((State.frameCharacter_second x b s).trans ?_)
    simp only [State.modLink]
    split <;> rfl
  · rw [exec_characterReceived, State.character_next h hr]
    refine congrArg _ ((State.frameCharacter_length x y b s).trans ?_)
    simp only [State.modLink]
    split <;> rfl
  · rw [exec_characterReceived, State.character_next h hr, State.frameCharacter_later hroom]
    rfl
  · rw [exec_characterReceived, State.character_framing h hr]
    rfl
  · rw [exec_characterReceived, State.character_agrees hslot hsending hb htime (Nat.ne_of_lt hmore)]
  · rw [exec_characterReceived, State.character_completes hslot hsending hb htime hlast,
      exec_transmissionComplete hslot hsending]
  · rw [exec_characterReceived, State.character_fails hslot hsending h]
    exact ⟨_, rfl, State.failInHand_sending_fails hsending s, by simp [State.failInHand_sending hsending]⟩
  · rw [step_of_empty hempty, State.idle_cut hcut hchar hover hslot]
    rfl

end Sys2Proof.Machine
end

section
/-! Admission of a good bulletin: filters, freshness window, candidate, and the steps in order (R129, R135 to R142; O34). -/

namespace Sys2Proof.Machine

/-! ## Filters and window (R135, R139) -/

theorem Filter.passes_iff (f : Filter) (id : Identity) :
    f.passes id = true
      ↔ f.lines.getLsbD id.line = true ∧ BitVec.ofNat 16 id.chainage &&& f.mask = f.base &&& f.mask := by
  simp [Filter.passes]

theorem filtersPass_iff (fs : List Filter) (id : Identity) :
    filtersPass fs id = true
      ↔ (∀ f ∈ fs, f.enabled = false)
        ∨ ∃ f ∈ fs, f.enabled = true ∧ f.lines.getLsbD id.line = true
            ∧ BitVec.ofNat 16 id.chainage &&& f.mask = f.base &&& f.mask := by
  simp [filtersPass, Filter.passes_iff]

/-- R139: the window is the 127 numbers after the last. -/
theorem seqAccepted_iff (first : Bool) {x o : Nat} (hx : x ≤ 255) (ho : o ≤ 255) :
    seqAccepted first x o = true ↔ first = true ∨ ∃ k, 1 ≤ k ∧ k ≤ 127 ∧ x = (o + k) % 256 := by
  simp only [seqAccepted, Bool.or_eq_true, Bool.and_eq_true, decide_eq_true_eq]
  refine or_congr_right ⟨fun ⟨hlow, hhigh⟩ => ⟨(x + 256 - o) % 256, hlow, hhigh, by omega⟩, ?_⟩
  rintro ⟨k, hlow, hhigh, rfl⟩
  constructor <;> omega

/-! ## The candidate (R141) -/

/-- R141: no entry `e` comes before `c` by greater distance and then by higher identity. -/
def Entry.Farthest (c e : Entry) : Prop :=
  e.distance < c.distance ∨ e.distance = c.distance ∧ identityLt c.identity e.identity = false

theorem identityLt_iff (a b : Identity) :
    identityLt a b = true ↔ a.line < b.line ∨ a.line = b.line ∧ a.chainage < b.chainage := by
  simp [identityLt]

theorem identityLt_eq_false_iff (a b : Identity) :
    identityLt a b = false ↔ b.line < a.line ∨ b.line = a.line ∧ b.chainage ≤ a.chainage := by
  rw [← Bool.not_eq_true, identityLt_iff]
  omega

theorem Entry.Farthest.refl (c : Entry) : c.Farthest c := by
  simp [Entry.Farthest, identityLt_eq_false_iff]

theorem Entry.Farthest.trans {a b c : Entry} (h : a.Farthest b) (k : b.Farthest c) : a.Farthest c := by
  simp only [Entry.Farthest, identityLt_eq_false_iff] at h k ⊢
  omega

theorem fartherOf_farthest (a b : Entry) : (fartherOf a b).Farthest a ∧ (fartherOf a b).Farthest b := by
  unfold fartherOf
  split
  · next h =>
    refine ⟨.refl a, ?_⟩
    simp only [identityLt_iff] at h
    simp only [Entry.Farthest, identityLt_eq_false_iff]
    omega
  · next h =>
    refine ⟨?_, .refl b⟩
    simp only [identityLt_iff] at h
    simp only [Entry.Farthest, identityLt_eq_false_iff]
    omega

theorem fartherOf_mem (a b : Entry) (l : List Entry) (ha : a ∈ l) (hb : b ∈ l) : fartherOf a b ∈ l := by
  unfold fartherOf
  split <;> assumption

theorem foldl_fartherOf (e : Entry) (l : List Entry) :
    l.foldl fartherOf e ∈ e :: l ∧ ∀ x ∈ e :: l, (l.foldl fartherOf e).Farthest x := by
  induction l generalizing e with
  | nil => simp [Entry.Farthest.refl]
  | cons a l ih =>
    obtain ⟨hmem, hfar⟩ := ih (fartherOf e a)
    obtain ⟨he, ha⟩ := fartherOf_farthest e a
    have hfirst := hfar _ List.mem_cons_self
    rw [List.foldl_cons]
    refine ⟨?_, fun x hx => ?_⟩
    · rcases List.mem_cons.mp hmem with h | h
      · rw [h]
        exact fartherOf_mem e a _ (by simp) (by simp)
      · exact List.mem_cons_of_mem _ (List.mem_cons_of_mem _ h)
    · rcases List.mem_cons.mp hx with rfl | hx
      · exact hfirst.trans he
      · rcases List.mem_cons.mp hx with rfl | hx
        · exact hfirst.trans ha
        · exact hfar x (List.mem_cons_of_mem _ hx)

theorem Entry.replaceable_iff (e : Entry) : e.replaceable = true ↔ e.phase.active = false ∧ e.namesOwn = false := by
  simp [Entry.replaceable]

theorem candidate_eq_none_iff (l : List Entry) :
    candidate l = none ↔ ∀ e ∈ l, e.phase.active = true ∨ e.namesOwn = true := by
  have hnone : candidate l = none ↔ l.filter (·.replaceable) = [] := by
    unfold candidate
    cases l.filter (·.replaceable) <;> simp
  rw [hnone, List.filter_eq_nil_iff]
  refine forall₂_congr fun e _ => ?_
  rw [e.replaceable_iff]
  cases e.phase.active <;> simp

theorem candidate_of_some {l : List Entry} {c : Entry} (h : candidate l = some c) :
    c ∈ l ∧ c.phase.active = false ∧ c.namesOwn = false
      ∧ ∀ e ∈ l, e.phase.active = false → e.namesOwn = false →
          e.distance < c.distance ∨ e.distance = c.distance ∧ identityLt c.identity e.identity = false := by
  unfold candidate at h
  cases hl : l.filter (·.replaceable) with
  | nil => simp [hl] at h
  | cons e rest =>
    rw [hl] at h
    obtain rfl := Option.some.inj h
    obtain ⟨hmem, hfar⟩ := foldl_fartherOf e rest
    rw [← hl] at hmem hfar
    obtain ⟨hin, hreplaceable⟩ := List.mem_filter.mp hmem
    obtain ⟨hactive, hnames⟩ := (Entry.replaceable_iff _).mp hreplaceable
    exact ⟨hin, hactive, hnames, fun x hx hidle hother =>
      hfar x (List.mem_filter.mpr ⟨hx, x.replaceable_iff.mpr ⟨hidle, hother⟩⟩)⟩

/-! ## The steps of admission (R136 to R142) -/

theorem State.countLink_onlyChanges (f : LinkCounters → LinkCounters) (s : State) :
    OnlyChanges [.link] s (s.countLink f) :=
  s.modLink_onlyChanges fun l => { l with counters := f l.counters }

theorem State.admission_onlyChanges (b : Bulletin) (s : State) :
    OnlyChanges (phaseBlocks ++ [.table, .faults]) s (s.admission b) := by
  intro x hx
  cases x <;> simp [phaseBlocks, sameBlock] at hx ⊢

/-- A general evaluation touches no counter of the link. -/
theorem State.evaluate_linkCounters (s : State) : s.evaluate.link.counters = s.link.counters := by
  rw [s.evaluate_phaseFrame.link]

theorem State.setEntries_evaluate (l : List Entry) (s : State) :
    (s.setEntries l).evaluate.table = { s.table with entries := l } ∧ (s.setEntries l).evaluate.faults = s.faults := by
  simp [State.setEntries]

theorem takesPlace_iff (d : Nat) (id : Identity) (c : Entry) :
    takesPlace d id c = true ↔ d < c.distance ∨ d = c.distance ∧ identityLt id c.identity = true := by
  simp [takesPlace]

section
variable {s : State} {b : Bulletin}

theorem State.admission_own (h : b.identity = s.own) : s.admission b = s.hearOwn := if_pos h

/-- R136: a frame of the own identity while the duplicate flag is clear. -/
theorem State.hearOwn_first (h : s.table.duplicate = false) :
    s.hearOwn.faults
      = (((s.setPresent .duplicateId true).report .duplicateId (some (.identity s.own))).faults) := by
  simp only [State.hearOwn, h, Bool.false_eq_true, if_false, State.evaluate_frame]
  rfl

/-- R136: while the duplicate flag is set. -/
theorem State.hearOwn_again (h : s.table.duplicate = true) :
    s.hearOwn.faults
      = if s.faults.duplicateId.masked = true ∨ s.faults.duplicateId.count = 0 then s.faults
        else { s.faults with duplicateId := { s.faults.duplicateId with last := some s.time.clock } } := by
  simp only [State.hearOwn, h, if_true, State.countLink]
  exact apply_ite State.faults _ _ _

theorem State.hearOwn_table (s : State) : s.hearOwn.table = ⟨s.table.entries, true, some s.time.clock⟩ := by
  unfold State.hearOwn
  simp only
  split
  · split <;> rfl
  · simp

theorem State.hearOwn_counters (s : State) :
    s.hearOwn.link.counters = { s.link.counters with ownIdentity := satSucc 65535 s.link.counters.ownIdentity } := by
  unfold State.hearOwn
  simp only
  split
  · split <;> rfl
  · rw [State.evaluate_linkCounters]
    simp [State.countLink, max16]

theorem State.admission_filtered (hown : b.identity ≠ s.own) (h : filtersPass s.conf.tag.filters b.identity = false) :
    s.admission b = s.countLink fun c => { c with filtered := satSucc 65535 c.filtered } := by
  unfold State.admission
  rw [if_neg hown, if_pos h]
  rfl

variable (hown : b.identity ≠ s.own) (hpass : filtersPass s.conf.tag.filters b.identity = true)
include hown hpass

theorem State.admission_held {e : Entry} (he : s.table.entries.find? (·.identity = b.identity) = some e) :
    s.admission b
      = if seqAccepted b.first b.seq e.lastSeq then
          (s.setEntries (s.table.entries.map fun x =>
            if x.identity = b.identity then entryOf b x.distance s.time.clock s.own else x)).evaluate
        else s.countLink fun c => { c with stale := satSucc 65535 c.stale } := by
  unfold State.admission
  rw [if_neg hown, if_neg (by simp [hpass]), he]
  rfl

variable (hnew : s.table.entries.find? (·.identity = b.identity) = none)
include hnew

theorem State.admission_appended (hroom : s.table.entries.length < 24) :
    s.admission b
      = (s.setEntries (s.table.entries ++ [entryOf b (distance s.conf.tag.rowSpacing b.identity s.own) s.time.clock
          s.own])).evaluate := by
  unfold State.admission
  rw [if_neg hown, if_neg (by simp [hpass]), hnew]
  exact if_pos hroom

theorem State.admission_replaces (hfull : 24 ≤ s.table.entries.length) {c : Entry}
    (hc : candidate s.table.entries = some c)
    (h : takesPlace (distance s.conf.tag.rowSpacing b.identity s.own) b.identity c = true) :
    s.admission b
      = (s.setEntries (s.table.entries.map fun x => if x.identity = c.identity then
          entryOf b (distance s.conf.tag.rowSpacing b.identity s.own) s.time.clock s.own else x)).evaluate := by
  have hnone : ¬ s.table.entries.length < tableSize := Nat.not_lt.mpr hfull
  unfold State.admission
  rw [if_neg hown, if_neg (by simp [hpass]), hnew]
  simp only
  rw [if_neg hnone, hc]
  exact if_pos h

theorem State.admission_full (hfull : 24 ≤ s.table.entries.length)
    (h : ∀ c, candidate s.table.entries = some c →
      ¬ takesPlace (distance s.conf.tag.rowSpacing b.identity s.own) b.identity c = true) :
    s.admission b
      = (s.countLink fun x => { x with tableFull := satSucc 65535 x.tableFull }).report .tableFull
          (some (.identity b.identity)) := by
  have hnone : ¬ s.table.entries.length < tableSize := Nat.not_lt.mpr hfull
  unfold State.admission
  rw [if_neg hown, if_neg (by simp [hpass]), hnew]
  simp only
  rw [if_neg hnone]
  cases hc : candidate s.table.entries with
  | none => rfl
  | some c => exact if_neg (h c hc)

end

end Sys2Proof.Machine
end

section
/-! FRAME_RECEIVED of a good frame on a working station: the steps of admission put together (R129, R136 to R142, R185, R186;
O34). -/

namespace Sys2Proof.Machine

section
variable {s : State} {b : Bulletin}

/-! ## What admission leaves alone -/

theorem State.admission_good (b : Bulletin) (s : State) :
    (s.admission b).link.counters.good = s.link.counters.good := by
  unfold State.admission
  simp only
  split
  · rw [State.hearOwn_counters]
  · split
    · rfl
    · split
      · split
        · rw [State.evaluate_linkCounters]
          rfl
        · rfl
      · split
        · rw [State.evaluate_linkCounters]
          rfl
        · split
          · split
            · rw [State.evaluate_linkCounters]
              rfl
            · rfl
          · rfl

theorem State.goodFrame_onlyChanges (s : State) : OnlyChanges [.link] s (s.modLink Link.goodFrame) :=
  s.modLink_onlyChanges _

/-- R128, R129: a whole good frame on a working station is counted and its bulletin admitted. -/
theorem exec_frameReceived_admits {n : Byte} {rest : List Byte} (hlow : 7 ≤ n.toNat) (hhigh : n.toNat ≤ 39)
    (hrest : rest.length = n.toNat + 2) (hmay : s.link.mayFrame (0x55#8 :: 0xD2#8 :: n :: rest) = true)
    (hworking : s.working = true) (hcheck : checkFrame n (rest.take n.toNat) (rest.drop n.toNat) = .good b) :
    exec (.frameReceived (n :: rest)) s = .next ((s.modLink Link.goodFrame).admission b) := by
  rw [exec_frameReceived hlow hhigh hrest hmay, State.finishFrame_of_good hcheck, if_pos hworking]

/-! ## The own identity (R136) -/

/-- R136, R185, R186: DUPLICATE_ID at the first frame of the own identity. -/
theorem State.hearOwn_presents (h : s.table.duplicate = false) :
    s.hearOwn.faults.duplicateId.present = true
      ∧ (s.faults.duplicateId.masked = false →
        s.hearOwn.faults.duplicateId.count = satSucc 255 s.faults.duplicateId.count
          ∧ s.hearOwn.faults.duplicateId.last = some s.time.clock
          ∧ (s.faults.duplicateId.count = 0 → s.hearOwn.faults.duplicateId.first = some s.time.clock)
          ∧ s.hearOwn.faults.duplicateId.detail = some (.identity s.own)) := by
  have hentry : s.hearOwn.faults.duplicateId
      = ({ s.faults.duplicateId with present := true } : FaultEntry).report s.time.clock (some (.identity s.own)) := by
    rw [State.hearOwn_first h]
    rfl
  rw [hentry]
  refine ⟨FaultEntry.report_present _ _ _, fun hmasked => ?_⟩
  obtain ⟨hcount, hdetail, hlast⟩ :=
    FaultEntry.report_unmasked (e := { s.faults.duplicateId with present := true }) hmasked s.time.clock
      (some (.identity s.own))
  exact ⟨hcount, hlast, fun hnone => by simp [FaultEntry.report, hmasked, hnone], hdetail⟩

/-- R136, R186: while the duplicate flag is set, the last-seen time alone follows (log entry 27). -/
theorem State.hearOwn_follows (h : s.table.duplicate = true) :
    (s.faults.duplicateId.masked = false → 0 < s.faults.duplicateId.count →
        s.hearOwn.faults = { s.faults with duplicateId := { s.faults.duplicateId with last := some s.time.clock } })
      ∧ ((s.faults.duplicateId.masked = true ∨ s.faults.duplicateId.count = 0) → s.hearOwn.faults = s.faults) := by
  rw [State.hearOwn_again h]
  refine ⟨fun hmasked hcount => if_neg ?_, fun hstands => if_pos hstands⟩
  rintro (hm | hzero)
  · exact absurd (hm.symm.trans hmasked) (by decide)
  · omega

/-! ## A new identity that finds no place (R140, R141) -/

/-- R140, R185, R186: TABLE_FULL counted and reported. -/
theorem State.tableFull_reported (f : LinkCounters → LinkCounters) (id : Identity) (s : State) :
    let t := (s.countLink f).report .tableFull (some (.identity id))
    (s.faults.tableFull.masked = false →
        t.faults.tableFull.count = satSucc 255 s.faults.tableFull.count
          ∧ t.faults.tableFull.detail = some (.identity id))
      ∧ OnlyChanges [.link, .faults] s t := by
  have hentry : ((s.countLink f).report .tableFull (some (.identity id))).faults.tableFull
      = s.faults.tableFull.report s.time.clock (some (.identity id)) := State.report_get_same .tableFull _ _
  refine ⟨fun hmasked => ?_, fun x hx => ?_⟩
  · obtain ⟨hcount, hdetail, -⟩ := FaultEntry.report_unmasked hmasked s.time.clock (some (.identity id))
    rw [hentry]
    exact ⟨hcount, hdetail⟩
  · cases x <;> simp [sameBlock] at hx ⊢

end

/-- Settles O34: filters, window and candidate by their rules, then admission step by step from the counted frame. -/
theorem admissionOfBulletins : Obligations.AdmissionOfBulletins := by
  refine ⟨filtersPass_iff, fun first x o hx ho => seqAccepted_iff first hx ho,
    fun l => ⟨candidate_eq_none_iff l, fun c hc => candidate_of_some hc⟩,
    fun s n rest b hlow hhigh hrest hmay hworking hcheck =>
      ⟨_, exec_frameReceived_admits hlow hhigh hrest hmay hworking hcheck, State.admission_good _ _, ?_, fun hown => ?_,
        fun hown hrefused => ?_, fun hown hpass => ⟨fun e he => ⟨fun hseq => ?_, fun hseq => ?_⟩, fun hnew => ?_⟩⟩⟩
  · exact (s.goodFrame_onlyChanges.mono (by simp [phaseBlocks])).trans (State.admission_onlyChanges _ _)
  · rw [State.admission_own (s := s.modLink Link.goodFrame) hown]
    refine ⟨State.hearOwn_table _, ?_, State.hearOwn_presents (s := s.modLink Link.goodFrame),
      State.hearOwn_follows (s := s.modLink Link.goodFrame)⟩
    rw [State.hearOwn_counters]
    rfl
  · rw [State.admission_filtered (s := s.modLink Link.goodFrame) hown hrefused]
    exact ⟨rfl, s.goodFrame_onlyChanges.trans (State.countLink_onlyChanges _ _)⟩
  · rw [State.admission_held (s := s.modLink Link.goodFrame) hown hpass he, if_pos hseq]
    exact State.setEntries_evaluate _ _
  · rw [State.admission_held (s := s.modLink Link.goodFrame) hown hpass he, hseq]
    exact ⟨rfl, s.goodFrame_onlyChanges.trans (State.countLink_onlyChanges _ _)⟩
  · refine ⟨fun hroom => ?_, fun hfull c hc hplace => ?_, fun hfull hnone => ?_⟩
    · rw [State.admission_appended (s := s.modLink Link.goodFrame) hown hpass hnew hroom]
      exact State.setEntries_evaluate _ _
    · rw [State.admission_replaces (s := s.modLink Link.goodFrame) hown hpass hnew hfull hc
        ((takesPlace_iff _ _ _).mpr hplace)]
      exact State.setEntries_evaluate _ _
    · rw [State.admission_full (s := s.modLink Link.goodFrame) hown hpass hnew hfull
        fun c hc => mt (takesPlace_iff _ _ _).mp (hnone c hc)]
      obtain ⟨hreported, hblocks⟩ := State.tableFull_reported
        (fun x => { x with tableFull := satSucc 65535 x.tableFull }) b.identity (s.modLink Link.goodFrame)
      exact ⟨rfl, hreported, (s.goodFrame_onlyChanges.mono (by simp)).trans hblocks⟩

end Sys2Proof.Machine
end

section
/-! SUPPORT. The load of the tag (R131, R169, R181, R192): the judgement of the bytes delivered, the entry into LISTEN,
the refusal, and the second boundary that times a load out. -/

namespace Sys2Proof.Machine

/-! ## The judgement of the bytes delivered -/

/-- R181: a stated length outside 4 to 512 completes the load at once, as ABSENT. -/
theorem judgeDelivered_of_badLength {image : List Byte} (hlen : 2 ≤ image.length)
    (hbad : 512 < ofBytes (image.take 2) ∨ ofBytes (image.take 2) < 4) (n : Nat) :
    judgeDelivered n image = some .absent := by
  simp [judgeDelivered, Nat.not_lt.mpr hlen, hbad]

/-- R181: as many bytes as are stated, no more and no fewer, are judged as they stand. -/
theorem judgeDelivered_of_whole {image : List Byte} (hstated : ofBytes (image.take 2) = image.length)
    (hleast : 4 ≤ image.length) (hmost : image.length ≤ 512) (n : Nat) :
    judgeDelivered n image = some (judgeImage n image) := by
  have htwo : ¬ image.length < 2 := by omega
  have hrange : ¬ (512 < image.length ∨ image.length < 4) := by omega
  simp [judgeDelivered, hstated, htwo, hrange]

/-- R181: the check value covers every byte before it. -/
theorem judgeImage_of_wrongCheck {covered check : List Byte} (htwo : check.length = 2)
    (hwrong : be16 (crc16 covered).toNat ≠ check) (n : Nat) : judgeImage n (covered ++ check) = .crcFailed := by
  simp [judgeImage, htwo, hwrong]

/-! ## The refusal -/

section
variable {r : LoadResult} {s : State}

theorem State.unconfigure_conf (r : LoadResult) (s : State) :
    (s.unconfigure r).conf = { s.conf with station := .unconfigured, load := some r } := by
  simp [State.unconfigure]

/-- R181, R185: the refusal presents CONFIG_BAD and reports it. -/
theorem State.unconfigure_configBad (r : LoadResult) (s : State) :
    (s.unconfigure r).faults.configBad
      = ({ s.faults.configBad with present := true } : FaultEntry).report s.time.clock none := rfl

theorem State.unconfigure_present (r : LoadResult) (s : State) : (s.unconfigure r).faults.configBad.present = true := by
  rw [State.unconfigure_configBad, FaultEntry.report_present]

theorem State.unconfigure_count (hmasked : s.faults.configBad.masked = false) :
    (s.unconfigure r).faults.configBad.masked = false
      ∧ (s.unconfigure r).faults.configBad.count = satSucc 255 s.faults.configBad.count := by
  rw [State.unconfigure_configBad]
  simp [FaultEntry.report, hmasked]

theorem State.unconfigure_get_of_ne {k : FaultKind} (h : k ≠ .configBad) :
    (s.unconfigure r).faults.get k = s.faults.get k := by
  rw [State.unconfigure, State.report_get_of_ne h, State.setPresent_get_of_ne h]

theorem State.unconfigure_onlyChanges (r : LoadResult) (s : State) :
    OnlyChanges [.conf, .faults] s (s.unconfigure r) := by
  intro b hb
  cases b <;> simp_all [sameBlock]

theorem satSucc_pos {m : Nat} (h : 0 < m) (n : Nat) : 0 < satSucc m n := by
  unfold satSucc
  split <;> omega

/-- R187: an unmasked kind with a count closes the relay. -/
theorem State.relayClosed_of_counted {k : FaultKind} (hk : k ∈ FaultKind.all)
    (hmasked : (s.faults.get k).masked = false) (hcount : 0 < (s.faults.get k).count) : s.relayClosed = true := by
  have hany : FaultKind.all.any (fun k => !(s.faults.get k).masked && decide (0 < (s.faults.get k).count)) = true :=
    List.any_eq_true.mpr ⟨k, hk, by simp [hmasked, hcount]⟩
  simp [State.relayClosed, hany]

theorem State.unconfigure_relayClosed (hmasked : s.faults.configBad.masked = false) :
    (s.unconfigure r).relayClosed = true := by
  obtain ⟨hstill, hcount⟩ := State.unconfigure_count (r := r) hmasked
  refine State.relayClosed_of_counted (k := .configBad) (by decide) hstill ?_
  exact hcount ▸ satSucc_pos (by decide) _

end

/-! ## The entry into LISTEN -/

/-- The station as its settings come into force, before the evaluation that the entry into LISTEN raises. -/
def State.inListen (tag : Tag) (ps : List Profile) (s : State) : State :=
  { s with
    conf := { s.conf with station := .listen, inForce := true, tag := tag, profiles := ps, load := some .accepted }
    link := s.link.enterListen ⟨tag.line, tag.chainage⟩
    table := ⟨[], false, none⟩
    coord := s.coord.enterListen tag.upliftFitted (s.time.clock, s.time.tenths)
    meas :=
      if tag.upliftFitted then
        { s.meas with channels := { s.meas.channels with uplift := s.meas.channels.uplift.fitted } }
      else s.meas }

section
variable {s : State} {tag : Tag} {ps : List Profile}

theorem State.configure_eq (tag : Tag) (ps : List Profile) (s : State) :
    s.configure tag ps = (s.inListen tag ps).evaluate := rfl

/-- R131, R119: the first bulletin is drawn from the seed. -/
theorem Link.enterListen_eq (own : Identity) (l : Link) :
    l.enterListen own = { l with
      slot := some (newInstance (seedOf own))
      generator := some (generatorStep (seedOf own))
      seqCounter := 0, firstCount := 3, urgent := false, periodic := 0, sinceStart := none, drops := 0 } := by
  unfold Link.enterListen
  rw [Link.requestPeriodic_of_free rfl, Link.create_of_some rfl]

/-- R163: while no stage is open an evaluation hands no limit to the Regulator. -/
theorem State.formLimits_of_vacant (h : s.isOpen = false) :
    s.formLimits.link = s.link ∧ s.formLimits.reg = s.reg ∧ s.formLimits.coord.limit = s.coord.limit
      ∧ s.formLimits.coord.allowance = s.coord.allowance ∧ s.formLimits.coord.uplift = s.coord.uplift
      ∧ s.formLimits.coord.listenStart = s.coord.listenStart := by
  simp [State.formLimits, h]

/-- While no stage is open an evaluation forms no step limit and only remembers the conditions (R22, R149, R163). -/
theorem State.evaluate_of_vacant (hw : s.working = true) (hnone : s.seq.stage = none) :
    s.evaluate.link = s.link ∧ s.evaluate.reg = s.reg ∧ s.evaluate.coord.limit = s.coord.limit
      ∧ s.evaluate.coord.allowance = s.coord.allowance ∧ s.evaluate.coord.uplift = s.coord.uplift
      ∧ s.evaluate.coord.listenStart = s.coord.listenStart ∧ s.evaluate.seq.kept = s.keptAnew := by
  have hphase : s.phase = .vacant := by simp [State.phase, hnone]
  have hclosed : s.formDemand.isOpen = false := by simp [State.isOpen, State.phase, hnone]
  have hquiet : s.Quiet := .of_idle (by simp [hphase, Phase.pumping]) (by simp [hphase, Phase.restrained])
  obtain ⟨hlink, hreg, hlimit, hallowance, huplift, hstart⟩ := State.formLimits_of_vacant hclosed
  rw [hquiet.evaluate hw]
  exact ⟨hlink, hreg.trans (by simp), hlimit, hallowance, huplift, hstart, rfl⟩

/-- R149: a station in LISTEN stands off. -/
theorem State.keptAnew_of_listen (h : s.conf.station = .listen) : s.keptAnew.standoff = true := by
  have hany : s.standoffCauses.any = true := s.standoffCauses_any_iff.mpr (.inr (.inr (.inl h)))
  simp [State.keptAnew, hany]

/-- R131, R147, R169, R181: the station as an accepted load leaves it. -/
theorem State.configure_vacant (hnone : s.seq.stage = none) :
    (s.configure tag ps).link = s.link.enterListen ⟨tag.line, tag.chainage⟩
      ∧ (s.configure tag ps).reg = s.reg
      ∧ (s.configure tag ps).coord.limit = 8 ∧ (s.configure tag ps).coord.allowance = 0
      ∧ (s.configure tag ps).coord.uplift = (if tag.upliftFitted then some ⟨.normal, none, false⟩ else none)
      ∧ (s.configure tag ps).coord.listenStart = some (s.time.clock, s.time.tenths)
      ∧ (s.configure tag ps).seq.kept.standoff = true := by
  obtain ⟨hlink, hreg, hlimit, hallowance, huplift, hstart, hkept⟩ :=
    State.evaluate_of_vacant (s := s.inListen tag ps) rfl hnone
  rw [State.configure_eq]
  exact ⟨hlink, hreg, hlimit, hallowance, huplift, hstart, hkept ▸ State.keptAnew_of_listen rfl⟩

theorem State.loadCompleted_of_accepted (tag : Tag) (ps : List Profile) (s : State) :
    s.loadCompleted (.accepted tag ps) = s.configure tag ps := rfl

theorem State.configure_conf : (s.configure tag ps).conf = { s.conf with
    station := .listen, inForce := true, tag := tag, profiles := ps, load := some .accepted } := by
  simp [State.configure]

theorem State.configure_table : (s.configure tag ps).table = ⟨[], false, none⟩ := by
  simp [State.configure]

theorem State.configure_onlyChanges (hnone : s.seq.stage = none) :
    OnlyChanges [.conf, .link, .table, .coord, .meas, .seq] s (s.configure tag ps) := by
  obtain ⟨-, hreg, -⟩ := State.configure_vacant (tag := tag) (ps := ps) hnone
  intro b hb
  cases b <;> simp_all [sameBlock]

theorem exec_tagLoadComplete {image : List Byte} {j : Judgement} (hloading : s.conf.station = .loading)
    (hjudged : judgeDelivered s.freeCount image = some j) :
    exec (.tagLoadComplete image) s = .next (State.loadCompleted j { s with freeCount := s.freeCount + 1 }) := by
  simp only [exec, execTagLoadComplete, hloading, hjudged]

end

/-! ## The second boundary of a load -/

/-- What every part of a second boundary but the tag's leaves of a station that does not work. -/
def LeavesLoad (s t : State) : Prop :=
  t.conf = s.conf ∧ t.time = s.time ∧ (t.faults.get .configBad).present = (s.faults.get .configBad).present

theorem LeavesLoad.refl (s : State) : LeavesLoad s s := ⟨rfl, rfl, rfl⟩

theorem LeavesLoad.trans {a b c : State} (h : LeavesLoad a b) (k : LeavesLoad b c) : LeavesLoad a c := by
  obtain ⟨h1, h2, h3⟩ := h
  obtain ⟨k1, k2, k3⟩ := k
  exact ⟨k1.trans h1, k2.trans h2, k3.trans h3⟩

theorem LeavesLoad.idle {s t : State} (h : LeavesLoad s t) (hs : s.working = false) : t.working = false := by
  obtain ⟨hconf, -⟩ := h
  simpa [State.working, hconf] using hs

theorem State.boundarySequencer_configBad (s : State) :
    s.boundarySequencer.faults.get .configBad = s.faults.get .configBad := by
  unfold State.boundarySequencer
  split
  · simp
  · unfold State.boundaryMix
    split
    · split
      · simp only [State.timeoutMix, State.makeCurrent_frame, State.modStage_frame]
        exact State.report_get_of_ne (by simp) _ s
      · simp
    · rfl
  · rfl

theorem State.boundaryCounters_configBad (s : State) :
    s.boundaryCounters.faults.get .configBad = s.faults.get .configBad := by
  have hsecond : s.countSecond.faults.get .configBad = s.faults.get .configBad := by
    unfold State.countSecond
    split <;> simp [State.noteSaturation_faults_of_ne]
  unfold State.boundaryCounters
  simp only
  split <;> simpa using hsecond

theorem State.boundaryDuplicate_configBad (s : State) :
    s.boundaryDuplicate.faults.get .configBad = s.faults.get .configBad := by
  unfold State.boundaryDuplicate
  split
  · simp only [State.clearDuplicate, State.evaluate_frame]
    exact State.setPresent_get_of_ne (by simp) _ _
  · rfl

theorem State.reportSilent_configBad (e : Entry) (s : State) :
    (s.reportSilent e).faults.get .configBad = s.faults.get .configBad := by
  unfold State.reportSilent
  split
  · exact State.report_get_of_ne (by simp) _ s
  · rfl

theorem State.ageEntries_configBad (n : Nat) (s : State) :
    (s.ageEntries n).faults.get .configBad = s.faults.get .configBad := by
  have hsilent (l : List Entry) (u : State) :
      (l.foldl State.reportSilent u).faults.get .configBad = u.faults.get .configBad :=
    List.foldlRecOn (motive := fun t : State => t.faults.get .configBad = u.faults.get .configBad) l _ rfl
      fun t ht e _ => (t.reportSilent_configBad e).trans ht
  unfold State.ageEntries
  simp only
  split
  · rfl
  · simp [hsilent]

/-- R185: the refresh of the last-seen times moves no present flag. -/
theorem State.boundaryFaults_configBad (s : State) :
    (s.boundaryFaults.faults.get .configBad).present = (s.faults.get .configBad).present := by
  change (FaultEntry.refresh s.time.clock .configBad s.faults.configBad).present = s.faults.configBad.present
  unfold FaultEntry.refresh
  split <;> rfl

theorem State.boundaryTask_leavesLoad {task : BoundaryTask} (h : task ≠ .tagTimeout) (n : Nat) {s : State}
    (hidle : s.working = false) : LeavesLoad s (s.boundaryTask n task) := by
  refine ⟨?_, by simp, ?_⟩
  · cases task with
    | tagTimeout => exact absurd rfl h
    | coordination => simp [State.boundaryTask, State.boundaryCoordination, hidle]
    | sequencer => simp [State.boundaryTask, State.settled]
    | counters => simp [State.boundaryTask]
    | duplicate => simp [State.boundaryTask]
    | aging => simp [State.boundaryTask]
    | faults => simp [State.boundaryTask]
  · cases task with
    | tagTimeout => exact absurd rfl h
    | coordination => simp [State.boundaryTask]
    | sequencer => simp [State.boundaryTask, State.settled, s.boundarySequencer_configBad]
    | counters => rw [State.boundaryTask, s.boundaryCounters_configBad]
    | duplicate => rw [State.boundaryTask, s.boundaryDuplicate_configBad]
    | aging => rw [State.boundaryTask, s.ageEntries_configBad]
    | faults => exact s.boundaryFaults_configBad

theorem State.boundaryTasks_leaveLoad {l : List BoundaryTask} (h : ∀ task ∈ l, task ≠ .tagTimeout) (n : Nat) {s : State}
    (hidle : s.working = false) : LeavesLoad s (l.foldl (fun u task => u.boundaryTask n task) s) :=
  List.foldlRecOn (motive := LeavesLoad s) l _ (.refl s) fun _ ht task hmem =>
    ht.trans (State.boundaryTask_leavesLoad (h task hmem) n (ht.idle hidle))

/-- The tag's part of a boundary leaves the station LOADING below 5 s and refuses the load at 5 s. -/
theorem State.boundaryTag_of_loading {s : State} (hloading : s.conf.station = .loading) :
    s.boundaryTag = if 5 ≤ s.time.clock then s.unconfigure .absent else s := by
  simp [State.boundaryTag, State.loadTimedOut, hloading, State.loadCompleted]

theorem State.boundaryTag_idle {s : State} (hloading : s.conf.station = .loading) : s.boundaryTag.working = false := by
  rw [State.boundaryTag_of_loading hloading]
  split
  · simp [State.working, State.unconfigure_conf]
  · simp [State.working, hloading]

/-- The boundary around the tag's part, which comes once. -/
theorem State.boundaryWork_around_tag (ord : BoundaryOrder) {s : State} (hloading : s.conf.station = .loading) :
    ∃ u : State, LeavesLoad s u ∧ LeavesLoad u.boundaryTag (s.boundaryWork ord) := by
  obtain ⟨post, heq, hpost⟩ :=
    eq_takeWhile_append_cons (mem_boundarySchedule .tagTimeout ord.tasks) (nodup_boundarySchedule ord.tasks)
  have hidle : s.working = false := by simp [State.working, hloading]
  have hbefore := State.boundaryTasks_leaveLoad (fun task hmem => ne_of_mem_takeWhile hmem) ord.lastSilent hidle
    (l := (boundarySchedule ord.tasks).takeWhile (· ≠ .tagTimeout))
  refine ⟨_, hbefore, ?_⟩
  obtain ⟨hconf, -⟩ := hbefore
  unfold State.boundaryWork
  rw [heq, List.foldl_append, List.foldl_cons, ← heq]
  refine State.boundaryTasks_leaveLoad (fun task hmem => ?_) _ ?_
  · rintro rfl
    exact hpost hmem
  · exact State.boundaryTag_idle (hconf ▸ hloading)

/-- R181: a second boundary of a station that is LOADING, in every order. -/
theorem State.boundaryWork_of_loading (ord : BoundaryOrder) {s : State} (hloading : s.conf.station = .loading) :
    (5 ≤ (s.boundaryWork ord).time.clock →
        (s.boundaryWork ord).conf = { s.conf with station := .unconfigured, load := some .absent }
          ∧ (s.boundaryWork ord).faults.configBad.present = true)
      ∧ ((s.boundaryWork ord).time.clock < 5 → (s.boundaryWork ord).conf = s.conf) := by
  obtain ⟨u, ⟨huconf, hutime, -⟩, htconf, httime, htpresent⟩ := State.boundaryWork_around_tag ord hloading
  rw [State.boundaryTag_of_loading (huconf ▸ hloading)] at htconf httime htpresent
  have hclock : (s.boundaryWork ord).time.clock = u.time.clock := by
    rw [httime]
    split <;> simp
  rw [hclock]
  refine ⟨fun hfive => ?_, fun hbelow => ?_⟩
  · rw [if_pos hfive] at htconf htpresent
    exact ⟨by rw [htconf, State.unconfigure_conf, huconf], htpresent.trans (State.unconfigure_present _ _)⟩
  · rw [if_neg (by omega)] at htconf
    rw [htconf, huconf]

theorem exec_tagLoadTimeout {s : State} (hdue : s.time.boundaryDue = true) (hloading : s.conf.station = .loading)
    (hfive : 5 ≤ s.time.clock) : exec .tagLoadTimeout s = .next (s.unconfigure .absent) := by
  simp [exec, execTagLoadTimeout, State.atBoundary, State.loadTimedOut, hdue, hloading, hfive, State.loadCompleted]

/-- A refused image is judged so, and the station UNCONFIGURED with that load result. -/
theorem State.loadCompleted_of_refused {j : Judgement} {r : LoadResult}
    (h : j = .absent ∧ r = .absent ∨ j = .crcFailed ∧ r = .crcFailed ∨ ∃ o, j = .outOfRange o ∧ r = .outOfRange o)
    (s : State) : s.loadCompleted j = s.unconfigure r := by
  rcases h with ⟨rfl, rfl⟩ | ⟨rfl, rfl⟩ | ⟨o, rfl, rfl⟩ <;> rfl

/-- The count of free values moves with the judgement of an image. -/
theorem OnlyChanges.of_counted {l : List Block} {s t : State} (n : Nat)
    (h : OnlyChanges l { s with freeCount := n } t) : OnlyChanges (l ++ [.free]) s t := by
  intro b hb
  have hb' : b ∉ l ∧ b ≠ .free := by simpa using hb
  obtain ⟨hnot, hfree⟩ := hb'
  have hsame := h b hnot
  cases b <;> first | exact hsame | exact absurd rfl hfree

/-- Settles O37: the accepted load through `State.configure_vacant`, the refused one through `State.unconfigure`, and the
boundary around the tag's part. -/
theorem tagLoadConfiguresOrRefuses : Obligations.TagLoadConfiguresOrRefuses := by
  refine ⟨fun s image tag ps hloading hnone hjudged => ?_, fun s image j r hloading hjudged hrefused => ?_,
    fun s hdue hloading hfive => ?_, fun ord s hopen hloading => ?_,
    fun n image hlen hbad => judgeDelivered_of_badLength hlen hbad n,
    fun n covered check hleast htwo hstated hmost hwrong => ?_⟩
  · obtain ⟨hlink, -, hlimit, hallowance, huplift, hstart, hstandoff⟩ :=
      State.configure_vacant (s := { s with freeCount := s.freeCount + 1 }) (tag := tag) (ps := ps) hnone
    rw [Link.enterListen_eq] at hlink
    rw [exec_tagLoadComplete hloading hjudged, State.loadCompleted_of_accepted]
    exact ⟨_, rfl, State.configure_conf, hlink, State.configure_table, hstart, hlimit, hallowance, huplift, hstandoff,
      .of_counted _ (State.configure_onlyChanges (s := { s with freeCount := s.freeCount + 1 }) hnone)⟩
  · rw [exec_tagLoadComplete hloading hjudged, State.loadCompleted_of_refused hrefused]
    set u : State := { s with freeCount := s.freeCount + 1 }
    refine ⟨_, rfl, State.unconfigure_conf _ _, State.unconfigure_present _ _, fun hmasked => ?_,
      fun k hk => State.unconfigure_get_of_ne hk, .of_counted _ (State.unconfigure_onlyChanges _ _)⟩
    obtain ⟨-, hcount⟩ := State.unconfigure_count (s := u) (r := r) hmasked
    exact ⟨hcount, State.unconfigure_relayClosed (s := u) hmasked⟩
  · exact ⟨_, exec_tagLoadTimeout hdue hloading hfive, State.unconfigure_conf _ _, State.unconfigure_present _ _,
      State.unconfigure_onlyChanges _ _⟩
  · exact ⟨_, exec_secondBoundary_of_open hopen ord, State.boundaryWork_of_loading ord (s := s.atNewSecond) hloading⟩
  · have hlength : (covered ++ check).length = covered.length + 2 := by simp [htwo]
    rw [judgeDelivered_of_whole ?_ (by omega) (by omega), judgeImage_of_wrongCheck htwo hwrong]
    rw [List.take_append_of_le_length hleast, hstated, hlength]

end Sys2Proof.Machine
end

section
/-! SUPPORT. The limits of the Neighbour Table across one move of the machine: which lists of entries it may hold, and
what every part of an event and every row of the table makes of them (R132, R134, R136, R140 to R143, R147). -/

namespace Sys2Proof.Machine

/-! ## Lists of entries -/

/-- R132 to R134, R136: a list of entries that the table may hold, by the row spacing and the own identity. -/
def EntriesLawful (spacing : Nat) (own : Identity) (l : List Entry) : Prop :=
  l.length ≤ tableSize ∧ (l.map (·.identity)).Nodup
    ∧ ∀ e ∈ l, e.identity ≠ own ∧ e.distance = distance spacing e.identity own

section
variable {spacing : Nat} {own : Identity} {l : List Entry}

theorem EntriesLawful.nil : EntriesLawful spacing own [] := ⟨Nat.zero_le _, List.nodup_nil, by simp⟩

theorem EntriesLawful.filter (h : EntriesLawful spacing own l) (p : Entry → Bool) :
    EntriesLawful spacing own (l.filter p) := by
  obtain ⟨hsize, hnodup, hentries⟩ := h
  exact ⟨(List.length_filter_le p l).trans hsize, hnodup.sublist (List.filter_sublist.map _),
    fun e he => hentries e (List.mem_of_mem_filter he)⟩

/-- A change that leaves every identity and every distance. -/
theorem EntriesLawful.map (h : EntriesLawful spacing own l) {f : Entry → Entry}
    (hf : ∀ e, (f e).identity = e.identity ∧ (f e).distance = e.distance) : EntriesLawful spacing own (l.map f) := by
  obtain ⟨hsize, hnodup, hentries⟩ := h
  choose hidentity hdistance using hf
  refine ⟨by simpa using hsize, by simpa [Function.comp_def, hidentity] using hnodup, ?_⟩
  simpa [hidentity, hdistance] using hentries

section
variable (h : EntriesLawful spacing own l) {new : Entry} (hnew : ∀ e ∈ l, e.identity ≠ new.identity)
  (hown : new.identity ≠ own) (hdistance : new.distance = distance spacing new.identity own)
include h hnew hown hdistance

/-- R140: a new station takes a free place. -/
theorem EntriesLawful.append (hroom : l.length < tableSize) : EntriesLawful spacing own (l ++ [new]) := by
  obtain ⟨-, hnodup, hentries⟩ := h
  refine ⟨by simpa using hroom, ?_, fun e he => ?_⟩
  · rw [List.map_append, List.nodup_append]
    refine ⟨hnodup, by simp, ?_⟩
    simpa using hnew
  · rcases List.mem_append.mp he with he | he
    · exact hentries e he
    · obtain rfl := List.mem_singleton.mp he
      exact ⟨hown, hdistance⟩

/-- R141: a new station takes the place of another. -/
theorem EntriesLawful.replace (old : Identity) :
    EntriesLawful spacing own (l.map fun e => if e.identity = old then new else e) := by
  obtain ⟨hsize, hnodup, hentries⟩ := h
  refine ⟨by simpa using hsize, ?_, fun e he => ?_⟩
  · have hids : (l.map fun e => if e.identity = old then new else e).map (·.identity)
        = (l.map (·.identity)).map fun i => if i = old then new.identity else i := by
      rw [List.map_map, List.map_map]
      exact List.map_congr_left fun e _ => apply_ite Entry.identity _ _ _
    have hfree : ∀ i ∈ l.map (·.identity), i ≠ new.identity := by simpa using hnew
    rw [hids]
    refine hnodup.map_on fun i hi j hj hij => ?_
    have hinew := hfree i hi
    have hjnew := hfree j hj
    split at hij <;> split at hij <;> simp_all
  · obtain ⟨x, hx, rfl⟩ := List.mem_map.mp he
    split
    · exact ⟨hown, hdistance⟩
    · exact hentries x hx

end

end

/-! ## The table across a move -/

/-- From `s` to `t` the limits of the table are kept. -/
def KeepsTable (s t : State) : Prop := TableInvariant s → TableInvariant t

section
variable {s t u : State}

theorem KeepsTable.refl (s : State) : KeepsTable s s := id

theorem KeepsTable.trans (h : KeepsTable s t) (k : KeepsTable t u) : KeepsTable s u := k ∘ h

/-- A choice between two moves that each keep the limits. -/
theorem KeepsTable.ite {c : Prop} [Decidable c] (h : KeepsTable s t) (k : KeepsTable s u) :
    KeepsTable s (if c then t else u) := by
  split
  · exact h
  · exact k

/-- A move that is made only while its guard holds. -/
theorem KeepsTable.guarded {c : Prop} [Decidable c] (h : KeepsTable s t) : KeepsTable s (if c then t else s) :=
  .ite h (.refl s)

/-- A move that leaves the entries and the settings of the tag. -/
theorem KeepsTable.of_stands (h : t.table.entries = s.table.entries ∧ t.conf.tag = s.conf.tag) : KeepsTable s t := by
  obtain ⟨hentries, htag⟩ := h
  simp only [KeepsTable, TableInvariant, State.own, hentries, htag]
  exact id

/-- A move that touches neither the table nor the settings. -/
theorem OnlyChanges.keepsTable {l : List Block} (h : OnlyChanges l s t) (htable : .table ∉ l) (hconf : .conf ∉ l) :
    KeepsTable s t := by
  have hsame : t.table = s.table := h .table htable
  have hset : t.conf = s.conf := h .conf hconf
  exact .of_stands ⟨by rw [hsame], by rw [hset]⟩

/-- R147: an empty table, whatever the settings. -/
theorem KeepsTable.of_empty (h : t.table.entries = []) : KeepsTable s t := by
  intro _
  unfold TableInvariant
  rw [h]
  exact EntriesLawful.nil

/-- The entries take another value that the settings in force allow. -/
theorem State.setEntries_keepsTable {l : List Entry}
    (h : EntriesLawful s.conf.tag.rowSpacing s.own s.table.entries → EntriesLawful s.conf.tag.rowSpacing s.own l) :
    KeepsTable s (s.setEntries l) := h

theorem KeepsTable.evaluate (h : KeepsTable s t) : KeepsTable s t.evaluate := h.trans (.of_stands (by simp))

end

/-! ## The Neighbour Table (R136 to R143) -/

theorem State.hearOwn_keepsTable (s : State) : KeepsTable s s.hearOwn := .of_stands (by simp [State.hearOwn_table])

theorem State.countLink_keepsTable (f : LinkCounters → LinkCounters) (s : State) : KeepsTable s (s.countLink f) :=
  .of_stands (by simp)

/-- R140, R141: the bulletin of an identity that the table does not hold. -/
theorem State.admission_new_keepsTable {b : Bulletin} {s : State} (hown : b.identity ≠ s.own)
    (hpass : filtersPass s.conf.tag.filters b.identity = true)
    (hnone : s.table.entries.find? (·.identity = b.identity) = none) : KeepsTable s (s.admission b) := by
  have hnew : ∀ e ∈ s.table.entries, e.identity ≠ b.identity := by simpa using hnone
  rcases Nat.lt_or_ge s.table.entries.length 24 with hroom | hfull
  · rw [State.admission_appended hown hpass hnone hroom]
    exact .evaluate (State.setEntries_keepsTable fun h => h.append hnew hown rfl hroom)
  · by_cases hplace : ∃ c, candidate s.table.entries = some c
        ∧ takesPlace (distance s.conf.tag.rowSpacing b.identity s.own) b.identity c = true
    · obtain ⟨c, hc, htakes⟩ := hplace
      rw [State.admission_replaces hown hpass hnone hfull hc htakes]
      exact .evaluate (State.setEntries_keepsTable fun h => h.replace hnew hown rfl c.identity)
    · rw [State.admission_full hown hpass hnone hfull fun c hc htakes => hplace ⟨c, hc, htakes⟩]
      exact .of_stands (by simp)

theorem State.admission_keepsTable (b : Bulletin) (s : State) : KeepsTable s (s.admission b) := by
  by_cases hown : b.identity = s.own
  · rw [State.admission_own hown]
    exact s.hearOwn_keepsTable
  · cases hpass : filtersPass s.conf.tag.filters b.identity with
    | false =>
      rw [State.admission_filtered hown hpass]
      exact s.countLink_keepsTable _
    | true =>
      cases hheld : s.table.entries.find? (·.identity = b.identity) with
      | none => exact State.admission_new_keepsTable hown hpass hheld
      | some e =>
        rw [State.admission_held hown hpass hheld]
        refine .ite (.evaluate (State.setEntries_keepsTable fun h => h.map fun x => ?_)) (s.countLink_keepsTable _)
        split
        · next hx => exact ⟨hx.symm, rfl⟩
        · exact ⟨rfl, rfl⟩

/-- R143: the entries that a boundary leaves, in their order. -/
def State.agedEntries (s : State) : List Entry :=
  (s.table.entries.filter fun e => !s.goneNow e).map fun e => if s.staleNow e then { e with fresh := false } else e

theorem State.ageEntries_table (n : Nat) (s : State) :
    (s.ageEntries n).table = { s.table with entries := s.agedEntries } := by
  unfold State.ageEntries
  simp only
  split
  · next hsame =>
    have haged : s.agedEntries = s.table.entries := hsame
    rw [haged]
  · simp [State.setEntries, State.agedEntries]

theorem State.ageEntries_keepsTable (n : Nat) (s : State) : KeepsTable s (s.ageEntries n) := by
  have haged : KeepsTable s (s.setEntries s.agedEntries) :=
    State.setEntries_keepsTable fun h => (h.filter _).map fun e => by split <;> exact ⟨rfl, rfl⟩
  exact haged.trans (.of_stands (by simp [State.ageEntries_table, State.setEntries]))

theorem State.clearDuplicate_keepsTable (s : State) : KeepsTable s s.clearDuplicate :=
  .evaluate (.of_stands (by simp))

theorem State.markStale_keepsTable (id : Identity) (s : State) : KeepsTable s (s.markStale id) :=
  .evaluate (State.setEntries_keepsTable fun h => h.map fun e => by split <;> exact ⟨rfl, rfl⟩)

theorem State.removeEntry_keepsTable (e : Entry) (s : State) : KeepsTable s (s.removeEntry e) :=
  .evaluate ((State.setEntries_keepsTable fun h => h.filter fun x => x.identity ≠ e.identity).trans
    (.of_stands (by simp)))

/-! ## The tag, and the composite events -/

/-- R181: a refused image leaves table and settings; an accepted one brings settings and an empty table. -/
theorem State.loadCompleted_keepsTable (j : Judgement) (s : State) : KeepsTable s (s.loadCompleted j) := by
  have hrefused (r : LoadResult) : KeepsTable s (s.unconfigure r) := .of_stands (by simp [State.unconfigure_conf])
  cases j with
  | absent => exact hrefused _
  | crcFailed => exact hrefused _
  | outOfRange o => exact hrefused _
  | accepted t ps => exact .of_empty (by simp [State.loadCompleted, State.configure_table])

theorem State.endListen_keepsTable (s : State) : KeepsTable s s.endListen := .evaluate (.of_stands ⟨rfl, rfl⟩)

theorem State.boundaryCoordination_keepsTable (s : State) : KeepsTable s s.boundaryCoordination := by
  have hrefresh (u : State) : KeepsTable u u.refreshSuspects := .of_stands (by simp)
  exact .guarded (.evaluate ((KeepsTable.guarded s.endListen_keepsTable).trans (hrefresh _)))

theorem State.boundaryTask_keepsTable (n : Nat) (task : BoundaryTask) (s : State) :
    KeepsTable s (s.boundaryTask n task) := by
  cases task with
  | tagTimeout => exact .guarded (s.loadCompleted_keepsTable _)
  | duplicate => exact .guarded s.clearDuplicate_keepsTable
  | aging => exact s.ageEntries_keepsTable n
  | coordination => exact s.boundaryCoordination_keepsTable
  | sequencer | counters | faults => exact .of_stands (by simp [State.boundaryTask, State.settled])

theorem State.secondBoundary_keepsTable (ord : BoundaryOrder) (s : State) : KeepsTable s (s.secondBoundary ord) := by
  have hwork (u : State) : KeepsTable u (u.boundaryWork ord) :=
    List.foldlRecOn (motive := KeepsTable u) _ _ (.refl u) fun t ht task _ =>
      ht.trans (t.boundaryTask_keepsTable _ task)
  have htime : KeepsTable s { s with time := s.time.forBoundary } := .of_stands ⟨rfl, rfl⟩
  exact .guarded (htime.trans (hwork _))

/-- A sample set leaves the table; only the boundary that was still due before it may touch it (log entry 4). -/
theorem State.sampleSet_keepsTable (inp : SampleInput) (ord : SampleOrder) (s : State) :
    KeepsTable s (s.sampleSet inp ord) := by
  have hoverdue : KeepsTable s s.overdueBoundary := .guarded (s.secondBoundary_keepsTable _)
  have hwork (set : SampleSet) (stroke : Nat) (u : State) : KeepsTable u (u.sampleWork set ord.tasks stroke) := by
    obtain ⟨hblocks, -⟩ := u.sampleWork_frame set ord.tasks stroke
    exact hblocks.keepsTable (by simp) (by simp)
  have hset (u : State) : KeepsTable u (u.takeSampleSet inp ord) := by
    have hbuilt : KeepsTable u (u.judgeInputs inp ord.channels).buildSet :=
      ((u.judgeInputs_onlyChanges inp ord.channels).keepsTable (by simp) (by simp)).trans (.of_stands (by simp))
    unfold State.takeSampleSet
    simp only
    split
    · exact hbuilt.trans (hwork _ _ _)
    · exact hbuilt
  have htime (u : State) : KeepsTable u { u with time := u.time.forSample } := .of_stands ⟨rfl, rfl⟩
  exact (hoverdue.trans (htime _)).trans (hset _)

end Sys2Proof.Machine
end

section
/-! SUPPORT. Every row of the table, every console command and the idle step keep the limits of the Neighbour Table
(O53). -/

namespace Sys2Proof.Machine

/-! ## The curtain link -/

theorem State.finishFrame_keepsTable (n : Byte) (body check : List Byte) (s : State) :
    KeepsTable s (s.finishFrame n body check) := by
  have hhunting : KeepsTable s (s.modLink fun l => { l with receiver := .hunting }) := .of_stands (by simp)
  unfold State.finishFrame
  refine hhunting.trans ?_
  simp only
  split
  · exact State.countLink_keepsTable _ _
  · exact State.countLink_keepsTable _ _
  · exact (State.countLink_keepsTable _ _).trans (.guarded (State.admission_keepsTable _ _))

theorem State.modLink_keepsTable (f : Link → Link) (s : State) : KeepsTable s (s.modLink f) := .of_stands (by simp)

theorem State.frameCharacter_keepsTable (got : List Byte) (b : Byte) (s : State) :
    KeepsTable s (s.frameCharacter got b) := by
  unfold State.frameCharacter
  split
  · exact s.modLink_keepsTable _
  · exact s.modLink_keepsTable _
  · exact s.modLink_keepsTable _
  · exact .ite (s.finishFrame_keepsTable _ _ _) (s.modLink_keepsTable _)
  · exact .refl s

theorem State.receive_keepsTable (b : Byte) (stopFound : Bool) (s : State) :
    KeepsTable s (s.receive b stopFound) := by
  unfold State.receive
  split
  · exact .refl s
  · exact .guarded (s.frameCharacter_keepsTable _ _)
  · exact .ite (s.frameCharacter_keepsTable _ _) (s.modLink_keepsTable _)

theorem State.character_keepsTable (b : Byte) (stopFound : Bool) (s : State) :
    KeepsTable s (s.character b stopFound) := by
  unfold State.character
  refine (s.modLink_keepsTable Link.charEnd).trans ?_
  simp only
  split
  · exact .of_stands (by simp)
  · exact State.receive_keepsTable _ _ _

theorem State.wholeFrame_keepsTable (bytes : List Byte) (s : State) : KeepsTable s (s.wholeFrame bytes) := by
  unfold State.wholeFrame
  split
  · exact .guarded ((s.modLink_keepsTable _).trans (State.finishFrame_keepsTable _ _ _ _))
  · exact .refl s

/-- A row that names a moment of link time. -/
theorem State.atMoment_keepsTable {f : State → State} (hf : ∀ u, KeepsTable u (f u)) (d : Nat) (s : State) :
    KeepsTable s (s.atMoment d f) :=
  .guarded (KeepsTable.trans (.of_stands (by simp)) (hf (s.pass d)))

theorem State.endFragment_keepsTable (why : FragmentCause) (s : State) : KeepsTable s (s.endFragment why) := by
  have hended := s.modLink_keepsTable fun l => l.charEnd.fragment
  cases why with
  | silence => exact .guarded (State.atMoment_keepsTable (fun u => .guarded (u.modLink_keepsTable _)) _ s)
  | framing => exact .guarded hended
  | badLead =>
    simp only [State.endFragment]
    split
    · exact .guarded hended
    · exact .guarded hended
    · exact .refl s

/-! ## The console commands and the panel port -/

theorem State.openStage_keepsTable (top bottom profile : Nat) (waterTest autoAdvance : Bool) (s : State) :
    KeepsTable s (s.openStage top bottom profile waterTest autoAdvance) := by
  obtain ⟨-, -, -, hconf⟩ := s.createStage_blocks top bottom profile waterTest autoAdvance
  exact .evaluate (.of_stands (by simp [hconf]))

/-- R174: only RESTART touches the table, and empties it (R147); no command touches the settings of the tag. -/
theorem State.perform_keepsTable (c : PanelCmd) (s : State) : KeepsTable s (s.perform c).state := by
  cases c with
  | restart =>
    obtain ⟨-, htable, -⟩ := s.restart_blocks
    exact .of_empty (t := s.restart) (by rw [htable])
  | openStage top bottom profile test advance =>
    simp only [State.perform, State.doOpen]
    split
    · exact .refl s
    · split
      · exact .refl s
      · split
        · exact .refl s
        · exact s.openStage_keepsTable _ _ _ _ _
  | start | stepTo | hold | release | stop | abort | accept | mix | tune =>
    simp only [State.perform, State.doStart, State.doStep, State.doHold, State.doRelease, State.doStop, State.doAbort,
      State.doAccept, State.doMix, State.doTune]
    (repeat' split) <;> exact .of_stands (by
      simp [State.refuse, State.answerPhase, State.answerOk, State.settled, State.acceptStage])
  | read | logRead | logTake | auto | mask =>
    simp only [State.perform, State.doRead, State.doLogRead, State.doLogTake, State.doAuto, State.doMask]
    (repeat' split) <;> exact .of_stands ⟨rfl, rfl⟩
  | unknown | badLength | status | snap | lock | faultClear => exact .of_stands ⟨rfl, rfl⟩

theorem State.setProcess_keepsTable (p : Option InProcess) (s : State) : KeepsTable s (s.setProcess p) :=
  .of_stands (by simp)

theorem State.takeCommand_keepsTable (c : PanelCmd) (s : State) : KeepsTable s (s.takeCommand c) := by
  have hanswer : KeepsTable s (s.answer c).state := by
    unfold State.answer
    split
    · exact .refl s
    · exact s.perform_keepsTable c
  exact .ite (s.setProcess_keepsTable _) (hanswer.trans (State.setProcess_keepsTable _ _))

theorem State.setPanel_keepsTable (p : Panel) (s : State) : KeepsTable s { s with panel := p } := .of_stands ⟨rfl, rfl⟩

theorem State.panelArrive_keepsTable (c : PanelCmd) (s : State) : KeepsTable s (s.panelArrive c) := by
  unfold State.panelArrive
  split
  · exact .of_stands (by simp)
  · split
    · exact s.takeCommand_keepsTable c
    · exact s.setPanel_keepsTable _

theorem State.endResponse_keepsTable (s : State) : KeepsTable s s.endResponse := by
  unfold State.endResponse
  split
  · split
    · exact (s.setPanel_keepsTable _).trans (State.takeCommand_keepsTable _ _)
    · exact s.setProcess_keepsTable _
  · exact .refl s

theorem State.completeMessage_keepsTable (msg : List Byte) (s : State) : KeepsTable s (s.completeMessage msg) := by
  have hhunting : KeepsTable s (s.setPanelReceiver .hunting) := s.setPanel_keepsTable _
  unfold State.completeMessage
  refine .ite ?_ (hhunting.trans (State.setPanel_keepsTable _ _))
  split
  · exact hhunting.trans (State.panelArrive_keepsTable _ _)
  · exact hhunting

theorem State.panelByte_keepsTable (b : Byte) (s : State) : KeepsTable s (s.panelByte b) := by
  unfold State.panelByte
  refine (s.setPanel_keepsTable { s.panel.silenceReached with silence := 0 }).trans ?_
  simp only
  split
  · exact .ite (State.setPanel_keepsTable _ _) (.of_stands (by simp))
  · exact .ite (State.completeMessage_keepsTable _ _) (State.setPanel_keepsTable _ _)
  · exact .refl _

theorem State.panelWhole_keepsTable (msg : List Byte) (s : State) : KeepsTable s (s.panelWhole msg) :=
  .guarded ((s.setPanel_keepsTable _).trans (State.completeMessage_keepsTable _ _))

/-! ## Every command, and the idle step -/

theorem State.complete_keepsTable (ord : List CompletionTask) (s : State) : KeepsTable s (s.complete ord) := by
  have hwork (l : Latched) (r : ReckRecord) (u : State) : KeepsTable u (u.completionWork ord l r) :=
    List.foldlRecOn (motive := KeepsTable u) _ _ (.refl u) fun t ht task _ => ht.trans (.of_stands (by simp))
  have hreleased (u : State) : KeepsTable u u.releaseRead.beginFromSlot := .of_stands (by simp)
  have henv (u : State) (e : Envelope) : KeepsTable u { u with env := e } := .of_stands ⟨rfl, rfl⟩
  unfold State.complete
  split
  · exact .refl s
  · refine KeepsTable.trans ?_ (hreleased _)
    split
    · exact (henv _ _).trans (hwork _ _ _)
    · exact henv _ _

/-- Every command that answers a next state keeps the limits: those that touch table or settings by their lemmas, and
the others by their frames. -/
theorem exec_keepsTable {i : Instr} {s t : State} (h : exec i s = .next t) : KeepsTable s t := by
  cases i <;> cases h
  case powerOnReset => exact .of_empty rfl
  case sampleSet inp ord => exact s.sampleSet_keepsTable inp ord
  case secondBoundary ord => exact s.secondBoundary_keepsTable ord
  case reckoningCompletion ord => exact s.complete_keepsTable ord
  case frameReceived bytes => exact s.wholeFrame_keepsTable bytes
  case badLengthFrame n => exact .guarded (s.modLink_keepsTable _)
  case startBitSeen => exact s.modLink_keepsTable _
  case fragment why => exact s.endFragment_keepsTable why
  case characterReceived b stopFound => exact s.character_keepsTable b stopFound
  case duplicateClear => exact .guarded s.clearDuplicate_keepsTable
  case entryStale id =>
    split
    · exact .guarded (s.markStale_keepsTable id)
    · exact .refl s
  case entryRemoved id =>
    split
    · exact .guarded (s.removeEntry_keepsTable _)
    · exact .refl s
  case listenEnd => exact .guarded s.endListen_keepsTable
  case tagLoadComplete image =>
    have hdrawn : KeepsTable s { s with freeCount := s.freeCount + 1 } := .of_stands ⟨rfl, rfl⟩
    split
    · exact hdrawn.trans (State.loadCompleted_keepsTable _ _)
    · exact .refl s
  case tagLoadTimeout => exact .guarded (s.loadCompleted_keepsTable _)
  case periodicRequest => exact .guarded (State.atMoment_keepsTable (State.modLink_keepsTable _) _ s)
  case holdOffEnd =>
    split
    · exact State.atMoment_keepsTable (fun u => .guarded (u.modLink_keepsTable _)) _ s
    · exact .refl s
  case attemptStart =>
    split
    · exact .ite (.refl s) (State.atMoment_keepsTable (fun u => .of_stands (by simp)) _ s)
    · exact .refl s
  case lineIdle => exact .ite (.refl s) (State.atMoment_keepsTable .refl _ s)
  case panelMessage bytes => exact s.panelWhole_keepsTable bytes
  case panelSilenceTimeout => exact s.setPanel_keepsTable _
  case responseEnd => exact s.endResponse_keepsTable
  case panelByteReceived b => exact s.panelByte_keepsTable b
  case channelFail | channelRecover | inputDebounceAccept => exact .guarded (.of_stands (by simp))
  case reachedStepArrival | autoAdvance | testStepEnd | endCriteriaClose | mixConfirm | mixTimeout | holdTimerExpiry
    | accessTimeout | transmissionComplete | attemptFailed | linkJam | supplyPresent | supplyAbsent
    | connectionReportStart | connectionReportClear =>
    (repeat' split) <;> exact .of_stands (by simp [State.settled])
  all_goals exact s.panelArrive_keepsTable _

theorem State.idle_keepsTable (s : State) : KeepsTable s s.idle := by
  have hdue {t : State} (h : s.attemptDue = some t) : KeepsTable s t := by
    unfold State.attemptDue at h
    (repeat' split at h) <;> cases h <;> exact .of_stands (by simp)
  unfold State.idle
  split
  · next h => exact hdue h
  · exact .ite (s.modLink_keepsTable _) (.ite (s.modLink_keepsTable _) (.of_stands (by simp)))

/-- Every step that answers a next state keeps the limits: the command that is taken, or the idle step. -/
theorem step_keepsTable {s t : State} (h : step s = .next t) : KeepsTable s t := by
  unfold step at h
  split at h
  · next i rest _ =>
    have htaken : KeepsTable s { s with pending := rest } := .of_stands ⟨rfl, rfl⟩
    exact htaken.trans (exec_keepsTable h)
  · cases h
    exact s.idle_keepsTable

/-- Settles O53, from the step lemma of the table's limits. -/
theorem tableInvariantKept : Obligations.TableInvariantKept := fun _ _ hs h => step_keepsTable h hs

end Sys2Proof.Machine
end

section
/-! SUPPORT. The four rows of a second boundary that touch the Neighbour Table or the LISTEN state, each with the
general evaluation that follows it (R137, R143, R145, R154). -/

namespace Sys2Proof.Machine

section
variable {s v : State} {e : Entry}

/-- What the evaluation that follows a row leaves: STANDOFF by its causes, the other conditions, and all that a change
of phase leaves. -/
theorem State.evaluate_afterRow (hworking : s.working = true → v.working = true) (hseq : v.seq = s.seq) :
    (s.working = true → v.evaluate.seq.kept.standoff = v.evaluate.standoffCauses.any)
      ∧ FieldAndSupplyKept s v.evaluate ∧ PhaseFrame v v.evaluate := by
  have hstart : FieldAndSupplyKept s v := by simp [FieldAndSupplyKept, hseq]
  refine ⟨fun hw => ?_, hstart.trans v.evaluate_fieldAndSupplyKept, v.evaluate_phaseFrame⟩
  obtain ⟨hstandoff, -⟩ := v.evaluate_standoffFollows (v.evaluate_working.trans (hworking hw))
  exact hstandoff

/-! ## The guards of the rows -/

theorem State.staleNow_iff (s : State) (e : Entry) :
    s.staleNow e = true ↔ e.fresh = true ∧ s.conf.tag.aStale ≤ s.ageOf e ∧ s.ageOf e < 3 * s.conf.tag.aStale := by
  simp [State.staleNow, and_assoc]

theorem State.goneNow_iff (s : State) (e : Entry) : s.goneNow e = true ↔ 3 * s.conf.tag.aStale ≤ s.ageOf e := by
  simp [State.goneNow]

/-- R137: the flag is over; it is not while the own identity was never heard. -/
theorem State.duplicateOver_iff (s : State) :
    s.duplicateOver = true ↔ s.table.duplicate = true
      ∧ ∃ h, s.table.ownHeard = some h ∧ 3 * s.conf.tag.aStale ≤ (s.time.clock + 4294967296 - h) % 4294967296 := by
  unfold State.duplicateOver
  cases s.table.ownHeard with
  | none => simp
  | some t =>
    rw [Bool.and_eq_true, decide_eq_true_iff]
    simp [elapsed32, two32]

/-- R154: LISTEN is over; it is not while it has no start. -/
theorem State.listenOver_iff (s : State) :
    s.listenOver = true ↔ s.conf.station = .listen
      ∧ ∃ p, s.coord.listenStart = some p ∧ 3 * s.conf.tag.pB ≤ 100 * s.listenTenths p := by
  unfold State.listenOver
  cases s.coord.listenStart <;> simp [Nat.mul_comm 100]

theorem State.working_of_listen (h : s.conf.station = .listen) : s.working = true := by
  simp [State.working, h]

/-! ## The rows -/

theorem exec_entryStale (hdue : s.time.boundaryDue = true) (he : s.entryAt e.identity = some e)
    (hstale : s.staleNow e = true) : exec (.entryStale e.identity) s = .next (s.markStale e.identity) := by
  have hat : s.atBoundary = true := hdue
  simp [exec, execEntryStale, he, hat, hstale]

theorem exec_entryRemoved (hdue : s.time.boundaryDue = true) (he : s.entryAt e.identity = some e)
    (hgone : s.goneNow e = true) : exec (.entryRemoved e.identity) s = .next (s.removeEntry e) := by
  have hat : s.atBoundary = true := hdue
  simp [exec, execEntryRemoved, he, hat, hgone]

theorem exec_duplicateClear (hdue : s.time.boundaryDue = true) (hover : s.duplicateOver = true) :
    exec .duplicateClear s = .next s.clearDuplicate := by
  have hat : s.atBoundary = true := hdue
  simp [exec, execDuplicateClear, hat, hover]

theorem exec_listenEnd (hdue : s.time.boundaryDue = true) (hover : s.listenOver = true) :
    exec .listenEnd s = .next s.endListen := by
  have hat : s.atBoundary = true := hdue
  obtain ⟨hlisten, -⟩ := s.listenOver_iff.mp hover
  simp [exec, execListenEnd, hat, hover, State.working_of_listen hlisten]

/-! ## What a removal reports -/

theorem State.reportSilent_get_of_ne {k : FaultKind} (h : k ≠ .linkSilent) (e : Entry) (s : State) :
    (s.reportSilent e).faults.get k = s.faults.get k := by
  unfold State.reportSilent
  split
  · exact State.report_get_of_ne h _ s
  · rfl

theorem State.reportSilent_of_active (h : e.phase.active = true) (s : State) :
    s.reportSilent e = s.report .linkSilent (some (.identity e.identity)) := if_pos h

theorem State.reportSilent_of_inactive (h : e.phase.active = false) (s : State) : s.reportSilent e = s :=
  if_neg (by simp [h])

/-- The state that a removal hands to the evaluation. -/
def State.withoutEntry (e : Entry) (s : State) : State :=
  (s.setEntries (s.table.entries.filter fun x => x.identity ≠ e.identity)).reportSilent e

theorem State.removeEntry_eq (e : Entry) (s : State) : s.removeEntry e = (s.withoutEntry e).evaluate := rfl

/-- A removal touches table and fault record alone before its evaluation. -/
theorem State.withoutEntry_eq (e : Entry) (s : State) :
    s.withoutEntry e = { s with
      table := { s.table with entries := s.table.entries.filter fun x => x.identity ≠ e.identity }
      faults := (s.reportSilent e).faults } := by
  unfold State.withoutEntry State.reportSilent
  split <;> rfl

theorem State.removeEntry_table (e : Entry) (s : State) :
    (s.removeEntry e).table
      = { s.table with entries := s.table.entries.filter fun x => x.identity ≠ e.identity } := by
  rw [State.removeEntry_eq, State.withoutEntry_eq]
  simp

theorem State.removeEntry_faults (e : Entry) (s : State) : (s.removeEntry e).faults = (s.reportSilent e).faults := by
  rw [State.removeEntry_eq, State.withoutEntry_eq]
  simp

/-- ENTRY_STALE of a FRESH entry whose age lies from A_stale up. -/
theorem State.markStale_result (i : Identity) (s : State) :
    (s.markStale i).table = { s.table with entries := s.table.entries.map fun x =>
        if x.identity = i then { x with fresh := false } else x }
      ∧ (s.working = true → (s.markStale i).seq.kept.standoff = (s.markStale i).standoffCauses.any)
      ∧ FieldAndSupplyKept s (s.markStale i)
      ∧ PhaseFrame { s with table := (s.markStale i).table } (s.markStale i) := by
  have htable : (s.markStale i).table = { s.table with entries := s.table.entries.map fun x =>
      if x.identity = i then { x with fresh := false } else x } := (State.setEntries_evaluate _ s).1
  refine ⟨htable, ?_⟩
  rw [htable]
  exact State.evaluate_afterRow id rfl

/-- ENTRY_REMOVED of an entry aged 3 × A_stale or more. -/
theorem State.removeEntry_result (e : Entry) (s : State) :
    (e.phase.active = true → s.faults.linkSilent.masked = false →
        (s.removeEntry e).faults.linkSilent.count = satSucc 255 s.faults.linkSilent.count
          ∧ (s.removeEntry e).faults.linkSilent.detail = some (.identity e.identity))
      ∧ (e.phase.active = false → (s.removeEntry e).faults = s.faults)
      ∧ (∀ k, k ≠ .linkSilent → (s.removeEntry e).faults.get k = s.faults.get k)
      ∧ (s.working = true → (s.removeEntry e).seq.kept.standoff = (s.removeEntry e).standoffCauses.any)
      ∧ FieldAndSupplyKept s (s.removeEntry e)
      ∧ PhaseFrame { s with table := (s.removeEntry e).table, faults := (s.removeEntry e).faults }
          (s.removeEntry e) := by
  rw [s.removeEntry_faults e, s.removeEntry_table e]
  refine ⟨fun hactive hmasked => ?_, fun hinactive => by rw [State.reportSilent_of_inactive hinactive],
    fun k hk => State.reportSilent_get_of_ne hk e s, ?_⟩
  · rw [State.reportSilent_of_active hactive]
    obtain ⟨hcount, hdetail, -⟩ := FaultEntry.report_unmasked hmasked s.time.clock (some (.identity e.identity))
    exact ⟨hcount, hdetail⟩
  · rw [State.removeEntry_eq, State.withoutEntry_eq]
    exact State.evaluate_afterRow id rfl

/-- DUPLICATE_CLEAR while the flag is set and over. -/
theorem State.clearDuplicate_result (s : State) :
    s.clearDuplicate.table = { s.table with duplicate := false }
      ∧ s.clearDuplicate.faults = { s.faults with duplicateId := { s.faults.duplicateId with present := false } }
      ∧ (s.working = true → s.clearDuplicate.seq.kept.standoff = s.clearDuplicate.standoffCauses.any)
      ∧ FieldAndSupplyKept s s.clearDuplicate
      ∧ PhaseFrame { s with table := s.clearDuplicate.table, faults := s.clearDuplicate.faults } s.clearDuplicate := by
  have htable : s.clearDuplicate.table = { s.table with duplicate := false } := by simp [State.clearDuplicate]
  have hfaults : s.clearDuplicate.faults
      = { s.faults with duplicateId := { s.faults.duplicateId with present := false } } := by
    simp only [State.clearDuplicate, State.evaluate_frame]
    rfl
  refine ⟨htable, hfaults, ?_⟩
  rw [htable, hfaults]
  exact State.evaluate_afterRow id rfl

/-- LISTEN_END of a station in LISTEN. -/
theorem State.endListen_result (h : s.conf.station = .listen) :
    s.endListen.conf = { s.conf with station := .running }
      ∧ s.endListen.seq.kept.standoff = s.endListen.standoffCauses.any
      ∧ FieldAndSupplyKept s s.endListen ∧ PhaseFrame { s with conf := s.endListen.conf } s.endListen := by
  have hconf : s.endListen.conf = { s.conf with station := .running } := by simp [State.endListen]
  obtain ⟨hstandoff, hkept, hframe⟩ := State.evaluate_afterRow (s := s)
    (v := { s with conf := { s.conf with station := .running } }) (fun _ => rfl) rfl
  refine ⟨hconf, hstandoff (State.working_of_listen h), hkept, ?_⟩
  rw [hconf]
  exact hframe

end

end Sys2Proof.Machine
end

section
/-! SUPPORT. A second boundary part by part, in every order: what each part leaves of the Neighbour Table, the settings
and the report, and one rule for the work that only one part does (R3, R137, R143, R154, R155, R158; log entry 3). -/

namespace Sys2Proof.Machine

/-! ## One part in its place -/

/-- The state that a part of a second boundary finds: that after the work which the order puts before it. -/
def State.foundAtBoundary (task : BoundaryTask) (ord : BoundaryOrder) (s : State) : State :=
  ((boundarySchedule ord.tasks).takeWhile (· ≠ task)).foldl (fun u other => u.boundaryTask ord.lastSilent other) s

/-- What the parts before it keep holds where the part comes, and what the parts after it keep holds from then on. -/
theorem State.boundaryWork_around {P Q : State → Prop} (task : BoundaryTask) (ord : BoundaryOrder) {s : State}
    (hstart : P s)
    (hbefore : ∀ other u, other ≠ task → P u → P (u.boundaryTask ord.lastSilent other))
    (hpart : P (s.foundAtBoundary task ord) → Q ((s.foundAtBoundary task ord).boundaryTask ord.lastSilent task))
    (hafter : ∀ other u, other ≠ task → Q u → Q (u.boundaryTask ord.lastSilent other)) : Q (s.boundaryWork ord) := by
  obtain ⟨post, heq, hpost⟩ :=
    eq_takeWhile_append_cons (mem_boundarySchedule task ord.tasks) (nodup_boundarySchedule ord.tasks)
  have hfound : P (s.foundAtBoundary task ord) :=
    List.foldlRecOn (motive := P) _ _ hstart fun u hu other hmem => hbefore other u (ne_of_mem_takeWhile hmem) hu
  unfold State.boundaryWork
  rw [heq, List.foldl_append, List.foldl_cons]
  refine List.foldlRecOn (motive := Q) post _ (hpart hfound) fun u hu other hmem => hafter other u ?_ hu
  rintro rfl
  exact hpost hmem

/-- What every part keeps holds to the end. -/
theorem State.boundaryWork_keeps_of_parts {P : State → Prop} (ord : BoundaryOrder) {s : State} (hstart : P s)
    (hpart : ∀ other u, P u → P (u.boundaryTask ord.lastSilent other)) : P (s.boundaryWork ord) :=
  List.foldlRecOn (motive := P) _ _ hstart fun u hu other _ => hpart other u hu

/-! ## The report of a connection across a change of phase -/

/-- From `s` to `t` no report starts, and one that stays active keeps its list. -/
def ReportStands (s t : State) : Prop :=
  t.coord.report = true → s.coord.report = true ∧ t.coord.suspects = s.coord.suspects

section
variable {s t u : State}

theorem ReportStands.of_coord (h : t.coord = s.coord) : ReportStands s t := by
  intro hreport
  rw [h] at hreport ⊢
  exact ⟨hreport, rfl⟩

theorem ReportStands.refl (s : State) : ReportStands s s := .of_coord rfl

theorem ReportStands.trans (h : ReportStands s t) (k : ReportStands t u) : ReportStands s u := by
  intro hreport
  obtain ⟨htreport, hlist⟩ := k hreport
  obtain ⟨hsreport, hlist'⟩ := h htreport
  exact ⟨hsreport, hlist.trans hlist'⟩

theorem ReportStands.ite {c : Prop} [Decidable c] (h : ReportStands s t) (k : ReportStands s u) :
    ReportStands s (if c then t else u) := by
  split
  · exact h
  · exact k

/-- R158: a report goes on into PACKED and WAITING and ends with its list in every other phase. -/
theorem ReportStands.handed {new : Phase} {hole : Nat} (h : t.coord = s.coord.handed new hole) : ReportStands s t := by
  intro hreport
  rw [h] at hreport ⊢
  cases new with
  | packed | waiting => exact ⟨hreport, rfl⟩
  | vacant | testing | injecting | holding | closed => exact absurd hreport Bool.false_ne_true

theorem State.enterPhase_reportStands (new : Phase) (s : State) : ReportStands s (s.enterPhase new) :=
  .handed (s.enterPhase_coord new)

theorem State.enterInjectingFirst_reportStands (s : State) : ReportStands s s.enterInjectingFirst :=
  .handed s.enterInjectingFirst_coord

theorem State.enterWaiting_reportStands (brought : Restraints) (s : State) :
    ReportStands s (s.enterWaiting brought) := by
  have hset : ReportStands s ((s.enterPhase .waiting).setRestraints (brought.union s.seq.kept.toRestraints)) :=
    (s.enterPhase_reportStands .waiting).trans (.of_coord (by simp))
  exact .ite (hset.trans (State.enterInjectingFirst_reportStands _)) hset

theorem State.enterHolding_reportStands (brought : Restraints) (s : State) : ReportStands s (s.enterHolding brought) :=
  (s.enterPhase_reportStands .holding).trans (.of_coord (by simp [State.enterHolding]))

theorem State.changeSet_reportStands (r : Restraints) (s : State) : ReportStands s (s.changeSet r) := by
  have hset : ReportStands s (s.setRestraints r) := .of_coord (by simp)
  have hmark : ReportStands s (s.setRestraints r).urgent := .of_coord (by simp)
  exact .ite (.refl s) (.ite (.ite (hset.trans (State.enterInjectingFirst_reportStands _))
    (hset.trans (State.enterPhase_reportStands _ _))) hmark)

theorem State.present_reportStands (kept : Conditions) (r : Restraints) (s : State) :
    ReportStands s (s.present kept r) := by
  have hkeep : ReportStands s (s.keep kept) := .refl s
  cases hp : s.phase with
  | vacant | packed | closed =>
    rw [State.present_of_still (by rw [hp]; rfl) (by rw [hp]; rfl)]
    exact hkeep
  | waiting | holding =>
    rw [State.present_restrained (by rw [hp]; rfl)]
    exact hkeep.trans (State.changeSet_reportStands _ _)
  | testing =>
    cases hr : r.isEmpty with
    | true =>
      rw [State.present_of_none (by rw [hp]; rfl) hr]
      exact hkeep
    | false =>
      rw [State.present_testing hp hr]
      exact hkeep.trans (ReportStands.trans (.of_coord (by simp)) (State.enterWaiting_reportStands _ _))
  | injecting =>
    cases hr : r.isEmpty with
    | true =>
      rw [State.present_of_none (by rw [hp]; rfl) hr]
      exact hkeep
    | false =>
      rw [State.present_injecting hp hr]
      exact hkeep.trans (State.enterHolding_reportStands _ _)

theorem State.evaluateOnce_reportStands (s : State) : ReportStands s s.evaluateOnce := by
  cases hw : s.working with
  | false =>
    rw [State.evaluateOnce_of_idle hw]
    exact .refl s
  | true =>
    rw [State.evaluateOnce_eq hw]
    obtain ⟨-, hcoord⟩ := s.formLimits_handed
    have hformed : ReportStands s s.formDemand.formLimits := by
      rw [ReportStands, hcoord]
      exact fun hreport => ⟨hreport, rfl⟩
    exact hformed.trans (State.present_reportStands _ _ _)

theorem State.evaluate_reportStands (s : State) : ReportStands s s.evaluate :=
  .ite s.evaluateOnce_reportStands (s.evaluateOnce_reportStands.trans (State.evaluateOnce_reportStands _))

theorem ReportStands.settled {f : State → State} (h : ReportStands s (f s)) : ReportStands s (s.settled f) :=
  h.trans (.ite (.refl _) (State.evaluate_reportStands _))

/-- R28: at a boundary found in HOLDING the hold timer goes on, and may close the stage. -/
theorem State.boundaryHold_cases (s : State) :
    s.boundaryHold = s.heldLonger
      ∨ s.boundaryHold = s.heldLonger.closeStage .interrupted .none s.heldLonger.env.record := by
  unfold State.boundaryHold
  simp only
  split
  · split
    · exact .inr rfl
    · exact .inl rfl
  · exact .inl rfl

theorem State.boundaryHold_reportStands (s : State) : ReportStands s s.boundaryHold := by
  have hcounted : ReportStands s s.heldLonger := .of_coord rfl
  rcases s.boundaryHold_cases with h | h <;> rw [h]
  · exact hcounted
  · exact hcounted.trans (ReportStands.trans (.of_coord (by simp)) (State.enterPhase_reportStands _ _))

theorem State.boundarySequencer_reportStands (s : State) : ReportStands s s.boundarySequencer := by
  unfold State.boundarySequencer
  split
  · exact s.boundaryHold_reportStands
  · exact .of_coord (by simp)
  · exact .refl s

end

/-! ## What each part leaves -/

section
variable {s t u : State} {task : BoundaryTask}

/-- R181: a load that times out touches station, load result and fault record. -/
theorem State.boundaryTag_leaves (s : State) :
    s.boundaryTag.table = s.table ∧ s.boundaryTag.coord = s.coord ∧ s.boundaryTag.link = s.link
      ∧ s.boundaryTag.conf.tag = s.conf.tag := by
  unfold State.boundaryTag
  split <;> simp [State.loadCompleted, State.unconfigure_conf]

/-- A load times out on a station that does not work. -/
theorem State.boundaryTag_of_working (h : s.working = true) : s.boundaryTag = s := by
  refine if_neg fun hover => ?_
  simp [State.working, State.loadTimedOut_loading hover] at h

/-- R137: the flag stands until it is over. -/
theorem State.boundaryDuplicate_table (s : State) :
    s.boundaryDuplicate.table = { s.table with duplicate := s.table.duplicate && !s.duplicateOver } := by
  unfold State.boundaryDuplicate
  cases hover : s.duplicateOver with
  | true => simp [State.clearDuplicate]
  | false => simp

/-- R143: only the aging touches the entries. -/
theorem State.boundaryTask_entries (h : task ≠ .aging) (n : Nat) (s : State) :
    (s.boundaryTask n task).table.entries = s.table.entries := by
  cases task with
  | aging => exact absurd rfl h
  | tagTimeout => exact congrArg NeighbourTable.entries s.boundaryTag_leaves.1
  | duplicate => rw [State.boundaryTask, State.boundaryDuplicate_table]
  | sequencer | counters | coordination | faults => simp [State.boundaryTask, State.settled]

/-- R137: only its own part touches the duplicate flag. -/
theorem State.boundaryTask_duplicate (h : task ≠ .duplicate) (n : Nat) (s : State) :
    (s.boundaryTask n task).table.duplicate = s.table.duplicate := by
  cases task with
  | duplicate => exact absurd rfl h
  | tagTimeout => exact congrArg NeighbourTable.duplicate s.boundaryTag_leaves.1
  | aging => rw [State.boundaryTask, State.ageEntries_table]
  | sequencer | counters | coordination | faults => simp [State.boundaryTask, State.settled]

/-- R154: only the Coordination Unit's part touches the settings of a station that works. -/
theorem State.boundaryTask_conf (h : task ≠ .coordination) (hw : s.working = true) (n : Nat) :
    (s.boundaryTask n task).conf = s.conf := by
  cases task with
  | coordination => exact absurd rfl h
  | tagTimeout => exact congrArg State.conf (State.boundaryTag_of_working hw)
  | sequencer | counters | duplicate | aging | faults => simp [State.boundaryTask, State.settled]

/-! ## The Coordination Unit's part -/

/-- R154: the state in which the Coordination Unit forms the list again. -/
def State.listened (s : State) : State := if s.listenOver then s.endListen else s

theorem State.boundaryCoordination_of_working (h : s.working = true) :
    s.boundaryCoordination = s.listened.refreshSuspects.evaluate := if_pos h

theorem State.boundaryCoordination_of_idle (h : s.working = false) : s.boundaryCoordination = s :=
  if_neg (by simp [h])

theorem State.listened_conf (s : State) :
    s.listened.conf = if s.listenOver then { s.conf with station := .running } else s.conf := by
  unfold State.listened
  split
  · simp [State.endListen]
  · rfl

theorem State.listened_table (s : State) : s.listened.table = s.table := by
  unfold State.listened
  split <;> simp

theorem State.listened_working (h : s.working = true) : s.listened.working = true := by
  unfold State.listened
  split
  · simp [State.working, State.endListen]
  · exact h

theorem State.listened_reportStands (s : State) : ReportStands s s.listened :=
  .ite (ReportStands.trans (.of_coord rfl) (State.evaluate_reportStands _)) (.refl s)

theorem State.boundaryCoordination_working (h : s.working = true) : s.boundaryCoordination.working = true := by
  rw [State.boundaryCoordination_of_working h, State.evaluate_working]
  exact (State.working_congr (by simp)).trans (State.listened_working h)

/-- R154: LISTEN ends in this part, or the settings stand. -/
theorem State.boundaryCoordination_conf (h : s.working = true) :
    s.boundaryCoordination.conf = if s.listenOver then { s.conf with station := .running } else s.conf := by
  rw [State.boundaryCoordination_of_working h, ← State.listened_conf]
  simp

theorem State.suspectedNow_congr (hentries : t.table.entries = s.table.entries) (htag : t.conf.tag = s.conf.tag) :
    t.suspectedNow = s.suspectedNow := by
  unfold State.suspectedNow
  rw [hentries, htag]

/-- R158: the list of a report that stays active is formed again, and a change of it is an urgent request. -/
theorem State.refreshSuspects_report (hw : s.working = true) (hreport : s.refreshSuspects.coord.report = true) :
    s.coord.report = true ∧ s.refreshSuspects.coord.suspects = s.suspectedNow
      ∧ (s.suspectedNow ≠ s.coord.suspects → s.refreshSuspects.link.urgent = true) := by
  unfold State.refreshSuspects at hreport ⊢
  cases hr : s.coord.report with
  | false => simp [hr] at hreport
  | true =>
    by_cases hsame : s.suspectedNow = s.coord.suspects
    · simp [hsame]
    · rw [if_pos rfl, if_neg hsame]
      exact ⟨rfl, by simp, fun _ => State.urgent_sets_mark hw⟩

theorem State.boundaryCoordination_report (hw : s.working = true)
    (hreport : s.boundaryCoordination.coord.report = true) :
    s.coord.report = true ∧ s.boundaryCoordination.coord.suspects = s.suspectedNow
      ∧ (s.suspectedNow ≠ s.coord.suspects → s.boundaryCoordination.link.urgent = true) := by
  have hnow : s.listened.suspectedNow = s.suspectedNow := by
    refine State.suspectedNow_congr (congrArg NeighbourTable.entries s.listened_table) ?_
    rw [State.listened_conf]
    split <;> rfl
  rw [State.boundaryCoordination_of_working hw] at hreport ⊢
  obtain ⟨hrefreshed, hlist⟩ := State.evaluate_reportStands _ hreport
  obtain ⟨hlistened, hformed, hmark⟩ := State.refreshSuspects_report (State.listened_working hw) hrefreshed
  obtain ⟨hstart, hbefore⟩ := s.listened_reportStands hlistened
  rw [hnow] at hformed hmark
  rw [hbefore] at hmark
  exact ⟨hstart, hlist.trans hformed, fun hchanged => State.evaluate_mark (hmark hchanged)⟩

/-! ## Reports and marks across the other parts -/

theorem State.ageEntries_reportStands (n : Nat) (s : State) : ReportStands s (s.ageEntries n) :=
  .ite (.refl s) (ReportStands.trans (.of_coord (by simp)) (State.evaluate_reportStands _))

theorem State.boundaryDuplicate_reportStands (s : State) : ReportStands s s.boundaryDuplicate :=
  .ite (ReportStands.trans (.of_coord (by simp)) (State.evaluate_reportStands _)) (.refl s)

/-- Every part but the Coordination Unit's leaves the list of a report that stays active. -/
theorem State.boundaryTask_reportStands (h : task ≠ .coordination) (n : Nat) (s : State) :
    ReportStands s (s.boundaryTask n task) := by
  cases task with
  | coordination => exact absurd rfl h
  | tagTimeout =>
    obtain ⟨-, hcoord, -⟩ := s.boundaryTag_leaves
    exact .of_coord hcoord
  | sequencer => exact .settled s.boundarySequencer_reportStands
  | counters => exact .of_coord (by simp [State.boundaryTask])
  | duplicate => exact s.boundaryDuplicate_reportStands
  | aging => exact s.ageEntries_reportStands n
  | faults => exact .of_coord (by simp [State.boundaryTask])

/-- R158: no part of a boundary starts a report. -/
theorem State.boundaryTask_reportStays (n : Nat) (h : s.coord.report = false) :
    (s.boundaryTask n task).coord.report = false := by
  refine Bool.eq_false_iff.mpr fun hreport => Bool.eq_false_iff.mp h ?_
  by_cases htask : task = .coordination
  · subst htask
    cases hw : s.working with
    | true => exact (State.boundaryCoordination_report hw hreport).1
    | false => rwa [State.boundaryTask, State.boundaryCoordination_of_idle hw] at hreport
  · exact (State.boundaryTask_reportStands htask n s hreport).1

theorem State.makeCurrent_mark (h : s.link.urgent = true) (m : Nat) : (s.makeCurrent m).link.urgent = true := by
  unfold State.makeCurrent
  simp only
  split
  · exact State.urgent_mark h
  · exact h

theorem State.boundarySequencer_mark (h : s.link.urgent = true) : s.boundarySequencer.link.urgent = true := by
  unfold State.boundarySequencer
  split
  · rcases s.boundaryHold_cases with hhold | hhold <;> rw [hhold]
    · exact h
    · exact State.closeStage_mark (s := s.heldLonger) h _ _ _
  · unfold State.boundaryMix
    split
    · split
      · exact State.makeCurrent_mark (s := State.modStage _ (s.report _ _)) h _
      · exact h
    · exact h
  · exact h

theorem State.boundaryCoordination_mark (h : s.link.urgent = true) : s.boundaryCoordination.link.urgent = true := by
  have hlistened : s.listened.link.urgent = true := by
    unfold State.listened
    split
    · exact State.evaluate_mark h
    · exact h
  have hrefreshed : s.listened.refreshSuspects.link.urgent = true := by
    unfold State.refreshSuspects
    (repeat' split)
    · exact hlistened
    · exact State.urgent_mark hlistened
    · exact hlistened
  cases hw : s.working with
  | false => rwa [State.boundaryCoordination_of_idle hw]
  | true =>
    rw [State.boundaryCoordination_of_working hw]
    exact State.evaluate_mark hrefreshed

/-- R118: no part of a boundary clears the urgent mark. -/
theorem State.boundaryTask_mark (n : Nat) (h : s.link.urgent = true) :
    (s.boundaryTask n task).link.urgent = true := by
  cases task with
  | tagTimeout =>
    obtain ⟨-, -, hlink, -⟩ := s.boundaryTag_leaves
    rwa [State.boundaryTask, hlink]
  | sequencer => exact State.settle_mark (State.boundarySequencer_mark h)
  | duplicate =>
    simp only [State.boundaryTask, State.boundaryDuplicate]
    split
    · exact State.evaluate_mark h
    · exact h
  | aging =>
    simp only [State.boundaryTask, State.ageEntries]
    split
    · exact h
    · exact State.evaluate_mark (by simpa using h)
  | coordination => exact State.boundaryCoordination_mark h
  | counters | faults => simpa [State.boundaryTask] using h

/-! ## What no part touches -/

/-- From `s` to `t` stands what the ages of a boundary are read from: its time, the settings of the tag, when the own
identity was heard and when LISTEN began. -/
def AgesAlike (s t : State) : Prop :=
  t.time = s.time ∧ t.conf.tag = s.conf.tag ∧ t.table.ownHeard = s.table.ownHeard
    ∧ t.coord.listenStart = s.coord.listenStart

theorem AgesAlike.refl (s : State) : AgesAlike s s := ⟨rfl, rfl, rfl, rfl⟩

theorem AgesAlike.trans (h : AgesAlike s t) (k : AgesAlike t u) : AgesAlike s u := by
  obtain ⟨htime, htag, hheard, hstart⟩ := h
  obtain ⟨htime', htag', hheard', hstart'⟩ := k
  exact ⟨htime'.trans htime, htag'.trans htag, hheard'.trans hheard, hstart'.trans hstart⟩

theorem PhaseFrame.agesAlike (h : PhaseFrame s t) : AgesAlike s t := by
  obtain ⟨htime, -, -, -, htable, -, hconf, -⟩ := h.blocks
  obtain ⟨-, -, -, -, -, -, -, -, -, -, -, -, -, -, hstart⟩ := h
  exact ⟨htime, by rw [hconf], by rw [htable], hstart⟩

theorem AgesAlike.evaluate (h : AgesAlike s t) : AgesAlike s t.evaluate := h.trans t.evaluate_phaseFrame.agesAlike

theorem State.boundaryCoordination_agesAlike (s : State) : AgesAlike s s.boundaryCoordination := by
  have hlistened : AgesAlike s s.listened := by
    unfold State.listened
    split
    · exact AgesAlike.evaluate ⟨rfl, rfl, rfl, rfl⟩
    · exact .refl s
  have hrefreshed (u : State) : AgesAlike u u.refreshSuspects := by
    refine ⟨by simp, by simp, by simp, ?_⟩
    unfold State.refreshSuspects
    (repeat' split) <;> simp
  cases hw : s.working with
  | false =>
    rw [State.boundaryCoordination_of_idle hw]
    exact .refl s
  | true =>
    rw [State.boundaryCoordination_of_working hw]
    exact (hlistened.trans (hrefreshed _)).evaluate

theorem State.boundarySequencer_agesAlike (s : State) : AgesAlike s s.boundarySequencer := by
  unfold State.boundarySequencer
  split
  · exact s.boundaryHold_phaseFrame.agesAlike
  · simp [AgesAlike]
  · exact .refl s

theorem State.boundaryTask_agesAlike (n : Nat) (task : BoundaryTask) (s : State) :
    AgesAlike s (s.boundaryTask n task) := by
  cases task with
  | tagTimeout =>
    obtain ⟨htable, hcoord, -, htag⟩ := s.boundaryTag_leaves
    exact ⟨by simp, htag, congrArg NeighbourTable.ownHeard htable, congrArg Coordination.listenStart hcoord⟩
  | sequencer => exact s.boundarySequencer_agesAlike.trans (State.settle_phaseFrame _ _).agesAlike
  | duplicate =>
    simp only [State.boundaryTask, State.boundaryDuplicate]
    split
    · exact AgesAlike.evaluate (by simp [AgesAlike])
    · exact .refl s
  | aging =>
    simp only [State.boundaryTask, State.ageEntries]
    split
    · exact .refl s
    · exact AgesAlike.evaluate (by simp [AgesAlike, State.setEntries])
  | coordination => exact s.boundaryCoordination_agesAlike
  | counters | faults => simp [AgesAlike, State.boundaryTask]

theorem AgesAlike.boundaryTask (h : AgesAlike s t) (n : Nat) (task : BoundaryTask) :
    AgesAlike s (t.boundaryTask n task) := h.trans (t.boundaryTask_agesAlike n task)

section
variable (h : AgesAlike s t)
include h

theorem AgesAlike.aStale : t.conf.tag.aStale = s.conf.tag.aStale := by
  obtain ⟨-, htag, -⟩ := h
  rw [htag]

theorem AgesAlike.ageOf (e : Entry) : t.ageOf e = s.ageOf e := by
  obtain ⟨htime, -⟩ := h
  rw [State.ageOf, htime, State.ageOf]

theorem AgesAlike.goneNow : t.goneNow = s.goneNow := by
  funext e
  rw [Bool.eq_iff_iff, State.goneNow_iff, State.goneNow_iff, h.ageOf, h.aStale]

theorem AgesAlike.staleNow : t.staleNow = s.staleNow := by
  funext e
  rw [Bool.eq_iff_iff, State.staleNow_iff, State.staleNow_iff, h.ageOf, h.aStale]

theorem AgesAlike.agedEntries (hentries : t.table.entries = s.table.entries) : t.agedEntries = s.agedEntries := by
  rw [State.agedEntries, h.goneNow, h.staleNow, hentries, State.agedEntries]

theorem AgesAlike.duplicateOver (hflag : t.table.duplicate = s.table.duplicate) :
    t.duplicateOver = s.duplicateOver := by
  obtain ⟨htime, htag, hheard, -⟩ := h
  rw [Bool.eq_iff_iff, State.duplicateOver_iff, State.duplicateOver_iff, htime, htag, hheard, hflag]

theorem AgesAlike.listenOver (hstation : t.conf.station = s.conf.station) : t.listenOver = s.listenOver := by
  obtain ⟨htime, htag, -, hstart⟩ := h
  have htenths (p : Nat × Nat) : t.listenTenths p = s.listenTenths p := by
    rw [State.listenTenths, htime, State.listenTenths]
  rw [Bool.eq_iff_iff, State.listenOver_iff, State.listenOver_iff, hstation, hstart, htag]
  simp only [htenths]

end

end

end Sys2Proof.Machine
end

section
/-! SUPPORT. A whole second boundary in every order: the entries, the duplicate flag and the station it leaves (R137,
R143, R154), and the list of suspects that the Coordination Unit forms again in its place (R155, R158). -/

namespace Sys2Proof.Machine

/-! ## The list of suspects -/

section
variable {α : Type} {earlier : α → α → Bool}

/-- `sortBy` is an insertion sort: an element goes before the first one that does not come earlier. -/
theorem sortBy_eq_insertionSort (l : List α) : sortBy earlier l = l.insertionSort fun a b => earlier b a = false := by
  have hinsert (x : α) (m : List α) : insertBy earlier x m = m.orderedInsert (fun a b => earlier b a = false) x := by
    induction m with
    | nil => rfl
    | cons y rest ih =>
      cases h : earlier y x with
      | true => simp [insertBy, List.orderedInsert, h, ih]
      | false => simp [insertBy, List.orderedInsert, h]
  induction l with
  | nil => rfl
  | cons x rest ih => rw [sortBy, ih, hinsert, List.insertionSort_cons]

theorem sortBy_perm (l : List α) : (sortBy earlier l).Perm l := by
  rw [sortBy_eq_insertionSort]
  exact List.perm_insertionSort _ l

theorem sortBy_pairwise (htotal : ∀ a b, earlier b a = false ∨ earlier a b = false)
    (htrans : ∀ a b c, earlier b a = false → earlier c b = false → earlier c a = false) (l : List α) :
    (sortBy earlier l).Pairwise fun a b => earlier b a = false := by
  rw [sortBy_eq_insertionSort]
  have : Std.Total fun a b => earlier b a = false := ⟨htotal⟩
  have : IsTrans α fun a b => earlier b a = false := ⟨htrans⟩
  exact List.pairwise_insertionSort _ l

end

theorem nearer_eq_false_iff (a b : Entry) : nearer b a = false ↔ NoLater a b := by
  cases h : identityLt b.identity a.identity with
  | true =>
    simp only [nearer, NoLater, h]
    simp
    omega
  | false =>
    simp only [nearer, NoLater, h]
    simp
    omega

theorem NoLater.total (a b : Entry) : NoLater a b ∨ NoLater b a := by
  simp only [NoLater, identityLt_eq_false_iff]
  omega

theorem NoLater.trans {a b c : Entry} (h : NoLater a b) (k : NoLater b c) : NoLater a c := by
  simp only [NoLater, identityLt_eq_false_iff] at h k ⊢
  omega

/-- R158: the model's list is the list of suspects that the table gives. -/
theorem State.suspectsAre_suspectedNow (s : State) : s.SuspectsAre s.suspectedNow := by
  let near := s.table.entries.filter fun e => decide (e.phase = .injecting) && decide (e.distance ≤ s.conf.tag.dCn)
  have hsorted : (sortBy nearer near).Pairwise NoLater := by
    refine (sortBy_pairwise (fun a b => ?_) (fun a b c => ?_) near).imp fun {a b} => (nearer_eq_false_iff a b).mp
    · rw [nearer_eq_false_iff, nearer_eq_false_iff]
      exact NoLater.total a b
    · rw [nearer_eq_false_iff, nearer_eq_false_iff, nearer_eq_false_iff]
      exact NoLater.trans
  have hcut := hsorted
  rw [← List.take_append_drop 4 (sortBy nearer near), List.pairwise_append] at hcut
  obtain ⟨htaken, -, hacross⟩ := hcut
  refine ⟨(sortBy nearer near).take 4, (sortBy nearer near).drop 4, ?_, rfl, List.length_take_le _ _, fun hshort => ?_,
    htaken, hacross⟩
  · rw [List.take_append_drop]
    exact sortBy_perm near
  · rw [List.length_take] at hshort
    exact List.drop_eq_nil_of_le (by omega)

theorem State.SuspectsAre.congr {s t : State} {ids : List Identity} (h : s.SuspectsAre ids)
    (hentries : t.table.entries = s.table.entries) (htag : t.conf.tag = s.conf.tag) : t.SuspectsAre ids := by
  rw [State.SuspectsAre, hentries, htag]
  exact h

/-! ## The entries -/

section
variable {s : State}

/-- R143: after parts that come once each the entries are aged exactly where the aging was among the parts. -/
theorem State.boundaryTasks_entries (n : Nat) {l : List BoundaryTask} (hl : l.Nodup) (s : State) :
    (l.foldl (fun u task => u.boundaryTask n task) s).table.entries
      = if .aging ∈ l then s.agedEntries else s.table.entries := by
  induction l generalizing s with
  | nil => rfl
  | cons task rest ih =>
    obtain ⟨hnot, hrest⟩ := List.nodup_cons.mp hl
    rw [List.foldl_cons, ih hrest]
    by_cases htask : task = .aging
    · subst htask
      simp [hnot, State.boundaryTask, State.ageEntries_table]
    · have hentries := State.boundaryTask_entries htask n s
      have haged := (s.boundaryTask_agesAlike n task).agedEntries hentries
      simp [haged, hentries, Ne.symm htask]

theorem State.boundaryWork_entries (ord : BoundaryOrder) (s : State) :
    (s.boundaryWork ord).table.entries = s.agedEntries := by
  rw [State.boundaryWork, State.boundaryTasks_entries _ (nodup_boundarySchedule _),
    if_pos (mem_boundarySchedule .aging _)]

/-- The entries that a part finds: those of the boundary before the aging, or the aged ones after it. -/
theorem State.foundAtBoundary_entries (task : BoundaryTask) (ord : BoundaryOrder) (s : State) :
    (s.foundAtBoundary task ord).table.entries
      = if .aging ∈ (boundarySchedule ord.tasks).takeWhile (· ≠ task) then s.agedEntries else s.table.entries :=
  State.boundaryTasks_entries _ ((nodup_boundarySchedule _).sublist (List.takeWhile_sublist _)) s

/-- The entries below 3 × A_stale, STALE from A_stale on. -/
theorem State.agedEntries_eq (s : State) :
    s.agedEntries = ((s.table.entries.filter fun e => decide (s.ageOf e < 3 * s.conf.tag.aStale)).map fun e =>
      if s.conf.tag.aStale ≤ s.ageOf e then { e with fresh := false } else e) := by
  have hkept : (fun e => !s.goneNow e) = fun e => decide (s.ageOf e < 3 * s.conf.tag.aStale) := by
    funext e
    rw [State.goneNow, ← decide_not, decide_eq_decide, Nat.not_le]
  unfold State.agedEntries
  rw [hkept]
  refine List.map_congr_left fun e he => ?_
  have hyoung : s.ageOf e < 3 * s.conf.tag.aStale := of_decide_eq_true (List.mem_filter.mp he).2
  by_cases hold : s.conf.tag.aStale ≤ s.ageOf e
  · rw [if_pos hold]
    cases hfresh : e.fresh with
    | true => rw [if_pos (s.staleNow_iff e |>.mpr ⟨hfresh, hold, hyoung⟩)]
    | false => rw [if_neg (by simp [State.staleNow, hfresh]), ← hfresh]
  · rw [if_neg hold, if_neg fun hstale => hold (s.staleNow_iff e |>.mp hstale).2.1]

/-! ## The duplicate flag and LISTEN -/

theorem State.boundaryWork_agesAlike (ord : BoundaryOrder) (s : State) : AgesAlike s (s.boundaryWork ord) :=
  State.boundaryWork_keeps_of_parts ord (.refl s) fun _ _ hu => hu.boundaryTask _ _

theorem State.foundAtBoundary_agesAlike (task : BoundaryTask) (ord : BoundaryOrder) (s : State) :
    AgesAlike s (s.foundAtBoundary task ord) :=
  List.foldlRecOn (motive := AgesAlike s) _ _ (.refl s) fun _ hu _ _ => hu.boundaryTask _ _

/-- R137: the flag stays set exactly where it was set and is not over at this second. -/
theorem State.boundaryWork_duplicate (ord : BoundaryOrder) (s : State) :
    (s.boundaryWork ord).table.duplicate = (s.table.duplicate && !s.duplicateOver) := by
  refine State.boundaryWork_around (P := fun u => AgesAlike s u ∧ u.table.duplicate = s.table.duplicate)
    (Q := fun u => u.table.duplicate = (s.table.duplicate && !s.duplicateOver)) .duplicate ord
    ⟨.refl s, rfl⟩ (fun other u hother hu => ?_) (fun hfound => ?_) (fun other u hother hu => ?_)
  · obtain ⟨hages, hflag⟩ := hu
    exact ⟨hages.boundaryTask _ _, (State.boundaryTask_duplicate hother _ u).trans hflag⟩
  · obtain ⟨hages, hflag⟩ := hfound
    rw [State.boundaryTask, State.boundaryDuplicate_table, hflag, hages.duplicateOver hflag]
  · exact (State.boundaryTask_duplicate hother _ u).trans hu

theorem State.boundaryWork_duplicate_iff (ord : BoundaryOrder) (s : State) :
    (s.boundaryWork ord).table.duplicate = true ↔ s.table.duplicate = true ∧ ∀ h, s.table.ownHeard = some h →
      (s.time.clock + 4294967296 - h) % 4294967296 < 3 * s.conf.tag.aStale := by
  rw [State.boundaryWork_duplicate, Bool.and_eq_true, Bool.not_eq_true', ← Bool.not_eq_true, State.duplicateOver_iff]
  refine and_congr_right fun hset => ⟨fun hnot h hheard => ?_, fun hall hover => ?_⟩
  · exact Nat.lt_of_not_le fun hold => hnot ⟨hset, h, hheard, hold⟩
  · obtain ⟨-, h, hheard, hold⟩ := hover
    exact absurd (hall h hheard) (Nat.not_lt_of_le hold)

/-- R154: a boundary of a station in LISTEN makes it RUNNING where LISTEN is over. -/
theorem State.boundaryWork_listen (ord : BoundaryOrder) (hlisten : s.conf.station = .listen) :
    (s.boundaryWork ord).conf.station = if s.listenOver then .running else .listen := by
  have hw := State.working_of_listen hlisten
  refine (State.boundaryWork_around (P := fun u => AgesAlike s u ∧ u.conf = s.conf)
    (Q := fun u => u.working = true ∧ u.conf.station = if s.listenOver then .running else .listen) .coordination ord
    ⟨.refl s, rfl⟩ (fun other u hother hu => ?_) (fun hfound => ?_) (fun other u hother hu => ?_)).2
  · obtain ⟨hages, hconf⟩ := hu
    have huw : u.working = true := (State.working_congr hconf).trans hw
    exact ⟨hages.boundaryTask _ _, (State.boundaryTask_conf hother huw _).trans hconf⟩
  · obtain ⟨hages, hconf⟩ := hfound
    have hfoundw : (s.foundAtBoundary .coordination ord).working = true := (State.working_congr hconf).trans hw
    have hafter := State.boundaryCoordination_conf hfoundw
    rw [hages.listenOver (congrArg Configuration.station hconf), hconf] at hafter
    refine ⟨State.boundaryCoordination_working hfoundw, ?_⟩
    rw [State.boundaryTask, hafter]
    split
    · rfl
    · exact hlisten
  · obtain ⟨huw, hstation⟩ := hu
    have hconf := State.boundaryTask_conf hother huw ord.lastSilent
    exact ⟨(State.working_congr hconf).trans huw, (congrArg Configuration.station hconf).trans hstation⟩

theorem State.boundaryWork_listen_since {p : Nat × Nat} (ord : BoundaryOrder) (hlisten : s.conf.station = .listen)
    (hstart : s.coord.listenStart = some p) :
    (s.boundaryWork ord).conf.station
      = if 3 * s.conf.tag.pB ≤ 100 * s.listenTenths p then .running else .listen := by
  have hover : s.listenOver = true ↔ 3 * s.conf.tag.pB ≤ 100 * s.listenTenths p := by
    simp [State.listenOver_iff, hlisten, hstart]
  rw [State.boundaryWork_listen ord hlisten]
  simp only [hover]

/-! ## The report -/

theorem State.boundaryWork_reportStays (ord : BoundaryOrder) (h : s.coord.report = false) :
    (s.boundaryWork ord).coord.report = false :=
  State.boundaryWork_keeps_of_parts (P := fun u => u.coord.report = false) ord h fun _ _ hu =>
    State.boundaryTask_reportStays _ hu

/-- R158: a report that stays active has the list of the table as the Coordination Unit finds it, and a change of the
list is an urgent request. -/
theorem State.boundaryWork_report (ord : BoundaryOrder) (hw : s.working = true)
    (hreport : (s.boundaryWork ord).coord.report = true) :
    (s.boundaryWork ord).coord.suspects = (s.foundAtBoundary .coordination ord).suspectedNow
      ∧ ((s.boundaryWork ord).coord.suspects ≠ s.coord.suspects → (s.boundaryWork ord).link.urgent = true) := by
  let formed := (s.foundAtBoundary .coordination ord).suspectedNow
  have hformed : (s.boundaryWork ord).coord.report = true → (s.boundaryWork ord).coord.suspects = formed
      ∧ (formed ≠ s.coord.suspects → (s.boundaryWork ord).link.urgent = true) := by
    refine State.boundaryWork_around (P := fun u => u.working = true ∧ ReportStands s u)
      (Q := fun u => u.coord.report = true →
        u.coord.suspects = formed ∧ (formed ≠ s.coord.suspects → u.link.urgent = true)) .coordination ord
      ⟨hw, .refl s⟩ (fun other u hother hu => ?_) (fun hfound hr => ?_) (fun other u hother hu hr => ?_)
    · obtain ⟨huw, hstands⟩ := hu
      exact ⟨(State.working_congr (State.boundaryTask_conf hother huw _)).trans huw,
        hstands.trans (State.boundaryTask_reportStands hother _ u)⟩
    · obtain ⟨hfoundw, hstands⟩ := hfound
      obtain ⟨hactive, hlist, hmark⟩ := State.boundaryCoordination_report hfoundw hr
      obtain ⟨-, hbefore⟩ := hstands hactive
      exact ⟨hlist, hbefore ▸ hmark⟩
    · obtain ⟨hactive, hlist⟩ := State.boundaryTask_reportStands hother _ u hr
      obtain ⟨hsuspects, hmark⟩ := hu hactive
      exact ⟨hlist.trans hsuspects, fun hchanged => State.boundaryTask_mark _ (hmark hchanged)⟩
  obtain ⟨hlist, hmark⟩ := hformed hreport
  exact ⟨hlist, hlist ▸ hmark⟩

/-- R155, R158: that list is the one of the table as the aging leaves it or as the boundary finds it, by the order. -/
theorem State.boundaryWork_suspects (ord : BoundaryOrder) (hw : s.working = true)
    (hreport : (s.boundaryWork ord).coord.report = true) :
    (s.SuspectsAre (s.boundaryWork ord).coord.suspects
        ∨ (s.boundaryWork ord).SuspectsAre (s.boundaryWork ord).coord.suspects)
      ∧ (ord.tasks.head? = some .aging → (s.boundaryWork ord).SuspectsAre (s.boundaryWork ord).coord.suspects)
      ∧ (ord.tasks.head? = some .coordination → s.SuspectsAre (s.boundaryWork ord).coord.suspects) := by
  let found := s.foundAtBoundary .coordination ord
  obtain ⟨hlist, -⟩ := State.boundaryWork_report ord hw hreport
  have hformed : found.SuspectsAre (s.boundaryWork ord).coord.suspects := hlist ▸ found.suspectsAre_suspectedNow
  have hentries := s.foundAtBoundary_entries .coordination ord
  obtain ⟨-, hfoundTag, -⟩ := s.foundAtBoundary_agesAlike .coordination ord
  obtain ⟨-, htag, -⟩ := s.boundaryWork_agesAlike ord
  have hafter (h : .aging ∈ (boundarySchedule ord.tasks).takeWhile (· ≠ .coordination)) :
      (s.boundaryWork ord).SuspectsAre (s.boundaryWork ord).coord.suspects := by
    rw [if_pos h] at hentries
    exact hformed.congr ((s.boundaryWork_entries ord).trans hentries.symm) (htag.trans hfoundTag.symm)
  have hbefore (h : .aging ∉ (boundarySchedule ord.tasks).takeWhile (· ≠ .coordination)) :
      s.SuspectsAre (s.boundaryWork ord).coord.suspects := by
    rw [if_neg h] at hentries
    exact hformed.congr hentries.symm hfoundTag.symm
  refine ⟨?_, fun hfirst => hafter ?_, fun hfirst => hbefore ?_⟩
  · by_cases h : .aging ∈ (boundarySchedule ord.tasks).takeWhile (· ≠ .coordination)
    · exact .inr (hafter h)
    · exact .inl (hbefore h)
  · obtain ⟨rest, hrest⟩ := List.head?_eq_some_iff.mp hfirst
    simp [boundarySchedule, firstOnly, hrest]
  · rw [before_first_boundaryTask hfirst]
    exact List.not_mem_nil

end

end Sys2Proof.Machine
end

section
/-! SUPPORT. The condition kinds of the fault record across a second boundary (R137, R181, R185, R186; log entry 27), and
the whole obligation (O35). -/

namespace Sys2Proof.Machine

/-! ## One entry of the fault record across one part -/

/-- What one part of a second boundary may make of the entry `e` of a condition kind: nothing, DUPLICATE_ID cleared,
CONFIG_BAD presented and reported, or the last-seen time refreshed. -/
inductive ConditionMove (clock : Nat) (k : FaultKind) (e : FaultEntry) : FaultEntry → Prop
  | stands : ConditionMove clock k e e
  | clears : k = .duplicateId → ConditionMove clock k e { e with present := false }
  | reports : k = .configBad → ConditionMove clock k e (({ e with present := true } : FaultEntry).report clock none)
  | refreshes : ConditionMove clock k e (e.refresh clock k)

/-- What any number of such moves leaves of an entry. -/
structure ConditionCarried (k : FaultKind) (e f : FaultEntry) : Prop where
  masked : f.masked = e.masked
  last : e.masked = true → f.last = e.last
  count : e.count ≤ f.count
  onlyClears : k = .duplicateId → f.present = true → e.present = true
  neverClears : k ≠ .duplicateId → e.present = true → f.present = true
  absent : e.present = false → f.present = false → f = e

/-- R185: an unmasked kind present before and after, with a count above 0 before, was last seen at the clock. -/
def SeenAt (clock : Nat) (e f : FaultEntry) : Prop :=
  f.masked = false → e.present = true → f.present = true → 0 < e.count → f.last = some clock

section
variable {clock : Nat} {k : FaultKind} {e f g : FaultEntry}

theorem ConditionCarried.refl (k : FaultKind) (e : FaultEntry) : ConditionCarried k e e :=
  ⟨rfl, fun _ => rfl, le_rfl, fun _ => id, fun _ => id, fun _ _ => rfl⟩

theorem ConditionCarried.trans (h : ConditionCarried k e f) (m : ConditionCarried k f g) : ConditionCarried k e g where
  masked := m.masked.trans h.masked
  last hmasked := (m.last (h.masked.trans hmasked)).trans (h.last hmasked)
  count := h.count.trans m.count
  onlyClears hk hg := h.onlyClears hk (m.onlyClears hk hg)
  neverClears hk he := m.neverClears hk (h.neverClears hk he)
  absent he hg := by
    have hf : f.present = false := by
      by_cases hk : k = .duplicateId
      · exact Bool.eq_false_iff.mpr fun hf => Bool.eq_false_iff.mp he (h.onlyClears hk hf)
      · exact Bool.eq_false_iff.mpr fun hf => Bool.eq_false_iff.mp hg (m.neverClears hk hf)
    exact (m.absent hf hg).trans (h.absent he hf)

theorem satSucc_ge (m n : Nat) : n ≤ satSucc m n := by
  unfold satSucc
  split <;> omega

theorem FaultEntry.report_count_ge (e : FaultEntry) (clock : Nat) (d : Option Detail) :
    e.count ≤ (e.report clock d).count := by
  cases hmasked : e.masked with
  | true => rw [FaultEntry.report_masked hmasked]
  | false =>
    obtain ⟨hcount, -⟩ := FaultEntry.report_unmasked hmasked clock d
    exact hcount ▸ satSucc_ge _ _

theorem FaultEntry.report_masked_eq (e : FaultEntry) (clock : Nat) (d : Option Detail) :
    (e.report clock d).masked = e.masked := by
  unfold FaultEntry.report
  split <;> rfl

/-- R185, R186: a refresh moves the last-seen time of a present, unmasked entry alone. -/
theorem FaultEntry.refresh_cases (clock : Nat) (k : FaultKind) (e : FaultEntry) :
    e.refresh clock k = e
      ∨ e.masked = false ∧ e.present = true ∧ e.refresh clock k = { e with last := some clock } := by
  unfold FaultEntry.refresh
  split
  · next h =>
    simp only [Bool.and_eq_true, Bool.not_eq_true'] at h
    obtain ⟨⟨⟨-, hpresent⟩, hmasked⟩, -⟩ := h
    exact .inr ⟨hmasked, hpresent, rfl⟩
  · exact .inl rfl

theorem FaultEntry.refresh_of_seen (hk : k.isCondition = true) (hpresent : e.present = true)
    (hmasked : e.masked = false) (hcount : 0 < e.count) (clock : Nat) : (e.refresh clock k).last = some clock := by
  simp [FaultEntry.refresh, hk, hpresent, hmasked, hcount]

theorem ConditionMove.carried (h : ConditionMove clock k e f) : ConditionCarried k e f := by
  cases h with
  | stands => exact .refl k e
  | clears hk =>
    exact ⟨rfl, fun _ => rfl, le_rfl, fun _ hf => absurd hf Bool.false_ne_true, fun hne => absurd hk hne,
      fun he _ => by rw [← he]⟩
  | reports hk =>
    have hpresent := FaultEntry.report_present { e with present := true } clock none
    refine ⟨FaultEntry.report_masked_eq _ _ _, fun hmasked => ?_,
      FaultEntry.report_count_ge { e with present := true } _ _, fun hdup => ?_, fun _ _ => hpresent, fun _ hf => ?_⟩
    · rw [FaultEntry.report_masked (e := { e with present := true }) hmasked]
    · simp [hk] at hdup
    · simp [hpresent] at hf
  | refreshes =>
    rcases e.refresh_cases clock k with hsame | ⟨hmasked, hpresent, hseen⟩
    · rw [hsame]
      exact .refl k e
    · rw [hseen]
      exact ⟨rfl, fun h => by simp [hmasked] at h, le_rfl, fun _ => id, fun _ => id, fun h => by simp [hpresent] at h⟩

/-- An entry seen at the clock stays so through every later move. -/
theorem SeenAt.move (h : SeenAt clock e f) (m : ConditionMove clock k f g) : SeenAt clock e g := by
  intro hmasked he hg hcount
  cases m with
  | stands => exact h hmasked he hg hcount
  | clears => exact absurd hg Bool.false_ne_true
  | reports =>
    rw [FaultEntry.report_masked_eq] at hmasked
    obtain ⟨-, -, hlast⟩ := FaultEntry.report_unmasked (e := { f with present := true }) hmasked clock none
    exact hlast
  | refreshes =>
    rcases f.refresh_cases clock k with hsame | ⟨-, -, hseen⟩
    · rw [hsame] at hmasked hg ⊢
      exact h hmasked he hg hcount
    · rw [hseen]

/-- R185: the refresh finds an entry that still carries what the boundary began with. -/
theorem ConditionCarried.seenAt_refresh (h : ConditionCarried k e f) (hk : k.isCondition = true) (clock : Nat) :
    SeenAt clock e (f.refresh clock k) := by
  intro hmasked _ hpresent hcount
  have hf : 0 < f.count := Nat.lt_of_lt_of_le hcount h.count
  rcases f.refresh_cases clock k with hsame | ⟨-, -, hseen⟩
  · rw [hsame] at hmasked hpresent
    exact FaultEntry.refresh_of_seen hk hpresent hmasked hf clock
  · rw [hseen]

end

/-! ## The fault record across one part -/

section
variable {s : State} {k : FaultKind} {task : BoundaryTask}

/-- R185: the kinds that the Sequencer, the Take Counters and the aging report at a boundary are no condition kinds. -/
theorem FaultKind.ne_of_isCondition (h : k.isCondition = true) :
    k ≠ .mixTimeout ∧ k ≠ .countSaturated ∧ k ≠ .linkSilent := by
  refine ⟨?_, ?_, ?_⟩ <;> rintro rfl <;> exact absurd h Bool.false_ne_true

theorem State.boundarySequencer_get_of_ne (h : k ≠ .mixTimeout) (s : State) :
    s.boundarySequencer.faults.get k = s.faults.get k := by
  unfold State.boundarySequencer
  split
  · simp
  · unfold State.boundaryMix
    split
    · split
      · simp only [State.timeoutMix, State.makeCurrent_frame, State.modStage_frame]
        exact State.report_get_of_ne h _ s
      · simp
    · rfl
  · rfl

theorem State.boundaryCounters_get_of_ne (h : k ≠ .countSaturated) (s : State) :
    s.boundaryCounters.faults.get k = s.faults.get k := by
  have hsecond : s.countSecond.faults.get k = s.faults.get k := by
    unfold State.countSecond
    split <;> simp [State.noteSaturation_faults_of_ne h]
  unfold State.boundaryCounters
  simp only
  split <;> simpa using hsecond

theorem State.ageEntries_get_of_ne (h : k ≠ .linkSilent) (n : Nat) (s : State) :
    (s.ageEntries n).faults.get k = s.faults.get k := by
  have hsilent (l : List Entry) (u : State) : (l.foldl State.reportSilent u).faults.get k = u.faults.get k :=
    List.foldlRecOn (motive := fun t : State => t.faults.get k = u.faults.get k) l _ rfl
      fun t ht e _ => (State.reportSilent_get_of_ne h e t).trans ht
  unfold State.ageEntries
  simp only
  split
  · rfl
  · simp [hsilent]

theorem State.boundaryTag_condition (k : FaultKind) (s : State) :
    ConditionMove s.time.clock k (s.faults.get k) (s.boundaryTag.faults.get k) := by
  unfold State.boundaryTag
  split
  · by_cases hk : k = .configBad
    · subst hk
      exact .reports rfl
    · rw [State.loadCompleted, State.unconfigure_get_of_ne hk]
      exact .stands
  · exact .stands

theorem State.boundaryDuplicate_condition (k : FaultKind) (s : State) :
    ConditionMove s.time.clock k (s.faults.get k) (s.boundaryDuplicate.faults.get k) := by
  unfold State.boundaryDuplicate
  split
  · simp only [State.clearDuplicate, State.evaluate_frame]
    by_cases hk : k = .duplicateId
    · subst hk
      exact .clears rfl
    · rw [State.setPresent_get_of_ne hk]
      exact .stands
  · exact .stands

theorem State.boundaryTask_condition (hk : k.isCondition = true) (task : BoundaryTask) (n : Nat) (s : State) :
    ConditionMove s.time.clock k (s.faults.get k) ((s.boundaryTask n task).faults.get k) := by
  obtain ⟨hmix, hsaturated, hsilent⟩ := FaultKind.ne_of_isCondition hk
  cases task with
  | tagTimeout => exact s.boundaryTag_condition k
  | duplicate => exact s.boundaryDuplicate_condition k
  | faults =>
    rw [State.boundaryTask, State.boundaryFaults, Faults.get_map]
    exact .refreshes
  | sequencer =>
    have hsame := State.boundarySequencer_get_of_ne hmix s
    simp only [State.boundaryTask, State.settled, State.settle_frame, hsame]
    exact .stands
  | counters =>
    rw [State.boundaryTask, State.boundaryCounters_get_of_ne hsaturated]
    exact .stands
  | aging =>
    rw [State.boundaryTask, State.ageEntries_get_of_ne hsilent]
    exact .stands
  | coordination =>
    simp only [State.boundaryTask, State.boundaryCoordination_frame]
    exact .stands

/-! ## The whole boundary -/

theorem State.boundaryWork_carried (hk : k.isCondition = true) (ord : BoundaryOrder) (s : State) :
    ConditionCarried k (s.faults.get k) ((s.boundaryWork ord).faults.get k) :=
  State.boundaryWork_keeps_of_parts (P := fun u => ConditionCarried k (s.faults.get k) (u.faults.get k)) ord
    (.refl k _) fun other u hu => hu.trans (State.boundaryTask_condition hk other _ u).carried

/-- R185: the refresh comes once, and no part before or after it undoes it. -/
theorem State.boundaryWork_seenAt (hk : k.isCondition = true) (ord : BoundaryOrder) (s : State) :
    SeenAt s.time.clock (s.faults.get k) ((s.boundaryWork ord).faults.get k) := by
  refine (State.boundaryWork_around
    (P := fun u => u.time = s.time ∧ ConditionCarried k (s.faults.get k) (u.faults.get k))
    (Q := fun u => u.time = s.time ∧ SeenAt s.time.clock (s.faults.get k) (u.faults.get k)) .faults ord
    ⟨rfl, .refl k _⟩ (fun other u _ hu => ?_) (fun hfound => ?_) (fun other u _ hu => ?_)).2
  · obtain ⟨htime, hcarried⟩ := hu
    exact ⟨by simpa using htime, hcarried.trans (State.boundaryTask_condition hk other _ u).carried⟩
  · obtain ⟨htime, hcarried⟩ := hfound
    refine ⟨by simpa using htime, ?_⟩
    rw [State.boundaryTask, State.boundaryFaults, Faults.get_map, htime]
    exact hcarried.seenAt_refresh hk _
  · obtain ⟨htime, hseen⟩ := hu
    exact ⟨by simpa using htime, hseen.move (htime ▸ State.boundaryTask_condition hk other _ u)⟩

end

/-- Settles O35: the four rows, and the boundary as every order of its parts leaves it. -/
theorem boundaryAgesTheTable : Obligations.BoundaryAgesTheTable := by
  refine ⟨fun s e hdue he hfresh hold hyoung => ?_, fun s e hdue he hold => ?_, fun s h hdue hset hheard hold => ?_,
    fun s p hdue hlisten hstart hold => ?_, fun ord s hopen => ?_⟩
  · exact ⟨_, exec_entryStale hdue he (s.staleNow_iff e |>.mpr ⟨hfresh, hold, hyoung⟩), s.markStale_result _⟩
  · exact ⟨_, exec_entryRemoved hdue he (s.goneNow_iff e |>.mpr hold), s.removeEntry_table e, s.removeEntry_result e⟩
  · exact ⟨_, exec_duplicateClear hdue (s.duplicateOver_iff.mpr ⟨hset, h, hheard, hold⟩), s.clearDuplicate_result⟩
  · exact ⟨_, exec_listenEnd hdue (s.listenOver_iff.mpr ⟨hlisten, p, hstart, hold⟩), State.endListen_result hlisten⟩
  · let u := s.atNewSecond
    have htime : (u.boundaryWork ord).time = u.time := u.boundaryWork_time ord
    refine ⟨u.boundaryWork ord, exec_secondBoundary_of_open hopen ord, by rw [htime], ?_,
      u.boundaryWork_duplicate_iff ord, fun p hlisten hstart => State.boundaryWork_listen_since ord hlisten hstart,
      fun hw _ hreport => ?_, State.boundaryWork_reportStays ord (s := u), fun k hk => ?_⟩
    · rw [State.boundaryWork_entries, State.agedEntries_eq]
      rfl
    · obtain ⟨heither, haging, hcoordination⟩ := State.boundaryWork_suspects ord (s := u) hw hreport
      obtain ⟨-, hmark⟩ := State.boundaryWork_report ord (s := u) hw hreport
      exact ⟨heither, haging, hcoordination, hmark⟩
    · have hcarried := State.boundaryWork_carried hk ord u
      have hseen := State.boundaryWork_seenAt hk ord u
      refine ⟨fun hmasked hpresent hstill hcount => ?_, hcarried.last, hcarried.absent⟩
      rw [htime]
      exact hseen (hcarried.masked.trans hmasked) hpresent hstill hcount

end Sys2Proof.Machine
end

section
/-! SUPPORT. Precedence between two stations (R150; O59). -/

namespace Sys2Proof.Machine

/-- R150: lower class first, then lower identity, line before chainage. -/
theorem precedes_iff (m n : Nat) (a b : Identity) :
    precedes m a n b = true
      ↔ m < n ∨ m = n ∧ (a.line < b.line ∨ a.line = b.line ∧ a.chainage < b.chainage) := by
  simp [precedes, identityLt_iff]

theorem Identity.line_ne_or_chainage_ne {a b : Identity} (h : a ≠ b) : a.line ≠ b.line ∨ a.chainage ≠ b.chainage := by
  by_contra hboth
  rw [not_or, not_not, not_not] at hboth
  obtain ⟨hline, hchainage⟩ := hboth
  exact h (by cases a; cases b; simp_all)

/-- Settles O59: the order is lexicographic in class, line and chainage, and two identities differ in one of the last
two. -/
theorem exactlyOneStationPrecedes : Obligations.ExactlyOneStationPrecedes := by
  refine fun m n a b => ⟨precedes_iff m n a b, fun hne => ?_⟩
  have hdiffer := Identity.line_ne_or_chainage_ne hne
  rw [← Bool.not_eq_true, precedes_iff, precedes_iff]
  omega

end Sys2Proof.Machine
end

section
/-! SUPPORT. What a presentation of a condition and the evaluation after it leave of a stage that is not INJECTING, and
the three events of SUPPLY (R24, R165, R167; O24). -/

namespace Sys2Proof.Machine

/-! ## A stage that a condition keeps out of INJECTING -/

section
variable {s t : State}

/-- A change of the set to one with a member leads into no other phase. -/
theorem State.changeSet_phase_of_some {r : Restraints} (h : r.isEmpty = false) (s : State) :
    (s.changeSet r).phase = s.phase := by
  obtain ⟨hseq, -⟩ := State.changeSet_of_some (s := s) h
  rw [State.phase_congr (congrArg Sequencer.stage hseq), State.setRestraints_phase]

/-- R22, R25 to R27: while a condition is kept a presentation leads into INJECTING from no phase, and leaves INJECTING
where a condition arrives. -/
theorem State.present_leaves_injecting {kept : Conditions} {r : Restraints}
    (hkept : kept.toRestraints.isEmpty = false) (harrives : s.phase = .injecting → r.isEmpty = false) :
    (s.present kept r).phase ≠ .injecting := by
  cases hp : s.phase with
  | vacant | packed | closed =>
    have hkeep : (s.keep kept).phase = s.phase := rfl
    rw [State.present_of_still (by rw [hp]; rfl) (by rw [hp]; rfl), hkeep, hp]
    simp
  | waiting | holding =>
    have hkeep : (s.keep kept).phase = s.phase := rfl
    rw [State.present_restrained (by rw [hp]; rfl),
      State.changeSet_phase_of_some (by rw [Restraints.union_isEmpty, hkept, Bool.and_false]), hkeep, hp]
    simp
  | testing =>
    have hkeep : (s.keep kept).phase = .testing := hp
    cases hr : r.isEmpty with
    | true =>
      rw [State.present_of_none (by rw [hp]; rfl) hr, hkeep]
      simp
    | false =>
      rw [State.present_testing hp hr, State.enterWaiting_phase (by simp [State.abandonTest_phase, hkeep]),
        Restraints.union_isEmpty, hr]
      simp
  | injecting =>
    have hkeep : (s.keep kept).phase = .injecting := hp
    rw [State.present_injecting hp (harrives hp), State.enterHolding_phase (by simp [hkeep])]
    simp

theorem Conditions.toRestraints_of_supply {c : Conditions} (h : c.supply = true) : c.toRestraints.isEmpty = false := by
  rw [← Bool.not_eq_true, Restraints.isEmpty_iff]
  intro hnone
  simpa [Conditions.toRestraints, Restraints.none, h] using congrArg Restraints.supply hnone

/-- R149: no evaluation takes a stage into INJECTING while SUPPLY is kept as present. -/
theorem State.evaluateOnce_leaves_injecting (hsupply : s.seq.kept.supply = true) (hp : s.phase ≠ .injecting) :
    s.evaluateOnce.phase ≠ .injecting := by
  cases hw : s.working with
  | false => rwa [State.evaluateOnce_of_idle hw]
  | true =>
    obtain ⟨hphase, -⟩ := s.formLimits_handed.1.standing
    rw [State.evaluateOnce_eq hw]
    exact State.present_leaves_injecting (Conditions.toRestraints_of_supply hsupply) fun h => absurd (hphase ▸ h) hp

theorem State.evaluate_leaves_injecting (hsupply : s.seq.kept.supply = true) (hp : s.phase ≠ .injecting) :
    s.evaluate.phase ≠ .injecting := by
  have honce := State.evaluateOnce_leaves_injecting hsupply hp
  obtain ⟨-, -, hkept⟩ := s.evaluateOnce_fieldAndSupplyKept
  unfold State.evaluate
  simp only
  split
  · exact honce
  · exact State.evaluateOnce_leaves_injecting (hkept.trans hsupply) honce

/-! ## A change of SUPPLY (R167) -/

theorem State.presentSupply_of_change {p : Bool} (h : s.seq.kept.supply = !p) :
    s.presentSupply p = s.present { s.seq.kept with supply := p } { Restraints.none with supply := p } := by
  unfold State.presentSupply
  rw [h]
  exact if_neg (by simp)

/-- R167: a change of SUPPLY is kept with the other field conditions as they were, through the evaluation it raises. -/
theorem State.settled_presentSupply_kept {p : Bool} (h : s.seq.kept.supply = !p) :
    (s.settled (State.presentSupply p)).seq.kept.supply = p
      ∧ (s.settled (State.presentSupply p)).seq.kept.sensor = s.seq.kept.sensor
      ∧ (s.settled (State.presentSupply p)).seq.kept.packer = s.seq.kept.packer := by
  obtain ⟨hsensor, hpacker, hsupply⟩ := (s.presentSupply p).settle_fieldAndSupplyKept s.phase
  rw [State.presentSupply_of_change h, State.present_kept] at hsensor hpacker hsupply
  rw [← State.presentSupply_of_change h] at hsensor hpacker hsupply
  exact ⟨hsupply, hsensor, hpacker⟩

theorem State.settled_presentSupply_leaves_injecting (h : s.seq.kept.supply = false) :
    (s.settled (State.presentSupply true)).phase ≠ .injecting := by
  have hpart : (s.presentSupply true).phase ≠ .injecting := by
    rw [State.presentSupply_of_change h]
    exact State.present_leaves_injecting (Conditions.toRestraints_of_supply rfl) fun _ => rfl
  have hsupply : (s.presentSupply true).seq.kept.supply = true := by
    rw [State.presentSupply_of_change h, State.present_kept]
  unfold State.settled State.settle
  split
  · exact hpart
  · exact State.evaluate_leaves_injecting hsupply hpart

/-! ## The supply evaluation (R165, R167) -/

/-- R167: the two runs that a supply evaluation leaves, on the allowance that it forms. -/
theorem State.formSupply_runs (s : State) :
    s.formSupply.coord.lowRun
        = (if s.formDemand.allowanceNow < s.conf.tag.qMin then min 10 (s.coord.lowRun + 1) else 0)
      ∧ s.formSupply.coord.highRun
        = (if s.conf.tag.qMin + s.conf.tag.qHys ≤ s.formDemand.allowanceNow then min 10 (s.coord.highRun + 1)
          else 0) := by
  rw [← s.formSupply_allowance]
  unfold State.formSupply State.setAllowance State.supplyRuns
  simp only
  split <;> exact ⟨rfl, rfl⟩

theorem State.formSupply_commanded (s : State) : s.formSupply.reg.commanded = s.reg.commanded := by
  unfold State.formSupply State.setAllowance State.supplyRuns
  simp only
  split <;> rfl

/-- The frame of what follows a supply evaluation, seen from the state that it finds with the Coordination Unit as it
ends. -/
theorem State.formSupply_phaseFrame (h : PhaseFrame s.formSupply t) : PhaseFrame { s with coord := t.coord } t := by
  obtain ⟨ftime, fmeas, fseq, fenv, ftake, flink, ftable, fpanel, fconf, ffaults, fpending, ffree⟩ := s.formSupply_frame
  obtain ⟨htime, hmeas, henv, htake, htable, hpanel, hconf, hfaults, hpending, hfree⟩ := h.blocks
  obtain ⟨freached, -⟩ := s.formSupply_reg
  obtain ⟨-, hcommanded, hreached, hcounter, hintensity, hopened, hlink, -⟩ := h
  rw [fseq] at hcounter hintensity hopened
  rw [flink] at hlink
  exact ⟨onlyPhaseBlocks (htime.trans ftime) (hmeas.trans fmeas) (henv.trans fenv) (htake.trans ftake)
      (htable.trans ftable) (hpanel.trans fpanel) (hconf.trans fconf) (hfaults.trans ffaults)
      (hpending.trans fpending) (hfree.trans ffree),
    hcommanded.trans s.formSupply_commanded, hreached.trans freached, hcounter, hintensity, hopened, hlink,
    rfl, rfl, rfl, rfl, rfl, rfl, rfl, rfl⟩

theorem State.isOpen_iff (s : State) : s.isOpen = true ↔ s.phase ≠ .vacant := by
  simp [State.isOpen]

/-- R167: the tenth low allowance in a row. -/
theorem State.supplyEvaluation_of_short (hw : s.working = true) (hopen : s.phase ≠ .vacant) (hrun : s.coord.lowRun = 9)
    (hlow : s.formDemand.allowanceNow < s.conf.tag.qMin) :
    s.supplyEvaluation = s.formSupply.settled (State.presentSupply true) ∧ s.formSupply.coord.lowRun = 10
      ∧ s.allowanceShort = true := by
  obtain ⟨hlowRun, -⟩ := s.formSupply_runs
  rw [if_pos hlow, hrun] at hlowRun
  have hopen' := s.isOpen_iff.mpr hopen
  refine ⟨?_, hlowRun, by simp [State.allowanceShort, hw, hopen', hrun, hlowRun]⟩
  simp [State.supplyEvaluation, State.judgeSupply, hw, hopen', hrun, hlowRun]

/-- R167: the tenth high allowance in a row, or a later one, with the header up. -/
theorem State.supplyEvaluation_of_back (hw : s.working = true) (hopen : s.phase ≠ .vacant) (hrun : 9 ≤ s.coord.highRun)
    (hhigh : s.conf.tag.qMin + s.conf.tag.qHys ≤ s.formDemand.allowanceNow)
    (hheader : s.conf.tag.hMin ≤ s.deliveredNat .header) :
    s.supplyEvaluation = s.formSupply.settled (State.presentSupply false) ∧ s.formSupply.coord.highRun = 10
      ∧ s.formSupply.coord.lowRun = 0 ∧ s.allowanceBack = true := by
  obtain ⟨hlowRun, hhighRun⟩ := s.formSupply_runs
  rw [if_neg (by omega)] at hlowRun
  rw [if_pos hhigh, Nat.min_eq_left (by omega)] at hhighRun
  have hopen' := s.isOpen_iff.mpr hopen
  have hup : s.conf.tag.hMin ≤ s.formSupply.deliveredNat .header := by
    simpa [State.deliveredNat] using hheader
  refine ⟨?_, hhighRun, hlowRun, by simp [State.allowanceBack, hw, hopen', hhighRun, hlowRun, hheader]⟩
  simp [State.supplyEvaluation, State.judgeSupply, hw, hopen', hhighRun, hlowRun, hup]

/-- R167: the twentieth low header in a row. -/
theorem State.sampleHeader_of_low (hw : s.working = true) (hrun : s.coord.headerRun = 19)
    (hlow : s.deliveredNat .header < s.conf.tag.hMin) :
    s.sampleHeader
      = ({ s with coord := { s.coord with headerRun := 20 } } : State).settled (State.presentSupply true) := by
  simp [State.sampleHeader, hw, hrun, hlow]

theorem State.formSupply_kept (s : State) : s.formSupply.seq.kept = s.seq.kept := by simp

end

/-- Settles O24: each row is its part of the supply evaluation or of the sample set, with SUPPLY presented. -/
theorem supplyFollowsItsRuns : Obligations.SupplyFollowsItsRuns := by
  refine ⟨fun s p hcompleting hw hopen habsent hrun hlow => ?_, fun s hw habsent hrun hlow => ?_,
    fun s p hcompleting hw hopen hpresent hrun _ hhigh hheader => ?_⟩
  · obtain ⟨hpart, hten, hshort⟩ := State.supplyEvaluation_of_short hw hopen hrun hlow
    have hkept : s.formSupply.seq.kept.supply = !true := s.formSupply_kept ▸ habsent
    have hframe : PhaseFrame s.formSupply s.supplyEvaluation := by
      rw [hpart]
      exact .settled (s.formSupply.presentSupply_phaseFrame true)
    have hrow : exec (.supplyPresent .allowance) s = .next s.supplyEvaluation := by
      simp [exec, execSupplyPresent, hcompleting, habsent, hshort]
    obtain ⟨hsupply, hsensor, hpacker⟩ := State.settled_presentSupply_kept hkept
    rw [s.formSupply_kept, ← hpart] at hsensor hpacker
    obtain ⟨-, -, -, -, -, -, -, hallowance, -, -, hlowRun, -⟩ := id hframe
    exact ⟨_, hrow, hpart ▸ hsupply, hlowRun.trans hten, hallowance.trans s.formSupply_allowance,
      hpart ▸ State.settled_presentSupply_leaves_injecting hkept, hsensor, hpacker, State.formSupply_phaseFrame hframe⟩
  · have hshort : s.headerShort = true := by simp [State.headerShort, hw, hrun, hlow]
    have hrow : exec (.supplyPresent .header) s = .next s.sampleHeader := by
      simp [exec, execSupplyPresent, habsent, hshort]
    refine ⟨_, hrow, ?_⟩
    rw [State.sampleHeader_of_low hw hrun hlow]
    have hkept : ({ s with coord := { s.coord with headerRun := 20 } } : State).seq.kept.supply = !true := habsent
    obtain ⟨hsupply, hsensor, hpacker⟩ := State.settled_presentSupply_kept hkept
    exact ⟨hsupply, State.settled_presentSupply_leaves_injecting hkept, hsensor, hpacker,
      .settled (State.presentSupply_phaseFrame true _)⟩
  · obtain ⟨hpart, hten, hzero, hback⟩ := State.supplyEvaluation_of_back hw hopen hrun hhigh hheader
    have hkept : s.formSupply.seq.kept.supply = !false := s.formSupply_kept ▸ hpresent
    have hframe : PhaseFrame s.formSupply s.supplyEvaluation := by
      rw [hpart]
      exact .settled (s.formSupply.presentSupply_phaseFrame false)
    have hrow : exec .supplyAbsent s = .next s.supplyEvaluation := by
      simp [exec, execSupplyAbsent, hcompleting, hpresent, hback]
    obtain ⟨hsupply, hsensor, hpacker⟩ := State.settled_presentSupply_kept hkept
    rw [s.formSupply_kept, ← hpart] at hsensor hpacker
    obtain ⟨-, -, -, -, -, -, -, -, -, -, hlowRun, hhighRun, -⟩ := id hframe
    exact ⟨_, hrow, hpart ▸ hsupply, hhighRun.trans hten, hlowRun.trans hzero, hsensor, hpacker,
      State.formSupply_phaseFrame hframe⟩

end Sys2Proof.Machine
end

section
/-! SUPPORT. The evaluation that follows a change of the own connection report in PACKED or WAITING, and the start and
the end of that report (R22, R25, R148, R157 to R159; O36). -/

namespace Sys2Proof.Machine

section
variable {s t : State} {f : StageRecord → StageRecord} {c : Coordination}

/-! ## An evaluation in PACKED or WAITING -/

/-- R25: the state in which the first evaluation leaves a WAITING stage whose set it empties. -/
def State.releasedInto (s : State) : State :=
  ((s.formDemand.formLimits.keep s.keptAnew).setRestraints s.setAnew).enterInjectingFirst

theorem State.releasedInto_phase (hp : s.phase = .waiting) : s.releasedInto.phase = .injecting := by
  obtain ⟨hphase, -⟩ := s.formLimits_handed.1.standing
  have hkept : (s.formDemand.formLimits.keep s.keptAnew).phase = .waiting := hphase.trans hp
  exact State.enterInjectingFirst_phase (by rw [State.setRestraints_phase, hkept]; simp)

/-- R22, R25, R148: an evaluation leaves a PACKED stage, or a WAITING one with a member in its set, in its phase, and
takes a WAITING stage whose set it empties on into INJECTING, where a second evaluation finds nothing. -/
theorem State.evaluate_early (hw : s.working = true) (hp : s.phase = .packed ∨ s.phase = .waiting) :
    (∃ f, (∀ st : StageRecord, (f st).phase = st.phase) ∧ EvaluatedTo f s s.evaluate)
      ∨ (s.setAnew.isEmpty = true ∧ s.phase = .waiting ∧ s.evaluateOnce = s.releasedInto
          ∧ EvaluatedTo id s.releasedInto s.evaluate) := by
  have hlimits := s.formLimits_handed
  obtain ⟨hphase, hrestraints, -⟩ := hlimits.1.standing
  rcases hp with hp | hp
  · have hquiet : s.Quiet := .of_idle (by rw [hp]; rfl) (by rw [hp]; rfl)
    exact .inl ⟨id, fun _ => rfl, hquiet.evaluatedTo hw⟩
  have hr : s.phase.restrained = true := by rw [hp]; rfl
  cases hset : s.setAnew.isEmpty with
  | false =>
    exact .inl ⟨fun st => { st with restraints := s.setAnew }, fun _ => rfl, State.evaluate_restrained hw hr hset⟩
  | true =>
    let kept := s.formDemand.formLimits.keep s.keptAnew
    have hkept : kept.phase = .waiting := hphase.trans hp
    have honce : s.evaluateOnce = kept.changeSet s.setAnew := by
      rw [State.evaluateOnce_eq hw, State.present_restrained (by rw [hphase, hr]), hrestraints]
      rfl
    by_cases hsame : s.setAnew = kept.restraints
    · rw [State.changeSet_same hsame] at honce
      have hstill : s.evaluateOnce.phase = s.phase := by rw [honce, hkept, hp]
      refine .inl ⟨id, fun _ => rfl, ?_⟩
      rw [State.evaluate_of_still hstill, honce]
      exact State.keep_evaluatedTo hlimits
    · rw [State.changeSet_of_none hset hsame, if_pos hkept] at honce
      have hmoved : s.evaluateOnce.phase = .injecting := by
        rw [honce]
        exact State.releasedInto_phase hp
      have hfree : s.arrivingAnew.isEmpty = true := by
        rw [State.setAnew, Restraints.union_isEmpty, Bool.and_eq_true] at hset
        exact State.arrivingAnew_isEmpty_of_kept hset.2
      have hquiet : s.evaluateOnce.Quiet := by
        refine .of_pumping (by rw [hmoved]; rfl) ?_
        exact (ConditionsAlike.of_phaseFrame s.evaluateOnce_phaseFrame).symm.arrivals_carry
          (by rw [hmoved]; rfl) (.inl hp) hfree
      refine .inr ⟨rfl, hp, honce, ?_⟩
      rw [State.evaluate_of_moved (by rw [hmoved, hp]; simp), hquiet.evaluateOnce (s.evaluateOnce_working.trans hw),
        ← (show s.evaluateOnce = s.releasedInto from honce)]
      exact State.keep_evaluatedTo s.evaluateOnce.formLimits_handed

theorem EvaluatedTo.phase (h : EvaluatedTo f s t) (hf : ∀ st, (f st).phase = st.phase) (hopen : s.phase ≠ .vacant) :
    t.phase = s.phase := by
  obtain ⟨st, hst, hphase⟩ := State.exists_stage_of_phase hopen
  rcases h.stage hst with ht | ht <;> simp [State.phase_of_stage ht, hf, hphase]

theorem State.releasedInto_coord (s : State) :
    s.releasedInto.coord = s.formDemand.formLimits.coord.handed .injecting (s.deliveredNat .hole) := by
  unfold State.releasedInto
  rw [State.enterInjectingFirst_coord]
  simp [State.keep, State.deliveredNat]

/-! ## The own report (R157, R158) -/

/-- R158: no own report is active: its list is empty and both runs are at 0; the HOLE baseline stands. -/
def ReportOver (b : Option Nat) (s : State) : Prop :=
  s.coord.report = false ∧ s.coord.suspects = [] ∧ s.coord.riseRun = 0 ∧ s.coord.quietRun = 0 ∧ s.coord.baseline = b

theorem EvaluatedTo.reportOver {b : Option Nat} (h : EvaluatedTo f s t) (hover : ReportOver b s) : ReportOver b t := by
  obtain ⟨hbaseline, hreport, hlist, hrise, hquiet, -⟩ := h.coord
  obtain ⟨kreport, klist, krise, kquiet, kbaseline⟩ := hover
  exact ⟨hreport.trans kreport, hlist.trans klist, hrise.trans krise, hquiet.trans kquiet, hbaseline.trans kbaseline⟩

theorem State.releasedInto_reportOver (s : State) : ReportOver s.coord.baseline s.releasedInto := by
  obtain ⟨-, hcoord⟩ := s.formLimits_handed
  have hbaseline : s.formDemand.formLimits.coord.baseline = s.coord.baseline := by rw [hcoord]
  rw [ReportOver, s.releasedInto_coord]
  exact ⟨rfl, rfl, rfl, rfl, hbaseline⟩

/-- R159, R160: while no own report is active, CONNECTION of an open stage is the named side alone. -/
theorem State.connectionCondition_of_unreported (hopen : s.phase ≠ .vacant) (h : s.coord.report = false) :
    s.connectionCondition = (s.named && s.profile.action == .hold) := by
  simp [State.connectionCondition, s.isOpen_iff.mpr hopen, h]

/-- R158, R160: the evaluation of a PACKED or WAITING stage whose report is over leaves it over, and CONNECTION as the
named side makes it. -/
theorem State.evaluate_reportOver {b : Option Nat} (hw : s.working = true) (hp : s.phase = .packed ∨ s.phase = .waiting)
    (hover : ReportOver b s) :
    ReportOver b s.evaluate ∧ s.evaluate.seq.kept.connection = (s.named && s.profile.action == .hold) := by
  obtain ⟨f, -, hev⟩ | ⟨-, hwaiting, honce, hev⟩ := State.evaluate_early hw hp
  · obtain ⟨-, -, -, -, -, hkept⟩ := hev.registers
    refine ⟨hev.reportOver hover, ?_⟩
    rw [hkept]
    exact State.connectionCondition_of_unreported (by rcases hp with hp | hp <;> simp [hp]) hover.1
  · obtain ⟨hconf, htable, -, hopened⟩ := ConditionsAlike.of_phaseFrame s.evaluateOnce_phaseFrame
    rw [honce] at hconf htable hopened
    obtain ⟨-, -, -, -, -, hkept⟩ := hev.registers
    have hreleased := s.releasedInto_reportOver
    obtain ⟨-, -, -, -, hbaseline⟩ := hover
    refine ⟨hbaseline ▸ hev.reportOver hreleased, ?_⟩
    have hcondition := State.connectionCondition_of_unreported (s := s.releasedInto)
      (by simp [State.releasedInto_phase hwaiting]) hreleased.1
    rw [hkept, ← State.named_congr (congrArg NeighbourTable.entries htable), ← State.profile_congr hconf hopened]
    exact hcondition

/-- R159: the evaluation of a PACKED or WAITING stage whose report is active presents CONNECTION, which keeps the stage
in its phase and the report as it is. -/
theorem State.evaluate_reporting (hw : s.working = true) (hp : s.phase = .packed ∨ s.phase = .waiting)
    (hreport : s.coord.report = true) :
    s.evaluate.phase = s.phase ∧ s.evaluate.seq.kept.connection = true ∧ ∃ f, EvaluatedTo f s s.evaluate := by
  have hcondition : s.connectionCondition = true := s.connectionCondition_iff.mpr (.inl ⟨hp, hreport⟩)
  have hset : s.setAnew.isEmpty = false := by
    rw [State.setAnew, Restraints.union_isEmpty, Bool.and_eq_false_iff]
    refine .inr (Bool.eq_false_iff.mpr fun hnone => ?_)
    obtain ⟨-, hno, -⟩ := s.arrivingAnew_isEmpty_iff.mp (State.arrivingAnew_isEmpty_of_kept hnone)
    simp [hcondition] at hno
  obtain ⟨f, hf, hev⟩ | ⟨hempty, -⟩ := State.evaluate_early hw hp
  · obtain ⟨-, -, -, -, -, hkept⟩ := hev.registers
    refine ⟨hev.phase hf (by rcases hp with hp | hp <;> simp [hp]), ?_, f, hev⟩
    rw [hkept]
    exact hcondition
  · simp [hset] at hempty

/-- A change of the Coordination Unit, told to the link. -/
def State.told (c : Coordination) (s : State) : State := State.urgent { s with coord := c }

@[simp] theorem State.told_coord (c : Coordination) (s : State) : (s.told c).coord = c := by simp [State.told]

theorem State.told_working (c : Coordination) (s : State) : (s.told c).working = s.working :=
  State.working_congr (by simp [State.told])

theorem State.told_phase (c : Coordination) (s : State) : (s.told c).phase = s.phase :=
  State.phase_congr (by simp [State.told])

theorem State.told_named (c : Coordination) (s : State) : (s.told c).named = s.named :=
  State.named_congr (by simp [State.told])

theorem State.told_profile (c : Coordination) (s : State) : (s.told c).profile = s.profile :=
  State.profile_congr (by simp [State.told]) (by simp [State.told])

/-- R158: the own report active with a list of suspects. -/
def Coordination.reporting (ids : List Identity) (c : Coordination) : Coordination :=
  { c with report := true, riseRun := 0, quietRun := 0, suspects := ids }

/-- R158: no own report. -/
def Coordination.unreported (c : Coordination) : Coordination :=
  { c with report := false, suspects := [], riseRun := 0, quietRun := 0 }

theorem State.startReport_eq (s : State) :
    s.startReport = (s.told (s.coord.reporting s.suspectedNow)).evaluate := rfl

theorem State.clearReport_eq (s : State) : s.clearReport = (s.told s.coord.unreported).evaluate := rfl

/-- A change so told and evaluated marks an urgent request, and leaves all that a change of phase leaves. -/
theorem State.told_evaluate_frames (hw : s.working = true) (hframe : PhaseFrame s { s with coord := c }) :
    (s.told c).evaluate.link.urgent = true ∧ FieldAndSupplyKept s (s.told c).evaluate
      ∧ PhaseFrame s (s.told c).evaluate := by
  have hkept : FieldAndSupplyKept s (s.told c) := by simp [FieldAndSupplyKept, State.told]
  exact ⟨State.evaluate_mark (State.urgent_sets_mark hw), hkept.trans (State.evaluate_fieldAndSupplyKept _),
    (hframe.trans (State.urgent_phaseFrame _)).trans (State.evaluate_phaseFrame _)⟩

theorem State.suspectedNow_length (s : State) : s.suspectedNow.length ≤ 4 := by
  unfold State.suspectedNow
  rw [List.length_map]
  exact List.length_take_le _ _

/-! ## The rows -/

/-- R157: LEAK asserted, or the fiftieth high HOLE in a row. -/
theorem State.reportStarts_of (hp : s.phase = .packed ∨ s.phase = .waiting) (hvalid : s.failed .hole = false)
    (hreport : s.coord.report = false)
    (hevent : s.meas.leakIn.accepted = true
      ∨ ∃ b, s.coord.baseline = some b ∧ b + s.conf.tag.dpConn ≤ s.deliveredNat .hole ∧ s.coord.riseRun = 49) :
    s.reportStarts = true := by
  have hearly : (s.phase == .packed || s.phase == .waiting) = true := by
    rcases hp with hp | hp <;> rw [hp] <;> rfl
  rcases hevent with hleak | ⟨b, hbaseline, hhigh, hrun⟩
  · simp [State.reportStarts, hearly, hvalid, hreport, hleak]
  · simp [State.reportStarts, State.holeHigh, hearly, hvalid, hreport, hbaseline, hhigh, hrun]

/-- R157: the hundredth quiet sample set in a row. -/
theorem State.reportClears_of {b : Nat} (hp : s.phase = .packed ∨ s.phase = .waiting) (hvalid : s.failed .hole = false)
    (hreport : s.coord.report = true) (hbaseline : s.coord.baseline = some b)
    (hlow : s.deliveredNat .hole < b + s.conf.tag.dpConn / 2) (hleak : s.meas.leakIn.accepted = false)
    (hrun : s.coord.quietRun = 99) : s.reportClears = true := by
  have hearly : (s.phase == .packed || s.phase == .waiting) = true := by
    rcases hp with hp | hp <;> rw [hp] <;> rfl
  simp [State.reportClears, State.holeQuiet, hearly, hvalid, hreport, hbaseline, hlow, hleak, hrun]

end

/-- Settles O36: each row is its change of the own report, told to the link and evaluated. -/
theorem connectionReportStartsAndClears : Obligations.ConnectionReportStartsAndClears := by
  refine ⟨fun s hw hp hvalid hreport hevent => ?_, fun s b hw hp hvalid hreport hbaseline hlow hleak hrun => ?_⟩
  · have hstarts := State.reportStarts_of hp hvalid hreport hevent
    have hrow : exec .connectionReportStart s = .next s.startReport := by
      simp [exec, execConnectionReportStart, hw, hstarts]
    refine ⟨_, hrow, ?_⟩
    rw [s.startReport_eq]
    obtain ⟨hmark, hfield, hframe⟩ :=
      State.told_evaluate_frames (c := s.coord.reporting s.suspectedNow) hw (by apply PhaseFrame.ofCoord <;> rfl)
    obtain ⟨hstill, hconnection, f, hev⟩ :=
      State.evaluate_reporting (s := s.told (s.coord.reporting s.suspectedNow)) ((s.told_working _).trans hw)
        (by rwa [s.told_phase]) (by rw [s.told_coord]; rfl)
    obtain ⟨kbaseline, kreport, klist, krise, kquiet, -⟩ := hev.coord
    rw [s.told_coord] at kbaseline kreport klist krise kquiet
    exact ⟨kreport, klist ▸ s.suspectsAre_suspectedNow, klist, klist ▸ s.suspectedNow_length, krise, kquiet,
      kbaseline, hmark, hconnection, hstill.trans (s.told_phase _), hfield, hframe⟩
  · have hclears := State.reportClears_of hp hvalid hreport hbaseline hlow hleak hrun
    have hrow : exec .connectionReportClear s = .next s.clearReport := by
      simp [exec, execConnectionReportClear, hw, hclears]
    refine ⟨_, hrow, ?_⟩
    rw [s.clearReport_eq]
    obtain ⟨hmark, hfield, hframe⟩ :=
      State.told_evaluate_frames (c := s.coord.unreported) hw (by apply PhaseFrame.ofCoord <;> rfl)
    have hover : ReportOver (some b) (s.told s.coord.unreported) := by
      simp [ReportOver, Coordination.unreported, hbaseline]
    obtain ⟨⟨kreport, klist, krise, kquiet, kbaseline⟩, hconnection⟩ :=
      State.evaluate_reportOver ((s.told_working _).trans hw) (by rwa [s.told_phase]) hover
    have hopen : s.isOpen = true := s.isOpen_iff.mpr (by rcases hp with hp | hp <;> simp [hp])
    rw [s.told_named, s.told_profile] at hconnection
    exact ⟨kreport, klist, krise, kquiet, kbaseline, hmark, by rw [hopen, Bool.true_and]; exact hconnection, hfield,
      hframe⟩

end Sys2Proof.Machine
end

section
/-! SUPPORT. The supply class and demands, the limits and the step limit as one general evaluation forms them, and what
leaves them as they stand (R156, R160, R162 to R164). -/

namespace Sys2Proof.Machine

section
variable {s t u : State}

/-! ## What a change of phase leaves of the Coordination Unit -/

/-- From `s` to `t` only the reporter side of the Coordination Unit changes (R157, R158): the report, its list, its two
runs and the HOLE baseline. -/
def ReporterMoves (s t : State) : Prop :=
  t.coord = { s.coord with
    report := t.coord.report, suspects := t.coord.suspects, baseline := t.coord.baseline
    riseRun := t.coord.riseRun, quietRun := t.coord.quietRun }

theorem ReporterMoves.of_coord (h : t.coord = s.coord) : ReporterMoves s t := by rw [ReporterMoves, h]

theorem ReporterMoves.refl (s : State) : ReporterMoves s s := .of_coord rfl

theorem ReporterMoves.trans (h : ReporterMoves s t) (k : ReporterMoves t u) : ReporterMoves s u := by
  unfold ReporterMoves at h k ⊢
  rw [h] at k
  exact k

theorem ReporterMoves.ite {c : Prop} [Decidable c] (h : ReporterMoves s t) (k : ReporterMoves s u) :
    ReporterMoves s (if c then t else u) := by
  split
  · exact h
  · exact k

theorem ReporterMoves.handed {new : Phase} {hole : Nat} (h : t.coord = s.coord.handed new hole) :
    ReporterMoves s t := by
  rw [ReporterMoves, h]
  cases new <;> rfl

theorem State.enterPhase_reporterMoves (new : Phase) (s : State) : ReporterMoves s (s.enterPhase new) :=
  .handed (s.enterPhase_coord new)

theorem State.enterInjectingFirst_reporterMoves (s : State) : ReporterMoves s s.enterInjectingFirst :=
  .handed s.enterInjectingFirst_coord

theorem State.enterWaiting_reporterMoves (brought : Restraints) (s : State) :
    ReporterMoves s (s.enterWaiting brought) := by
  have hset : ReporterMoves s ((s.enterPhase .waiting).setRestraints (brought.union s.seq.kept.toRestraints)) :=
    (s.enterPhase_reporterMoves .waiting).trans (.of_coord (by simp))
  exact .ite (hset.trans (State.enterInjectingFirst_reporterMoves _)) hset

theorem State.enterHolding_reporterMoves (brought : Restraints) (s : State) :
    ReporterMoves s (s.enterHolding brought) :=
  (s.enterPhase_reporterMoves .holding).trans (.of_coord (by simp [State.enterHolding]))

theorem State.changeSet_reporterMoves (r : Restraints) (s : State) : ReporterMoves s (s.changeSet r) := by
  have hset : ReporterMoves s (s.setRestraints r) := .of_coord (by simp)
  have hmark : ReporterMoves s (s.setRestraints r).urgent := .of_coord (by simp)
  exact .ite (.refl s) (.ite (.ite (hset.trans (State.enterInjectingFirst_reporterMoves _))
    (hset.trans (State.enterPhase_reporterMoves _ _))) hmark)

theorem State.present_reporterMoves (kept : Conditions) (r : Restraints) (s : State) :
    ReporterMoves s (s.present kept r) := by
  have hkeep : ReporterMoves s (s.keep kept) := .refl s
  cases hp : s.phase with
  | vacant | packed | closed =>
    rw [State.present_of_still (by rw [hp]; rfl) (by rw [hp]; rfl)]
    exact hkeep
  | waiting | holding =>
    rw [State.present_restrained (by rw [hp]; rfl)]
    exact hkeep.trans (State.changeSet_reporterMoves _ _)
  | testing =>
    cases hr : r.isEmpty with
    | true =>
      rw [State.present_of_none (by rw [hp]; rfl) hr]
      exact hkeep
    | false =>
      rw [State.present_testing hp hr]
      exact hkeep.trans (ReporterMoves.trans (.of_coord (by simp)) (State.enterWaiting_reporterMoves _ _))
  | injecting =>
    cases hr : r.isEmpty with
    | true =>
      rw [State.present_of_none (by rw [hp]; rfl) hr]
      exact hkeep
    | false =>
      rw [State.present_injecting hp hr]
      exact hkeep.trans (State.enterHolding_reporterMoves _ _)

/-- R148, R149: what an evaluation forms it forms before it presents the conditions. -/
theorem State.evaluateOnce_reporterMoves (hw : s.working = true) :
    ReporterMoves s.formDemand.formLimits s.evaluateOnce := by
  rw [State.evaluateOnce_eq hw]
  exact State.present_reporterMoves _ _ _

/-! ## The sources of uplift (R162) -/

theorem State.upliftSources_any_iff (x : UpliftState) (s : State) :
    s.upliftSources.any (· == x) = true ↔ s.sourceReports x := by
  have hown : (match s.coord.uplift with | some u => [u.state] | none => []).any (· == x) = true
      ↔ s.coord.uplift.map (·.state) = some x := by
    cases s.coord.uplift <;> simp
  have hentries : (s.table.entries.filterMap fun e =>
        if e.distance ≤ s.conf.tag.dUp then e.uplift.map (·.state) else none).any (· == x) = true
      ↔ ∃ e ∈ s.table.entries, e.distance ≤ s.conf.tag.dUp ∧ e.uplift.map (·.state) = some x := by
    simp only [List.any_eq_true, List.mem_filterMap, beq_iff_eq, exists_eq_right, Option.ite_none_right_eq_some]
  rw [State.sourceReports, ← hown, ← hentries, ← Bool.or_eq_true, ← List.any_append]
  exact Iff.rfl

theorem State.upliftCondition_iff (s : State) : s.upliftCondition = true ↔ s.sourceReports .stop :=
  s.upliftSources_any_iff .stop

/-! ## The limits (R156, R160, R162, R163) -/

/-- What the limits are read from is the same in two states. -/
theorem State.LimitsFormed.carries (h : s.LimitsFormed) (halike : ConditionsAlike s t) (hmoves : ReporterMoves s t) :
    t.LimitsFormed := by
  obtain ⟨hconf, htable, huplift, hopened⟩ := halike
  have hprofile := State.profile_congr hconf hopened
  have hderates : t.derates = s.derates := by
    funext e
    rw [State.derates, State.derates, hconf, State.conflicts_congr (by rw [hconf]) hopened]
  have hsource (x : UpliftState) : t.sourceReports x ↔ s.sourceReports x := by
    rw [State.sourceReports, State.sourceReports, huplift, htable, hconf]
  unfold State.LimitsFormed at h ⊢
  simp only [hsource, htable, hderates, hprofile, hconf]
  rw [hmoves]
  exact h

/-- The limits stand as formed where each register holds what its rule gives. -/
theorem State.limitsFormed_of (hopen : s.isOpen = true) (hcount : s.coord.derateCount = s.derateNeighbours)
    (hderate : s.coord.limitDerate = s.derateLimit) (hconnection : s.coord.limitConnection = s.connectionLimit)
    (huplift : s.coord.limitUplift = s.upliftLimit) (hlimit : s.coord.limit = s.stepLimit) : s.LimitsFormed := by
  have hneighbours : s.derateNeighbours = s.table.entries.countP s.derates := by
    rw [List.countP_eq_length_filter]
    rfl
  have hstop := s.upliftSources_any_iff .stop
  have halert := s.upliftSources_any_iff .alert
  refine ⟨hcount.trans hneighbours, by rw [hderate, hcount]; rfl, ?_, fun h => ?_, fun hno h => ?_, fun hno hnone => ?_,
    by rw [hlimit, hderate, hconnection, huplift]; rfl⟩
  · rw [hconnection, State.connectionLimit, hopen]
    simp [State.named]
  · rw [huplift, State.upliftLimit, State.upliftCondition, hstop.mpr h]
    simp
  · rw [huplift, State.upliftLimit, State.upliftCondition, Bool.eq_false_iff.mpr (hstop.not.mpr hno), halert.mpr h,
      hopen]
    rfl
  · rw [huplift, State.upliftLimit, Bool.eq_false_iff.mpr (halert.not.mpr hnone), Bool.and_false]
    rfl

/-- R163: with a stage open the limits are formed, and the step limit is handed to the Regulator. -/
theorem State.formLimits_limitsFormed (h : s.isOpen = true) : s.formLimits.LimitsFormed := by
  let formed : State :=
    { s with coord := { s.coord with
        causes := s.standoffCauses
        limitConnection := s.connectionLimit
        limitUplift := s.upliftLimit
        limitDerate := s.derateLimit
        derateCount := s.derateNeighbours
        limit := s.stepLimit } }
  have hformed : formed.LimitsFormed := State.limitsFormed_of h rfl rfl rfl rfl rfl
  have hhanded : ∃ n, s.formLimits = formed.recomputeStep n := by
    simp only [State.formLimits, h, if_true]
    exact ⟨_, rfl⟩
  obtain ⟨n, hhanded⟩ := hhanded
  rw [hhanded]
  exact hformed.carries (.of_phaseFrame (formed.recomputeStep_phaseFrame n)) (.of_coord (formed.recomputeStep_coord n))

/-! ## The supply class and demands (R164) -/

/-- R164: the table, by the phase and the refusal timer. -/
theorem DemandFormed.of_registers (hcritical : t.coord.critical = s.ownCritical)
    (hpublished : t.coord.published = s.publishedDemand) (hcomputation : t.coord.computation = s.computationDemand) :
    DemandFormed s t := by
  rw [DemandFormed, hcritical, hpublished, hcomputation]
  refine ⟨fun st hst hp => ?_, fun hp => ?_⟩
  · have hphase : s.phase = .injecting := (State.phase_of_stage hst).trans hp
    simp [State.ownCritical, State.publishedDemand, State.computationDemand, hst, hp, hphase]
  · have hnormal : s.ownCritical = false := by
      unfold State.ownCritical
      split
      · next st hst => simp [← State.phase_of_stage hst, hp]
      · rfl
    simp [State.publishedDemand, State.computationDemand, hp, hnormal]

/-- R149: the limits leave the supply class and the demands. -/
theorem State.formLimits_demand (s : State) :
    s.formLimits.coord.critical = s.coord.critical ∧ s.formLimits.coord.published = s.coord.published
      ∧ s.formLimits.coord.computation = s.coord.computation := by
  unfold State.formLimits State.setLimit
  simp only
  split <;> simp

/-! ## One general evaluation -/

/-- R164: the supply class and the demands that an evaluation forms. -/
theorem State.evaluateOnce_demandFormed (hw : s.working = true) : DemandFormed s s.evaluateOnce := by
  obtain ⟨hcritical, hpublished, hcomputation⟩ := s.formDemand.formLimits_demand
  have hmoves := State.evaluateOnce_reporterMoves hw
  apply DemandFormed.of_registers <;> rw [hmoves]
  · exact hcritical
  · exact hpublished
  · exact hcomputation

/-- R156, R160, R162, R163: the limits that an evaluation forms while a stage is open. -/
theorem State.evaluateOnce_limitsFormed (hw : s.working = true) (hopen : s.phase ≠ .vacant) :
    s.evaluateOnce.LimitsFormed := by
  have hformed := State.formLimits_limitsFormed (s := s.formDemand) (s.isOpen_iff.mpr hopen)
  refine hformed.carries (.of_phaseFrame ?_) (State.evaluateOnce_reporterMoves hw)
  rw [State.evaluateOnce_eq hw]
  exact State.present_phaseFrame _ _ _

/-- R163: while no stage is open the step limit stands. -/
theorem State.evaluateOnce_limit_of_vacant (hw : s.working = true) (hvacant : s.phase = .vacant) :
    s.evaluateOnce.coord.limit = s.coord.limit := by
  have hclosed : s.formDemand.isOpen = false := by
    rw [← Bool.not_eq_true, State.isOpen_iff]
    exact not_not.mpr hvacant
  obtain ⟨-, -, hlimit, -⟩ := State.formLimits_of_vacant hclosed
  rw [State.evaluateOnce_reporterMoves hw]
  exact hlimit

end

end Sys2Proof.Machine
end

section
/-! SUPPORT. The limits and UPLIFT across a second boundary, in every order of its parts: each part leaves them as they
stand or ends in a general evaluation, which forms them anew (R145, R148, R155, R162, R163). -/

namespace Sys2Proof.Machine

section
variable {s t u : State} {n : Nat}

/-! ## Where an evaluation leaves them -/

/-- A working station, with the step limit at `n` if no stage is open (R163). -/
def EvaluationDue (n : Nat) (s : State) : Prop :=
  s.working = true ∧ (s.phase = .vacant → s.coord.limit = n)

/-- R162, R163: the limits stand as formed with a stage open, and UPLIFT is kept exactly while a source is in STOP. -/
def Coordinated (n : Nat) (s : State) : Prop :=
  EvaluationDue n s ∧ (s.phase ≠ .vacant → s.LimitsFormed) ∧ (s.seq.kept.uplift = true ↔ s.sourceReports .stop)

theorem EvaluationDue.working (h : EvaluationDue n s) : s.working = true := h.1

theorem Coordinated.evaluationDue (h : Coordinated n s) : EvaluationDue n s := h.1

theorem EvaluationDue.evaluatedOnce (h : EvaluationDue n s) : Coordinated n s.evaluateOnce := by
  obtain ⟨hw, hlimit⟩ := h
  have hvacant := s.evaluateOnce_openAlike
  refine ⟨⟨s.evaluateOnce_working.trans hw, fun hv => ?_⟩, fun hopen => ?_, ?_⟩
  · rw [State.evaluateOnce_limit_of_vacant hw (hvacant.mp hv)]
    exact hlimit (hvacant.mp hv)
  · exact State.evaluateOnce_limitsFormed hw (hvacant.not.mp hopen)
  · rw [State.evaluateOnce_kept hw, ← State.upliftCondition_iff,
      (ConditionsAlike.of_phaseFrame s.evaluateOnce_phaseFrame).uplift]
    exact Iff.rfl

/-- R148: whatever it finds, a general evaluation of a working station leaves limits and UPLIFT as they are to be. -/
theorem EvaluationDue.evaluated (h : EvaluationDue n s) : Coordinated n s.evaluate := by
  obtain ⟨hdue, hstands⟩ := h.evaluatedOnce
  unfold State.evaluate
  simp only
  split
  · exact ⟨hdue, hstands⟩
  · exact hdue.evaluatedOnce

/-! ## Parts that leave them -/

/-- From `s` to `t` the limits, UPLIFT and all that they are read from stand. -/
def CoordinationStands (s t : State) : Prop :=
  ConditionsAlike s t ∧ ReporterMoves s t ∧ t.seq.kept.uplift = s.seq.kept.uplift ∧ OpenAlike s t

theorem CoordinationStands.of_same (hconf : t.conf = s.conf) (htable : t.table = s.table) (hcoord : t.coord = s.coord)
    (hseq : t.seq = s.seq) : CoordinationStands s t :=
  ⟨⟨hconf, htable, by rw [hcoord], by rw [hseq]⟩, .of_coord hcoord, by rw [hseq], .of_seq hseq⟩

theorem CoordinationStands.refl (s : State) : CoordinationStands s s := .of_same rfl rfl rfl rfl

theorem CoordinationStands.trans (h : CoordinationStands s t) (k : CoordinationStands t u) :
    CoordinationStands s u := by
  obtain ⟨halike, hmoves, hkept, hopen⟩ := h
  obtain ⟨kalike, kmoves, kkept, kopen⟩ := k
  exact ⟨halike.trans kalike, hmoves.trans kmoves, kkept.trans hkept, hopen.trans kopen⟩

theorem EvaluationDue.stands (h : EvaluationDue n s) (k : CoordinationStands s t) : EvaluationDue n t := by
  obtain ⟨hw, hlimit⟩ := h
  obtain ⟨⟨hconf, -⟩, hmoves, -, hvacant⟩ := k
  refine ⟨(State.working_congr hconf).trans hw, fun hv => ?_⟩
  rw [hmoves]
  exact hlimit (hvacant.mp hv)

theorem Coordinated.stands (h : Coordinated n s) (k : CoordinationStands s t) : Coordinated n t := by
  obtain ⟨hdue, hlimits, huplift⟩ := h
  obtain ⟨halike, hmoves, hkept, hvacant⟩ := id k
  refine ⟨hdue.stands k, fun hopen => (hlimits (hvacant.not.mp hopen)).carries halike hmoves, ?_⟩
  rw [hkept, huplift, ← State.upliftCondition_iff, ← State.upliftCondition_iff, halike.uplift]

/-! ## Every part of a boundary -/

/-- From `s` to `t` they stand, or `t` is a general evaluation of a state with the settings and the step limit of `s`,
VACANT only where `s` is. -/
def LeavesOrEvaluates (s t : State) : Prop :=
  CoordinationStands s t
    ∨ ∃ u : State, u.conf = s.conf ∧ (u.phase = .vacant → s.phase = .vacant) ∧ u.coord.limit = s.coord.limit
        ∧ t = u.evaluate

theorem EvaluationDue.moved (h : EvaluationDue n s) (hconf : u.conf = s.conf)
    (hphase : u.phase = .vacant → s.phase = .vacant) (hlimit : u.coord.limit = s.coord.limit) : EvaluationDue n u := by
  obtain ⟨hw, hvacant⟩ := h
  exact ⟨(State.working_congr hconf).trans hw, fun hv => hlimit.trans (hvacant (hphase hv))⟩

theorem EvaluationDue.leavesOrEvaluates (h : EvaluationDue n s) (k : LeavesOrEvaluates s t) : EvaluationDue n t := by
  obtain hstands | ⟨u, hconf, hphase, hlimit, rfl⟩ := k
  · exact h.stands hstands
  · exact (h.moved hconf hphase hlimit).evaluated.evaluationDue

theorem Coordinated.leavesOrEvaluates (h : Coordinated n s) (k : LeavesOrEvaluates s t) : Coordinated n t := by
  obtain hstands | ⟨u, hconf, hphase, hlimit, rfl⟩ := k
  · exact h.stands hstands
  · exact (h.evaluationDue.moved hconf hphase hlimit).evaluated

theorem LeavesOrEvaluates.evaluate (h : CoordinationStands s u) : LeavesOrEvaluates s u.evaluate := by
  obtain ⟨⟨hconf, -⟩, hmoves, -, hopen⟩ := h
  exact .inr ⟨u, hconf, hopen.mp, by rw [hmoves], rfl⟩

theorem LeavesOrEvaluates.evaluate_of_seq (hconf : u.conf = s.conf) (hseq : u.seq = s.seq)
    (hcoord : u.coord = s.coord) : LeavesOrEvaluates s u.evaluate :=
  .inr ⟨u, hconf, (OpenAlike.of_seq hseq).mp, by rw [hcoord], rfl⟩

/-- A change of the stage record alone that leaves what OPEN fixed and the phase. -/
theorem State.modStage_stands {f : StageRecord → StageRecord}
    (hf : ∀ st, (f st).asOpened = st.asOpened ∧ (f st).phase = st.phase) (s : State) :
    CoordinationStands s (s.modStage f) := by
  choose hopened hphase using hf
  exact ⟨⟨rfl, rfl, rfl, State.modStage_opened hopened s⟩, .of_coord rfl, rfl,
    .of_phase (State.modStage_phase hphase s)⟩

theorem State.makeCurrent_stands (m : Nat) (s : State) : CoordinationStands s (s.makeCurrent m) := by
  refine ⟨⟨by simp, by simp, by simp, ?_⟩, .of_coord (by simp), ?_, .of_phase (s.makeCurrent_phase m)⟩
  · rw [State.makeCurrent_stage]
    exact State.modStage_opened (by intro st; rfl) s
  · unfold State.makeCurrent
    simp only
    split <;> simp

/-- R90: a mix that times out, or waits on, leaves the Coordination Unit alone. -/
theorem State.boundaryMix_stands (s : State) : CoordinationStands s s.boundaryMix := by
  unfold State.boundaryMix
  split
  · split
    · have hreported : CoordinationStands s (s.report .mixTimeout (some (.channel .density))) :=
        .of_same (by simp) (by simp) (by simp) (by simp)
      exact (hreported.trans (State.modStage_stands (by intro st; exact ⟨rfl, rfl⟩) _)).trans
        (State.makeCurrent_stands _ _)
    · exact State.modStage_stands (by intro st; exact ⟨rfl, rfl⟩) s
  · exact .refl s

/-- R28: nor does a stage held longer, but for the reporter side where the hold closes it. -/
theorem State.boundaryHold_stands (hp : s.phase = .holding) : CoordinationStands s s.boundaryHold := by
  have hheld : CoordinationStands s s.heldLonger := State.modStage_stands (by intro st; exact ⟨rfl, rfl⟩) s
  rcases s.boundaryHold_cases with h | h <;> rw [h]
  · exact hheld
  · obtain ⟨-, -, -, halike⟩ := id hheld
    have hopen : s.heldLonger.phase ≠ .vacant := halike.not.mpr (by simp [hp])
    refine hheld.trans ⟨.of_phaseFrame (State.closeStage_phaseFrame _ _ _ _), ?_, by rw [State.closeStage_kept],
      .of_open hopen (by rw [State.closeStage_phase hopen]; simp)⟩
    exact (ReporterMoves.of_coord (by simp)).trans (State.enterPhase_reporterMoves _ _)

theorem State.boundarySequencer_stands (s : State) : CoordinationStands s s.boundarySequencer := by
  unfold State.boundarySequencer
  split
  · next hp => exact State.boundaryHold_stands hp
  · exact s.boundaryMix_stands
  · exact .refl s

/-- R3, R145, R148: every part but the Coordination Unit's. -/
theorem State.boundaryTask_leavesOrEvaluates {task : BoundaryTask} (h : task ≠ .coordination) (hw : s.working = true)
    (lastSilent : Nat) : LeavesOrEvaluates s (s.boundaryTask lastSilent task) := by
  cases task with
  | coordination => exact absurd rfl h
  | tagTimeout =>
    rw [State.boundaryTask, State.boundaryTag_of_working hw]
    exact .inl (.refl s)
  | sequencer =>
    have hstands := s.boundarySequencer_stands
    simp only [State.boundaryTask, State.settled, State.settle]
    split
    · exact .inl hstands
    · exact .evaluate hstands
  | duplicate =>
    simp only [State.boundaryTask, State.boundaryDuplicate]
    split
    · exact .evaluate_of_seq (by simp) (by simp) (by simp)
    · exact .inl (.refl s)
  | aging =>
    simp only [State.boundaryTask, State.ageEntries]
    split
    · exact .inl (.refl s)
    · exact .evaluate_of_seq (by simp [State.setEntries]) (by simp [State.setEntries]) (by simp [State.setEntries])
  | counters | faults => exact .inl (.of_same (by simp [State.boundaryTask]) (by simp [State.boundaryTask])
      (by simp [State.boundaryTask]) (by simp [State.boundaryTask]))

/-- R154, R155: the Coordination Unit's part ends in a general evaluation. -/
theorem EvaluationDue.boundaryCoordination (h : EvaluationDue n s) : Coordinated n s.boundaryCoordination := by
  have hlistened : EvaluationDue n s.listened := by
    unfold State.listened
    split
    · obtain ⟨-, hlimit⟩ := h
      have hrunning : EvaluationDue n { s with conf := { s.conf with station := .running } } := ⟨rfl, hlimit⟩
      exact hrunning.evaluated.evaluationDue
    · exact h
  have hrefreshed : CoordinationStands s.listened s.listened.refreshSuspects := by
    refine ⟨⟨by simp, by simp, ?_, by simp⟩, ?_, by simp, .of_seq (by simp)⟩
    · unfold State.refreshSuspects
      (repeat' split) <;> simp
    · unfold State.refreshSuspects
      exact .ite (.ite (.refl _) (by simp [ReporterMoves])) (.refl _)
  rw [State.boundaryCoordination_of_working h.working]
  exact (hlistened.stands hrefreshed).evaluated

/-- R155, R162, R163: a second boundary of a working station, whatever the order of its parts. -/
theorem State.boundaryWork_coordinated (ord : BoundaryOrder) (hw : s.working = true) :
    Coordinated s.coord.limit (s.boundaryWork ord) :=
  State.boundaryWork_around (P := EvaluationDue s.coord.limit) (Q := Coordinated s.coord.limit) .coordination ord
    ⟨hw, fun _ => rfl⟩
    (fun _ _ hother hu => hu.leavesOrEvaluates (State.boundaryTask_leavesOrEvaluates hother hu.working _))
    (fun hfound => hfound.boundaryCoordination)
    (fun _ _ hother hu => hu.leavesOrEvaluates (State.boundaryTask_leavesOrEvaluates hother hu.evaluationDue.working _))

end

end Sys2Proof.Machine
end

section
/-! SUPPORT. The allowance of a supply evaluation: its participants, the critical shares, the walk over the normal ones
and the bound Qcap (R165, R166), and the whole obligation (O60). -/

namespace Sys2Proof.Machine

section
variable {s : State}

/-! ## The order of the shares (R166) -/

theorem sharesBefore_eq_false_iff (a b : Participant) : sharesBefore b a = false ↔ a.NoLater b := by
  rw [← Bool.not_eq_true]
  simp only [sharesBefore, Participant.NoLater, Bool.or_eq_true, Bool.and_eq_true, decide_eq_true_eq,
    identityLt_eq_false_iff, identityLt_iff]
  omega

/-- Where one share comes before another, it comes no later. -/
theorem Participant.NoLater.of_before {a b : Participant} (h : sharesBefore a b = true) : a.NoLater b := by
  simp only [sharesBefore, Participant.NoLater, Bool.or_eq_true, Bool.and_eq_true, decide_eq_true_eq,
    identityLt_eq_false_iff, identityLt_iff] at h ⊢
  omega

/-- An insertion keeps the order. It needs no transitivity, which the order lacks where weights are 0. -/
theorem InShareOrder.insertBy {x : Participant} {l : List Participant} (h : InShareOrder l) :
    InShareOrder (insertBy sharesBefore x l) := by
  induction l with
  | nil => trivial
  | cons y rest ih =>
    rw [Machine.insertBy]
    cases hy : sharesBefore y x with
    | false => exact ⟨(sharesBefore_eq_false_iff x y).mp hy, h⟩
    | true =>
      rw [if_pos rfl]
      cases rest with
      | nil => exact ⟨.of_before hy, trivial⟩
      | cons z rest =>
        obtain ⟨hyz, hrest⟩ := h
        have htail := ih hrest
        rw [Machine.insertBy] at htail ⊢
        cases hz : sharesBefore z x with
        | false =>
          rw [hz] at htail
          exact ⟨.of_before hy, htail⟩
        | true =>
          rw [hz] at htail
          exact ⟨hyz, htail⟩

theorem inShareOrder_sortBy (l : List Participant) : InShareOrder (sortBy sharesBefore l) := by
  induction l with
  | nil => trivial
  | cons x rest ih => exact ih.insertBy

/-! ## The walk (R166) -/

/-- The walk answers the own share of what those before it leave. -/
theorem walkShares_own {before after : List Participant} {me : Participant} (hbefore : ∀ p ∈ before, p.own = false)
    (hme : me.own = true) (left : Nat × Nat) :
    walkShares left.1 left.2 (before ++ me :: after)
      = min me.demand ((before.foldl Participant.takes left).1 * me.weight
          / (before.foldl Participant.takes left).2) := by
  induction before generalizing left with
  | nil => simp [walkShares, hme]
  | cons p rest ih =>
    obtain ⟨hp, hrest⟩ := List.forall_mem_cons.mp hbefore
    rw [List.foldl_cons, ← ih hrest (Participant.takes left p)]
    simp [walkShares, hp, Participant.takes]

/-- What the walk leaves: no more of the remainder, and the weights without those passed. -/
theorem takes_left (before : List Participant) (left : Nat × Nat) :
    (before.foldl Participant.takes left).1 ≤ left.1
      ∧ (before.foldl Participant.takes left).2 = left.2 - (before.map (·.weight)).sum := by
  induction before generalizing left with
  | nil => simp
  | cons p rest ih =>
    obtain ⟨hrem, hweights⟩ := ih (Participant.takes left p)
    rw [List.foldl_cons, hweights, List.map_cons, List.sum_cons]
    refine ⟨hrem.trans (Nat.sub_le _ _), ?_⟩
    simp only [Participant.takes]
    omega

/-! ## The participants (R165) -/

theorem State.participants_eq (s : State) : s.participants = s.ownShare :: s.otherParticipants := rfl

theorem State.mem_otherParticipants_iff (s : State) (p : Participant) :
    p ∈ s.otherParticipants ↔ ∃ e ∈ s.table.entries, ∃ x, e.stage = some x ∧ e.phase = .injecting
      ∧ 0 < x.demand ∧ p = ⟨x.critical, x.demand, e.weight, e.identity, false⟩ := by
  rw [State.otherParticipants, List.mem_filterMap]
  refine exists_congr fun e => and_congr_right fun _ => ?_
  cases e.stage with
  | none => simp
  | some x => simp [and_assoc, @eq_comm _ _ p]

theorem State.mem_participants_iff (s : State) (p : Participant) :
    p ∈ s.participants ↔ p = s.ownShare ∨ ∃ e ∈ s.table.entries, ∃ x, e.stage = some x ∧ e.phase = .injecting
      ∧ 0 < x.demand ∧ p = ⟨x.critical, x.demand, e.weight, e.identity, false⟩ := by
  rw [State.participants_eq, List.mem_cons, State.mem_otherParticipants_iff]

/-- Only the own station's share is its own. -/
theorem State.own_of_ne_ownShare {p : Participant} (h : p ∈ s.participants) (hne : p ≠ s.ownShare) : p.own = false := by
  obtain hown | ⟨e, -, x, -, -, -, rfl⟩ := (s.mem_participants_iff p).mp h
  · exact absurd hown hne
  · rfl

/-! ## The allowance (R165, R166) -/

theorem State.allowanceNow_of_critical (h : s.coord.critical = true) :
    s.allowanceNow = if criticalTotalOf s.participants ≤ s.conf.tag.qCap then s.ownShare.demand
      else s.ownShare.demand * s.conf.tag.qCap / criticalTotalOf s.participants := by
  simp only [State.allowanceNow, h, if_true]
  rfl

/-- The demand of a CRITICAL station is a part of the critical total. -/
theorem State.ownShare_demand_le (h : s.coord.critical = true) :
    s.ownShare.demand ≤ criticalTotalOf s.participants := by
  have hcritical : s.ownShare.critical = true := h
  simp [criticalTotalOf, State.participants_eq, hcritical]

/-- R166: the shares that the walk goes over. -/
def State.normalShares (s : State) : List Participant := s.participants.filter fun p => !p.critical

/-- R166: what the walk begins from: the remainder that the critical total leaves, and the total of the weights. -/
def State.walkStart (s : State) : Nat × Nat :=
  (s.conf.tag.qCap - criticalTotalOf s.participants, (s.normalShares.map (·.weight)).sum)

theorem State.allowanceNow_eq_walk (h : s.coord.critical = false) :
    s.allowanceNow = walkShares s.walkStart.1 s.walkStart.2 (sortBy sharesBefore s.normalShares) := by
  simp only [State.allowanceNow, h]
  rfl

/-- The allowance of a NORMAL station: the share that the walk in order has left for it. -/
theorem State.allowanceNow_of_normal (h : s.coord.critical = false) : ∃ before after : List Participant,
    (before ++ s.ownShare :: after).Perm s.normalShares ∧ InShareOrder (before ++ s.ownShare :: after)
      ∧ s.allowanceNow = min s.ownShare.demand ((before.foldl Participant.takes s.walkStart).1 * s.conf.tag.weight
          / (before.foldl Participant.takes s.walkStart).2) := by
  have hnormal : s.ownShare.critical = false := h
  have hperm := sortBy_perm (earlier := sharesBefore) s.normalShares
  have hmem : s.ownShare ∈ sortBy sharesBefore s.normalShares := by
    rw [hperm.mem_iff, State.normalShares, State.participants_eq]
    simp [hnormal]
  obtain ⟨before, after, hsplit, hfirst⟩ := List.eq_append_cons_of_mem hmem
  have hothers : ∀ p ∈ before, p.own = false := by
    intro p hp
    have hsorted : p ∈ sortBy sharesBefore s.normalShares := hsplit ▸ List.mem_append_left _ hp
    refine State.own_of_ne_ownShare (List.mem_of_mem_filter (hperm.mem_iff.mp hsorted)) ?_
    rintro rfl
    exact hfirst hp
  refine ⟨before, after, hsplit ▸ hperm, hsplit ▸ inShareOrder_sortBy _, ?_⟩
  rw [State.allowanceNow_eq_walk h, hsplit]
  exact walkShares_own hothers rfl _

/-- R165: what overload leaves of a demand, floored. -/
theorem scaled_bounds {demand cap c : Nat} (h : 0 < c) :
    demand * cap / c * c ≤ demand * cap ∧ demand * cap < (demand * cap / c + 1) * c :=
  ⟨Nat.div_mul_le_self _ _, (Nat.div_lt_iff_lt_mul h).mp (Nat.lt_succ_self _)⟩

/-- R165, R166: no allowance exceeds Qcap. -/
theorem State.allowanceNow_le (s : State) : s.allowanceNow ≤ s.conf.tag.qCap := by
  cases h : s.coord.critical with
  | true =>
    have hdemand := State.ownShare_demand_le h
    rw [State.allowanceNow_of_critical h]
    split
    · next hwithin => exact hdemand.trans hwithin
    · exact Nat.div_le_of_le_mul (Nat.mul_le_mul_right _ hdemand)
  | false =>
    obtain ⟨before, after, hperm, -, hshare⟩ := State.allowanceNow_of_normal h
    have hweights := (hperm.map (·.weight)).sum_eq
    obtain ⟨hrem, hleft⟩ := takes_left before s.walkStart
    generalize before.foldl Participant.takes s.walkStart = left at hshare hrem hleft
    have hown : s.conf.tag.weight ≤ left.2 := by
      have hweight : s.ownShare.weight = s.conf.tag.weight := rfl
      rw [List.map_append, List.map_cons, List.sum_append, List.sum_cons, hweight] at hweights
      rw [hleft, State.walkStart, ← hweights]
      omega
    calc s.allowanceNow ≤ left.1 * s.conf.tag.weight / left.2 := hshare ▸ Nat.min_le_right _ _
      _ ≤ left.1 := Nat.div_le_of_le_mul (by rw [Nat.mul_comm]; exact Nat.mul_le_mul_right _ hown)
      _ ≤ s.conf.tag.qCap := hrem.trans (Nat.sub_le _ _)

/-- R165: the class, the demands, C and the number of participants that a supply evaluation leaves. -/
theorem State.formSupply_formed (s : State) :
    s.formSupply.coord.critical = s.ownCritical ∧ s.formSupply.coord.published = s.publishedDemand
      ∧ s.formSupply.coord.computation = s.computationDemand
      ∧ s.formSupply.coord.criticalTotal = criticalTotalOf s.formDemand.participants
      ∧ s.formSupply.coord.participants = s.formDemand.participants.length := by
  unfold State.formSupply State.setAllowance State.supplyRuns
  simp only
  split <;> exact ⟨rfl, rfl, rfl, rfl, rfl⟩

/-- R151: with equal margins two stages overlap in depth from either side alike. -/
theorem overlaps_symm (t1 b1 t2 b2 m : Int) :
    overlaps t1 b1 (t2 - m) (b2 + m) = overlaps t2 b2 (t1 - m) (b1 + m) := by
  rw [Bool.eq_iff_iff]
  simp only [overlaps, Bool.and_eq_true, decide_eq_true_eq]
  omega

end

/-- Settles O60: one evaluation, the boundary that ends in one, the supply evaluation, and the bounds. -/
theorem coordinationStaysInBounds : Obligations.CoordinationStaysInBounds := by
  refine ⟨fun s hw => ?_, fun ord s hopen hw => ?_, fun s => ?_, fun s => ?_, fun s => s.formDemand.allowanceNow_le,
    fun s htop => ?_, overlaps_symm⟩
  · exact ⟨State.evaluateOnce_demandFormed hw, State.evaluateOnce_limitsFormed hw,
      State.evaluateOnce_limit_of_vacant hw⟩
  · obtain ⟨⟨-, hlimit⟩, hlimits, huplift⟩ := State.boundaryWork_coordinated (s := s.atNewSecond) ord hw
    exact ⟨_, exec_secondBoundary_of_open hopen ord, hlimits, hlimit, huplift⟩
  · obtain ⟨hcritical, hpublished, hcomputation, htotal, hcount⟩ := s.formSupply_formed
    exact ⟨.of_registers rfl rfl rfl, .of_registers hcritical hpublished hcomputation, s.formSupply_allowance, htotal,
      hcount⟩
  · refine ⟨s.mem_participants_iff, fun hcritical hwithin => ?_, fun hcritical hover => ?_,
      fun hnormal => State.allowanceNow_of_normal hnormal⟩
    · rw [State.allowanceNow_of_critical hcritical]
      exact if_pos hwithin
    · have hshort : ¬ criticalTotalOf s.participants ≤ s.conf.tag.qCap := Nat.not_le.mpr hover
      rw [State.allowanceNow_of_critical hcritical, if_neg hshort]
      exact scaled_bounds (Nat.zero_lt_of_lt hover)
  · obtain ⟨hlow, hhigh⟩ := s.stepLimit_bounds
    exact ⟨hlow, by omega, by omega⟩

end Sys2Proof.Machine
end
